-- ==== Sys2Proof/Word.lean ====
section
/-! DEFINITION. The word types of the link, the settings and the store. -/

namespace Sys2Proof

/-- One byte of the link or of the one-time store. -/
abbrev Byte := BitVec 8

/-- One 16-bit value of a settings page, a segment field or a link field. -/
abbrev Word16 := BitVec 16

/-- A cavity number, 0 to 2. -/
abbrev CavNo := Fin 3

/-- The three cavities in ascending order. -/
def allCavs : List CavNo := [0, 1, 2]

end Sys2Proof
end

