-- ==== Sys2Proof/Syntax.lean ====
section
/-! DEFINITION. The commands of the block: one constructor per row of spec/opcode_table.json, with
what each carries. The table gives no row any bits. -/

namespace Sys2Proof

/-- A complete, checked request frame addressed to this part, as LNK sees it after R151: the tag of
HEAD, the SEL byte and the payload bytes. Class and CODE are the row's own. -/
structure Request where
  tag : BitVec 3
  sel : Byte
  payload : List Byte
  deriving DecidableEq, Repr

/-- The positions in which START_UP finds one cavity's switches (R102). -/
structure SwitchPositions where
  locked : Bool
  opened : Bool
  doorClosed : Bool
  deriving DecidableEq, Repr

/-- What START_UP reads from outside: the strap pins (R149) and the switches (R102). -/
structure StartInputs where
  unit : BitVec 2
  sw0 : SwitchPositions
  sw1 : SwitchPositions
  sw2 : SwitchPositions
  deriving DecidableEq, Repr

/-- The two switches at the ends of a bolt's travel (05_door_lock.md, section 5.1). -/
inductive EndSwitch where
  | locked
  | opened
  deriving DecidableEq, Repr

/-- The commands, in the order of spec/opcode_table.json. -/
inductive Instr where
  /-- START_UP: power-on, RSTN, or the end of a RESTART reply (R159). -/
  | startUp (inp : StartInputs)
  /-- LINK_OPEN: the last step of start-up (R149). -/
  | linkOpen
  /-- RECEIVED_BYTE: a byte on RXD (R150). -/
  | receivedByte (b : Byte)
  /-- FRAME_CUT: the gap timer expires (R150). -/
  | frameCut
  /-- REPLY_END: the last bit of a reply leaves the line (R151), with the straps and switch positions as
  they stand then, which are read only where a taken RESTART's start-up begins (R159, log entry 9). -/
  | replyEnd (inp : StartInputs)
  /-- CLEAN_START (R6): one start segment index per selected cavity. -/
  | cleanStart (r : Request)
  /-- CLEAN_HOLD (R8). -/
  | cleanHold (r : Request)
  /-- CLEAN_RESUME (R9). -/
  | cleanResume (r : Request)
  /-- CLEAN_ABANDON (R10). -/
  | cleanAbandon (r : Request)
  /-- COOK_SET (R11, R12): setpoint and element set per selected cavity. -/
  | cookSet (r : Request)
  /-- COOK_OFF (R13). -/
  | cookOff (r : Request)
  /-- EVENTS_ACK (R156): an event mask per selected cavity. -/
  | eventsAck (r : Request)
  /-- CONDITIONS_ACK (R146): a condition mask per selected cavity. -/
  | conditionsAck (r : Request)
  /-- FAULT_CLEAR (R143, R144). -/
  | faultClear (r : Request)
  /-- BUDGET_LEND (R94): watts. -/
  | budgetLend (r : Request)
  /-- PART_EVENTS_ACK (R156): a part event mask. -/
  | partEventsAck (r : Request)
  /-- RESTART (R159). -/
  | restart (r : Request)
  /-- CAVITY_STATUS (R155). -/
  | cavityStatus (r : Request)
  /-- TRIP_RECORD (R148). -/
  | tripRecord (r : Request)
  /-- WINDOW_STATUS (R100). -/
  | windowStatus (r : Request)
  /-- PART_STATUS (R155). -/
  | partStatus (r : Request)
  /-- SETTING_READ (R161): page, index, count. -/
  | settingRead (r : Request)
  /-- SETTING_WRITE (R162): page, index, values. -/
  | settingWrite (r : Request)
  /-- STORE_STAGE (R170): the bytes to append. -/
  | storeStage (r : Request)
  /-- STORE_DISCARD (R170). -/
  | storeDiscard (r : Request)
  /-- STORE_BURN (R171). -/
  | storeBurn (r : Request)
  /-- STORE_READ (R173): offset, count. -/
  | storeRead (r : Request)
  /-- BYTE_PROGRAMMING_COMPLETE (R172): the byte as it reads back. -/
  | byteProgrammingComplete (readBack : Byte)
  /-- CAVITY_SAMPLE (R64): one value of a cavity probe, tenths of a degree. -/
  | cavitySample (c : CavNo) (value : Int)
  /-- DOOR_SAMPLE (R64): one value of a door probe, tenths of a degree. -/
  | doorSample (c : CavNo) (value : Int)
  /-- WINDOW_START (R75, R76): the expiry of the window timer after slot 29. -/
  | windowStart
  /-- SLOT_BOUNDARY (R77). -/
  | slotBoundary
  /-- ZERO_CROSSING (R86, R88). -/
  | zeroCrossing
  /-- CYCLE_READING (R86, R88): the RMS voltage of a full cycle in whole volts. -/
  | cycleReading (volts : Nat)
  /-- DROPOUT (R87): the crossing timer expires. -/
  | dropout
  /-- LOCK_SWITCH_CHANGE (R102, R111): one end switch settles in a position. -/
  | lockSwitchChange (c : CavNo) (sw : EndSwitch) (active : Bool)
  /-- DOOR_SWITCH_CHANGE (R114): the door switch settles in a position. -/
  | doorSwitchChange (c : CavNo) (closed : Bool)
  /-- TRAVEL_TIMEOUT (R112, R113). -/
  | travelTimeout (c : CavNo)
  /-- LEVEL_REVIEW (R126). -/
  | levelReview
  /-- TACH_PULSE (R129). -/
  | tachPulse (c : CavNo)
  /-- TACH_TIMER_EXPIRY (R128). -/
  | tachTimerExpiry (c : CavNo)
  deriving DecidableEq, Repr

end Sys2Proof
end

