-- ==== Sys2Proof/Decode.lean ====
section
/-! DEFINITION. The table gives no row any bits ("fields": [] on all 41), so no word spells a
command. Commands reach the part as events and as frames, which Machine/Link.lean reads. -/

namespace Sys2Proof

/-- The command that a word spells by the table's bits: no row has any, so none. -/
def decodeTableWord (_nbits _w : Nat) : Option Instr := none

end Sys2Proof
end

