-- ==== Sys2Proof/Config.lean ====
section
/-! DEFINITION. What is fixed for every P460: times in milliseconds, sizes and ranges that are not
settings. The spec leaves no value of an executed command open, so there is no free value here. -/

namespace Sys2Proof.Config

/-- A slot is half a second (R75). -/
def slotMs : Nat := 500

/-- The slots of one window (R75). -/
def slots : Nat := 30

/-- The gap timer of the receiver (R149). -/
def gapMs : Nat := 20

/-- The crossing timer of the mains monitor (R85). -/
def crossingMs : Nat := 100

/-- How long a return run must have lasted (R88). -/
def returnMs : Nat := 1000

/-- The settling time and the watching interval of the tach timer (R128). -/
def tachMs : Nat := 2000

/-- The level review timer (R126). -/
def reviewMs : Nat := 1000

/-- The window starts at which a starvation counter makes STARVED present (R99). -/
def starvedAt : Nat := 40

/-- Windows in one minute (00_scope.md, Quantities and units). -/
def windowsPerMinute : Nat := 4

/-- A cycle reading enters the ring held to this many volts (R86). -/
def maxVolts : Nat := 300

/-- The readings the mains ring holds (R86). -/
def ringSize : Nat := 8

/-- The range of the cavity probe, tenths of a degree (R61). -/
def cavityLo : Int := -400
def cavityHi : Int := 6000

/-- The range of the door probe, tenths of a degree (R61). -/
def doorLo : Int := -400
def doorHi : Int := 2500

/-- Consecutive samples that make or end a probe fault, and the samples of start-up (R62, R63, R65). -/
def probeRun : Nat := 3

/-- The passes one resolution may make (R39). -/
def maxPasses : Nat := 6

/-- The return indices a call stack holds (R41). -/
def maxDepth : Nat := 3

/-- The bytes of the one-time store (R167). -/
def storeBytes : Nat := 2048

/-- The index entries that lie whole within the store (R167). -/
def maxEntries : Nat := 341

/-- The bytes the staging buffer holds (R170). -/
def stagingBytes : Nat := 64

/-- The frame-start byte SYNC (R150). -/
def sync : Byte := 0xC5

/-- The payload bytes of a request that the receiver stores (R150). -/
def maxPayload : Nat := 48

end Sys2Proof.Config
end

