-- ==== Sys2Proof/Machine/State.lean ====
section
/-! DEFINITION. The state of the P460 as plain data: every record the chapters give, block by block,
with its start-up value as the default, and the queue of waiting commands. -/

namespace Sys2Proof.Machine

/-- Why a command stops the machine. The spec gives every command an effect in every state (a result,
a condition, a trip, a discarded frame), so no command raises one. -/
inductive Fault where
  /-- Raised by no command: the type only fills the host's interface. Safe, since nothing answers it. -/
  | noneRaised
  deriving DecidableEq, Repr

/-- Why a command has no meaning in the model. -/
inductive Refusal where
  /-- Answered by an arm of exec whose command is not modelled yet. Safe: the run stops. -/
  | notModelled (mnemonic : String)
  deriving DecidableEq, Repr

/-! ## Timers -/

/-- How a timer stands. -/
inductive TimerStatus where
  | stopped
  | running
  | paused
  deriving DecidableEq, Repr

/-- A countdown timer with the milliseconds it has left. -/
structure Timer where
  status : TimerStatus := .stopped
  left : Nat := 0
  deriving DecidableEq, Repr

/-! ## Names -/

/-- The state of a cavity (R1). -/
inductive CavState where
  | idle | cooking | locking | cleaning | held | cooldown | unlocking | faulted
  deriving DecidableEq, Repr

/-- The sub-causes of PROGRAM FAULT (R45). -/
inductive ProgramFault where
  | stackFull | stackEmpty | invalidEntry | chainTooLong
  deriving DecidableEq, Repr

/-- The sub-causes of START FAILED (R27). -/
inductive StartFault where
  | doorOpen | lockJam
  deriving DecidableEq, Repr

/-- NONE, or an end cause with its sub-cause (R27). -/
inductive LastEnd where
  | none | completed | abandoned | holdExpired | cycleTime | segmentTimeout
  | programFault (sub : ProgramFault)
  | tripped | recovered
  | startFailed (sub : StartFault)
  deriving DecidableEq, Repr

/-- The six cavity events (R28). -/
inductive CavEvent where
  | cycleBegun | segmentEntered | riseMark | fallMark | cycleEnded | tripped
  deriving DecidableEq, Repr

/-- The seven part events (R157). -/
inductive PartEvent where
  | restarted | mainsDropout | mainsReturn | burnEnded | frameCut | badSum | overrun
  deriving DecidableEq, Repr

/-- The eleven conditions (R133, R134), in the order of the table of R136. -/
inductive Condition where
  | overtemp | sensor | doorHot | doorProbe | doorWarm | lockJam | lockLost | doorForced
  | fanStall | program | starved
  deriving DecidableEq, Repr

/-- A set of cavity events: bit n is the event with mask bit n (08_the_link.md, 8.6). -/
abbrev EventSet := BitVec 6

/-- A set of part events, by mask bit. -/
abbrev PartEventSet := BitVec 7

/-- A set of conditions, by mask bit. -/
abbrev CondSet := BitVec 11

/-- A subset of TOP (bit 0), BASE (bit 1), RING (bit 2). -/
abbrev ElemSet := BitVec 3

/-- The direction of a RAMP (R49). -/
inductive RampDir where
  | up | down
  deriving DecidableEq, Repr

/-- The direction of a mark (R66). -/
inductive MarkDir where
  | rise | fall
  deriving DecidableEq, Repr

/-- The positions of a cavity's channels (00_scope.md, Cavities and channels). -/
inductive Position where
  | cat | top | base | ring
  deriving DecidableEq, Repr

/-! ## Cavity controller -/

/-- The cavity record of R1 with the program place of R36 and the demand of R81. -/
structure Controller where
  state : CavState := .idle
  lastEnd : LastEnd := .none
  events : EventSet := 0
  /-- SPeff, hundredths of a degree. -/
  speff : Nat := 0
  cookSetpoint : Nat := 0
  cookSet : ElemSet := 0
  startSeg : Option Nat := none
  cycle : Nat := 0
  hold : Nat := 0
  segIndex : Option Nat := none
  /-- Return indices, most recent last. -/
  stack : List Nat := []
  elapsed : Nat := 0
  soak : Nat := 0
  direction : Option RampDir := none
  arrived : Bool := false
  markHeld : Bool := false
  demand : Nat := 0
  /-- Whether the recovery of R29 is still to come (log entry 11). -/
  recovering : Bool := false
  deriving DecidableEq, Repr

/-! ## Probe interface -/

/-- One probe (R59). -/
structure Probe where
  reading : Int := 0
  fault : Bool := true
  bad : Nat := 0
  good : Nat := 0
  taken : Nat := 0
  deriving DecidableEq, Repr

/-- An armed mark detector (R66). -/
structure Detector where
  dir : MarkDir
  level : Int
  count : Nat
  deriving DecidableEq, Repr

/-- The probe record of one cavity (R59). -/
structure Probes where
  cavity : Probe := {}
  door : Probe := {}
  doorWarm : Bool := false
  doorHot : Bool := false
  overtemp : Bool := false
  mark : Option Detector := none
  deriving DecidableEq, Repr

/-! ## Lock drive -/

/-- The six lock states (R101). -/
inductive LockState where
  | opened | closing | locked | opening | jammed | unknown
  deriving DecidableEq, Repr

/-- The end a drive is meant to reach (R101). -/
inductive Goal where
  | locked | opened
  deriving DecidableEq, Repr

/-- The motor commands (R101). -/
inductive Motor where
  | towardClosed | towardOpen | stop
  deriving DecidableEq, Repr

/-- The record of one lock drive (R101). The switch positions are those of log entry 2. -/
structure Lock where
  state : LockState := .opened
  goal : Option Goal := none
  attempt : Nat := 1
  timer : Timer := {}
  motor : Motor := .stop
  lockedSw : Bool := false
  openSw : Bool := true
  doorClosed : Bool := true
  mains : Bool := false
  deriving DecidableEq, Repr

/-! ## Fan and catalyst drive -/

/-- The fan speeds (R124). -/
inductive FanSpeed where
  | off | low | high
  deriving DecidableEq, Repr

/-- The states of the tach timer (R124). -/
inductive TachState where
  | stopped | settling | watching
  deriving DecidableEq, Repr

/-- The record of one fan and catalyst drive (R124). -/
structure Fan where
  command : FanSpeed := .off
  /-- The idle speed, OFF or LOW. -/
  idleLow : Bool := false
  probeView : Bool := false
  warmView : Bool := false
  segFlag : Bool := false
  tach : TachState := .stopped
  tachLeft : Nat := 0
  pulseSeen : Bool := false
  stall : Bool := false
  catalyst : Bool := false
  deriving DecidableEq, Repr

/-! ## Condition monitor -/

/-- The trip record (R140). -/
structure TripRecord where
  first : Condition
  later : CondSet
  stateBefore : CavState
  segIndex : Option Nat
  cavityReading : Int
  doorReading : Int
  lockState : LockState
  cycle : Nat
  deriving DecidableEq, Repr

/-- The condition record of one cavity (R132). -/
structure Conditions where
  present : CondSet := 0
  seen : CondSet := 0
  trip : Option TripRecord := none
  deriving DecidableEq, Repr

/-! ## Firing scheduler -/

/-- The per-channel part of the schedule (R74) with the relay it switches (R77). -/
structure Channel where
  demand : Nat := 0
  power : Nat := 0
  granted : Nat := 0
  /-- The slots the channel is placed in, in the order of the scan, no slot twice. -/
  placements : List Nat := []
  shed : Bool := false
  relay : Bool := false
  deriving DecidableEq, Repr

/-- All that is held once per cavity, with the cavity's four channels and its starvation counter. -/
structure Cavity where
  cc : Controller := {}
  prb : Probes := {}
  lock : Lock := {}
  fan : Fan := {}
  cond : Conditions := {}
  cat : Channel := {}
  top : Channel := {}
  base : Channel := {}
  ring : Channel := {}
  starve : Nat := 0
  deriving DecidableEq, Repr

/-- The scheduler's part-wide record (R74, R75). -/
structure Sched where
  lend : Nat := 3000
  budget : Nat := 3000
  vw : Nat := 0
  slot : Option Nat := none
  /-- Channel numbers in the order they are placed (R91). -/
  ranking : List Nat := []
  /-- Runs to the next slot boundary, or from slot 29 to the next window start. -/
  timer : Timer := {}
  deriving DecidableEq, Repr

/-! ## Mains monitor -/

/-- The mains monitor's record (R85). -/
structure Mains where
  present : Bool := false
  /-- Cycle readings, oldest first. -/
  ring : List Nat := []
  crossing : Timer := {}
  /-- The return run: absent, or the milliseconds since the first crossing after a gap (log entry 8). -/
  run : Option Nat := none
  firstReturn : Bool := true
  low : Bool := false
  high : Bool := false
  deriving DecidableEq, Repr

/-! ## Link interface -/

/-- The receiver states (R149). -/
inductive RxState where
  | closed | hunting | assembling
  deriving DecidableEq, Repr

/-- The link's record (R149). -/
structure Link where
  rx : RxState := .closed
  assembly : List Byte := []
  count : Nat := 0
  sum : Byte := 0
  gap : Timer := {}
  unit : BitVec 2 := 0
  reply : List Byte := []
  tag : BitVec 3 := 0
  sending : Bool := false
  partEvents : PartEventSet := 0
  attn : Bool := false
  /-- A RESTART has been taken and its reply has not ended (R159, log entry 9). -/
  restarting : Bool := false
  deriving DecidableEq, Repr

/-! ## Settings file -/

/-- Page 0, the part (R160). -/
structure PartPage where
  fittedCount : Nat := 1
  budgetCeiling : Nat := 3000
  ratedVoltage : Nat := 230
  mainsLow : Nat := 190
  mainsHigh : Nat := 255
  markCount : Nat := 3
  /-- 0 is READ CLEARS, 1 is ACK ONLY. -/
  clearMode : Nat := 0
  partMask : Nat := 0
  travelTimeout : Nat := 40
  deriving DecidableEq, Repr

/-- Page 2, the limits (R160). -/
structure LimitPage where
  cleanCeiling : Nat := 4800
  cookCeiling : Nat := 2750
  overtempMargin : Nat := 300
  unlockLevel : Nat := 2500
  doorWarn : Nat := 950
  doorTrip : Nat := 1200
  cycleLimit : Nat := 180
  holdLimit : Nat := 20
  deriving DecidableEq, Repr

/-- Pages 3 to 5, one cavity's settings (R160). -/
structure CavityPage where
  gain : Nat := 4
  rampBand : Nat := 50
  soakBand : Nat := 100
  /-- A condition mask. -/
  tripEnables : Nat := 0x0108
  /-- A cavity event mask. -/
  attnMask : Nat := 0
  fanOn : Nat := 900
  fanOff : Nat := 750
  deriving DecidableEq, Repr

/-- Page 1: the ratings of one cavity's four channels (R82: channel 4c + p). -/
structure Ratings where
  cat : Nat := 0
  top : Nat := 0
  base : Nat := 0
  ring : Nat := 0
  deriving DecidableEq, Repr

/-- The settings in force, pages 0 to 5. -/
structure Settings where
  part : PartPage := {}
  ratings0 : Ratings := {}
  ratings1 : Ratings := {}
  ratings2 : Ratings := {}
  limits : LimitPage := {}
  cav0 : CavityPage := {}
  cav1 : CavityPage := {}
  cav2 : CavityPage := {}
  deriving DecidableEq, Repr

/-- The bounds of the protected settings (R164): the budget ceiling, the ratings, page 2. -/
structure Bounds where
  budgetCeiling : Nat := 3000
  ratings0 : Ratings := {}
  ratings1 : Ratings := {}
  ratings2 : Ratings := {}
  limits : LimitPage := {}
  deriving DecidableEq, Repr

/-! ## Segment store -/

/-- The kinds of a segment (R30). -/
inductive SegKind where
  | empty | ramp | soak | dwell | coast | link | call | ret | finish
  deriving DecidableEq, Repr

/-- One segment record (R30); the default is a blank record. -/
structure Segment where
  kind : SegKind := .empty
  level : Nat := 0
  rate : Nat := 0
  duration : Nat := 0
  timeout : Nat := 0
  heatSet : ElemSet := 0
  /-- FAN HIGH (bit 0), CATALYST (bit 1), TIMEOUT ABANDON (bit 2). -/
  flags : BitVec 3 := 0
  next : Nat := 255
  deriving DecidableEq, Repr

/-- The segment store: 64 records. -/
abbrev SegStore := Vector Segment 64

/-! ## One-time store -/

/-- The burn states (R167). -/
inductive BurnState where
  | idle | burning | done | failed
  deriving DecidableEq, Repr

/-- The store status (R167). -/
inductive StoreStatus where
  | ok | corrupt | patchError
  deriving DecidableEq, Repr

/-- The memory of the one-time store: cells with rising offsets, none of them blank (0x00). -/
abbrev Memory := List Host.Cell

/-- The one-time store's record (R167). -/
structure Store where
  memory : Memory := []
  staging : List Byte := []
  burn : BurnState := .idle
  /-- The bytes of the burn in flight still to program, in order, with their offsets (R171). -/
  burnLeft : List Host.Cell := []
  status : StoreStatus := .ok
  errorEntry : Option Nat := none
  entryCount : Nat := 0
  patchEnd : Nat := 0
  deriving DecidableEq, Repr

/-! ## The whole state -/

/-- Everything the spec gives the P460, and the commands that wait. -/
structure State where
  cfg : Settings := {}
  bounds : Bounds := {}
  segs : SegStore := Vector.replicate 64 {}
  c0 : Cavity := {}
  c1 : Cavity := {}
  c2 : Cavity := {}
  sched : Sched := {}
  mains : Mains := {}
  /-- The level review timer, one for the part (R126). -/
  review : Timer := ⟨.running, 1000⟩
  link : Link := {}
  store : Store := {}
  pending : List Instr := []
  deriving DecidableEq, Repr

/-- The part right after start-up began on a blank store (log entries 1 and 2), with nothing
commanded yet: every field at its start-up value, cavity 0 fitted and its recovery to come. -/
def State.reset : State := { c0 := { cc := { recovering := true } } }

end Sys2Proof.Machine
end

