-- ==== Sys2Proof/Machine/Ops.lean ====
section
/-! DEFINITION. The named operations over the state's parts: bytes, sets, timers, the memory of the
one-time store, the cavities, their channels, and the settings that name a cavity. -/

namespace Sys2Proof.Machine

/-! ## Bytes (00_scope.md, "Bytes on the link") -/

/-- A 16-bit value from its high and low byte. -/
def word16 (hi lo : Byte) : Word16 := hi ++ lo

/-- The two bytes of an unsigned quantity, high byte first. -/
def bytesOfNat (n : Nat) : List Byte := [BitVec.ofNat 8 (n / 256), BitVec.ofNat 8 n]

/-- The two bytes of a signed temperature, high byte first, two's complement. -/
def bytesOfInt (i : Int) : List Byte := bytesOfNat (BitVec.ofInt 16 i).toNat

/-- One byte from an unsigned quantity. -/
def byteOf (n : Nat) : Byte := BitVec.ofNat 8 n

/-- One byte from a yes or no. -/
def byteOfBool (b : Bool) : Byte := if b then 1 else 0

/-- The sum of bytes modulo 256. -/
def sumBytes (bs : List Byte) : Byte := bs.foldl (· + ·) 0

/-- The byte that brings a run of bytes to 0 modulo 256. -/
def balance (bs : List Byte) : Byte := 0 - sumBytes bs

/-! ## Sets carried as masks (00_scope.md, "Sets and records") -/

/-- Whether member i is in the set. -/
def maskHas {w : Nat} (m : BitVec w) (i : Nat) : Bool := m.getLsbD i

/-- The set with member i. -/
def maskAdd {w : Nat} (m : BitVec w) (i : Nat) : BitVec w := m ||| BitVec.twoPow w i

/-- The set without member i. -/
def maskDel {w : Nat} (m : BitVec w) (i : Nat) : BitVec w := m &&& ~~~ BitVec.twoPow w i

/-- The set without every member of d. -/
def maskMinus {w : Nat} (m d : BitVec w) : BitVec w := m &&& ~~~ d

/-- The mask bit of a cavity event (8.6). -/
def CavEvent.bit : CavEvent → Nat
  | .cycleBegun => 0
  | .segmentEntered => 1
  | .riseMark => 2
  | .fallMark => 3
  | .cycleEnded => 4
  | .tripped => 5

/-- The mask bit of a part event (8.6). -/
def PartEvent.bit : PartEvent → Nat
  | .restarted => 0
  | .mainsDropout => 1
  | .mainsReturn => 2
  | .burnEnded => 3
  | .frameCut => 4
  | .badSum => 5
  | .overrun => 6

/-- The mask bit of a condition (8.6). -/
def Condition.bit : Condition → Nat
  | .overtemp => 0
  | .sensor => 1
  | .doorHot => 2
  | .doorProbe => 3
  | .doorWarm => 4
  | .lockJam => 5
  | .lockLost => 6
  | .doorForced => 7
  | .fanStall => 8
  | .program => 9
  | .starved => 10

/-- The conditions in the order of the table of R136. -/
def allConditions : List Condition :=
  [.overtemp, .sensor, .doorHot, .doorProbe, .doorWarm, .lockJam, .lockLost, .doorForced,
   .fanStall, .program, .starved]

/-- Whether a condition is in a set of conditions. -/
def CondSet.has (m : CondSet) (c : Condition) : Bool := maskHas m c.bit

/-- A set of conditions with one more. -/
def CondSet.add (m : CondSet) (c : Condition) : CondSet := maskAdd m c.bit

/-- A set of conditions without one. -/
def CondSet.del (m : CondSet) (c : Condition) : CondSet := maskDel m c.bit

/-! ## Timers -/

/-- A stopped timer. -/
def Timer.halted : Timer := ⟨.stopped, 0⟩

/-- A timer just loaded and running. -/
def Timer.loaded (ms : Nat) : Timer := ⟨.running, ms⟩

/-- A running timer paused with its remaining time (R121). -/
def Timer.pause (t : Timer) : Timer :=
  if t.status = .running then { t with status := .paused } else t

/-- A paused timer runs on from its remaining time (R122). -/
def Timer.resume (t : Timer) : Timer :=
  if t.status = .paused then { t with status := .running } else t

/-- One millisecond of a timer's time. -/
def Timer.pass (t : Timer) : Timer :=
  if t.status = .running then { t with left := t.left - 1 } else t

/-- Whether a running timer has no time left. -/
def Timer.due (t : Timer) : Bool := t.status = .running && t.left = 0

/-! ## The memory of the one-time store (R167) -/

/-- The byte at an offset; a blank byte reads 0x00. -/
def Memory.read : Memory → Nat → Byte
  | [], _ => 0
  | (k, v) :: rest, a => if a = k then v else Memory.read rest a

/-- The memory with one byte set, in canonical form: a byte set to 0x00 is not listed. -/
def Memory.write : Memory → Nat → Byte → Memory
  | [], a, b => if b = 0 then [] else [(a, b)]
  | (k, v) :: rest, a, b =>
    if a < k then (if b = 0 then (k, v) :: rest else (a, b) :: (k, v) :: rest)
    else if a = k then (if b = 0 then rest else (k, b) :: rest)
    else (k, v) :: Memory.write rest a b

/-- Offsets rise strictly from lo on and no listed byte is blank. -/
def Memory.risingFrom : Nat → Memory → Bool
  | _, [] => true
  | lo, (k, v) :: rest => decide (lo ≤ k) && decide (v ≠ 0) && Memory.risingFrom (k + 1) rest

/-- The canonical form of the memory. -/
def Memory.wf (m : Memory) : Bool := Memory.risingFrom 0 m

/-- One programming operation that left b in the byte: a programmed byte never returns to blank
(R167), so a byte that would read blank keeps what it held. -/
def Memory.program (m : Memory) (a : Nat) (b : Byte) : Memory := if b = 0 then m else m.write a b

/-- The n bytes from an offset upward. -/
def Memory.bytes (m : Memory) (a n : Nat) : List Byte := (List.range n).map fun i => m.read (a + i)

/-! ## Settings of one cavity -/

/-- The settings page of a cavity (R160). -/
def Settings.page (f : Settings) : CavNo → CavityPage
  | 0 => f.cav0
  | 1 => f.cav1
  | 2 => f.cav2

/-- The settings with a cavity's page replaced. -/
def Settings.setPage (f : Settings) (c : CavNo) (p : CavityPage) : Settings :=
  match c with
  | 0 => { f with cav0 := p }
  | 1 => { f with cav1 := p }
  | 2 => { f with cav2 := p }

/-- The ratings of a cavity's channels (R82). -/
def Settings.ratings (f : Settings) : CavNo → Ratings
  | 0 => f.ratings0
  | 1 => f.ratings1
  | 2 => f.ratings2

/-- Whether a cavity's trip enable of a condition is on (R136, R160). -/
def CavityPage.enabled (p : CavityPage) (c : Condition) : Bool := p.tripEnables.testBit c.bit

/-! ## Cavities -/

/-- What a cavity's blocks read of the rest of the part: the settings, the cavity's own page and
ratings, the segment store, and the slot the window stands in. -/
structure Env where
  cfg : Settings
  page : CavityPage
  ratings : Ratings
  segs : SegStore
  slot : Option Nat
  deriving DecidableEq, Repr

/-- The record of a cavity. -/
def State.cav (s : State) : CavNo → Cavity
  | 0 => s.c0
  | 1 => s.c1
  | 2 => s.c2

/-- The state with a cavity's record replaced. -/
def State.setCav (s : State) (c : CavNo) (k : Cavity) : State :=
  match c with
  | 0 => { s with c0 := k }
  | 1 => { s with c1 := k }
  | 2 => { s with c2 := k }

/-- Whether a cavity is fitted (R4). -/
def State.fitted (s : State) (c : CavNo) : Bool := c.val < s.cfg.part.fittedCount

/-- The environment of a cavity. -/
def State.env (s : State) (c : CavNo) : Env :=
  { cfg := s.cfg, page := s.cfg.page c, ratings := s.cfg.ratings c, segs := s.segs,
    slot := s.sched.slot }

/-- The state after one cavity's blocks have done their part. -/
def State.onCav (s : State) (c : CavNo) (f : Env → Cavity → Cavity) : State :=
  s.setCav c (f (s.env c) (s.cav c))

/-- The state after every cavity's blocks have done their part, in ascending order. -/
def State.onCavs (s : State) (f : Env → Cavity → Cavity) : State :=
  ((s.onCav 0 f).onCav 1 f).onCav 2 f

/-- The same for the fitted cavities alone. -/
def State.onFitted (s : State) (f : Env → Cavity → Cavity) : State :=
  let one (s : State) (c : CavNo) : State := if s.fitted c then s.onCav c f else s
  one (one (one s 0) 1) 2

/-- A property of some cavity. -/
def State.anyCav (s : State) (p : Cavity → Bool) : Bool := p s.c0 || p s.c1 || p s.c2

/-- A property of every cavity. -/
def State.allCav (s : State) (p : Cavity → Bool) : Bool := p s.c0 && p s.c1 && p s.c2

/-! ## Channels of a cavity -/

/-- A channel by its position. -/
def Cavity.channel (k : Cavity) : Position → Channel
  | .cat => k.cat
  | .top => k.top
  | .base => k.base
  | .ring => k.ring

/-- The cavity with one channel replaced. -/
def Cavity.setChannel (k : Cavity) (p : Position) (ch : Channel) : Cavity :=
  match p with
  | .cat => { k with cat := ch }
  | .top => { k with top := ch }
  | .base => { k with base := ch }
  | .ring => { k with ring := ch }

/-- The cavity with each channel changed by a function of its position. -/
def Cavity.mapChannels (k : Cavity) (f : Position → Channel → Channel) : Cavity :=
  { k with cat := f .cat k.cat, top := f .top k.top, base := f .base k.base, ring := f .ring k.ring }

/-- The positions in channel order. -/
def allPositions : List Position := [.cat, .top, .base, .ring]

/-- The bit of a heating position in a heat set or element set; CAT has none. -/
def Position.elemBit : Position → Option Nat
  | .cat => none
  | .top => some 0
  | .base => some 1
  | .ring => some 2

/-- Whether a set of elements holds the position's element. CAT is in no set. -/
def ElemSet.hasPos (m : ElemSet) (p : Position) : Bool :=
  match p.elemBit with
  | some i => maskHas m i
  | none => false

/-- The rating of a position (page 1). -/
def Ratings.at (r : Ratings) : Position → Nat
  | .cat => r.cat
  | .top => r.top
  | .base => r.base
  | .ring => r.ring

/-- The cavity and position of channel n = 4c + p (R82). -/
def channelCav (n : Nat) : CavNo := if n < 4 then 0 else if n < 8 then 1 else 2

/-- The position of channel n (R82). -/
def channelPos (n : Nat) : Position :=
  match n % 4 with
  | 0 => .cat
  | 1 => .top
  | 2 => .base
  | _ => .ring

/-- Channel n of the part. -/
def State.chan (s : State) (n : Nat) : Channel := (s.cav (channelCav n)).channel (channelPos n)

/-- The state with channel n replaced. -/
def State.setChan (s : State) (n : Nat) (ch : Channel) : State :=
  s.setCav (channelCav n) ((s.cav (channelCav n)).setChannel (channelPos n) ch)

/-! ## Sheds (R93) -/

/-- Whether a channel holds a placement in the current or a later slot. -/
def Channel.holdsFrom (ch : Channel) (slot : Option Nat) : Bool :=
  match slot with
  | some k => ch.placements.any fun j => k ≤ j
  | none => false

/-- A shed: the relay is released and the placements from the current slot on are removed, with the
shed flag set; a channel without such a placement is not changed (R93). -/
def Channel.shedFrom (slot : Option Nat) (ch : Channel) : Channel :=
  match slot with
  | some k =>
    if ch.placements.any (fun j => k ≤ j) then
      { ch with placements := ch.placements.filter (fun j => j < k), shed := true, relay := false }
    else ch
  | none => ch

/-- A cavity's channels shed where a test of the position asks for it. -/
def Cavity.shedWhere (slot : Option Nat) (p : Position → Bool) (k : Cavity) : Cavity :=
  k.mapChannels fun pos ch => if p pos then ch.shedFrom slot else ch

end Sys2Proof.Machine
end

