-- ==== Sys2Proof/Machine/Flags.lean ====
section
/-! DEFINITION. The results, enumerations and masks of 08_the_link.md section 8.6, the part events,
and ATTN. -/

namespace Sys2Proof.Machine

/-- The sixteen results (8.6). -/
inductive Result where
  | done | clamped | wrongState | notFitted | doorOpen | tooHot | sensor | badArgument
  | isProtected | busy | unknownCode | badLength | badSelect | badPatch | noSpace | storeFault
  deriving DecidableEq, Repr

/-- The value a result has on the link (8.6). -/
def Result.code : Result → Byte
  | .done => 0
  | .clamped => 1
  | .wrongState => 2
  | .notFitted => 3
  | .doorOpen => 4
  | .tooHot => 5
  | .sensor => 6
  | .badArgument => 7
  | .isProtected => 8
  | .busy => 9
  | .unknownCode => 10
  | .badLength => 11
  | .badSelect => 12
  | .badPatch => 13
  | .noSpace => 14
  | .storeFault => 15

/-- DONE and CLAMPED are results of a request that was taken; every other one is a refusal (R154). -/
def Result.refusal : Result → Bool
  | .done => false
  | .clamped => false
  | _ => true

/-- The worse of two results met in one write: DONE below CLAMPED below any refusal (R162). -/
def Result.worse (a b : Result) : Result :=
  if a.refusal then a else if b.refusal then b else if a = .clamped then a else b

/-- The cavity state on the link (8.6). -/
def CavState.code : CavState → Byte
  | .idle => 0
  | .cooking => 1
  | .locking => 2
  | .cleaning => 3
  | .held => 4
  | .cooldown => 5
  | .unlocking => 6
  | .faulted => 7

/-- The lock state on the link (8.6). -/
def LockState.code : LockState → Byte
  | .opened => 0
  | .closing => 1
  | .locked => 2
  | .opening => 3
  | .jammed => 4
  | .unknown => 5

/-- The fan speed on the link (8.6). -/
def FanSpeed.code : FanSpeed → Byte
  | .off => 0
  | .low => 1
  | .high => 2

/-- The last end as one byte, the sub-cause in bits 4 to 7 (8.6). -/
def LastEnd.code : LastEnd → Byte
  | .none => 0
  | .completed => 1
  | .abandoned => 2
  | .holdExpired => 3
  | .cycleTime => 4
  | .segmentTimeout => 5
  | .programFault .stackFull => 0x16
  | .programFault .stackEmpty => 0x26
  | .programFault .invalidEntry => 0x36
  | .programFault .chainTooLong => 0x46
  | .tripped => 7
  | .recovered => 8
  | .startFailed .doorOpen => 0x19
  | .startFailed .lockJam => 0x29

/-- The store status on the link (8.6). -/
def StoreStatus.code : StoreStatus → Byte
  | .ok => 0
  | .corrupt => 1
  | .patchError => 2

/-- The burn state on the link (8.6). -/
def BurnState.code : BurnState → Byte
  | .idle => 0
  | .burning => 1
  | .done => 2
  | .failed => 3

/-- A segment index as one byte, 255 for NONE (8.6). -/
def segIndexCode : Option Nat → Byte
  | some i => byteOf i
  | none => 255

/-- The slot as one byte, 255 for NONE (8.6). -/
def slotCode : Option Nat → Byte
  | some k => byteOf k
  | none => 255

/-- The condition bits that have a trip enable (R160; 8.6, trip enables). -/
def enableBits : Nat := 0x0728

/-- The mask bits that name a cavity event, a condition and a part event (8.6). -/
def cavEventBits : Nat := 0x3F
def conditionBits : Nat := 0x7FF
def partEventBits : Nat := 0x7F

/-- Whether a value sets no bit outside the allowed ones. -/
def withinBits (allowed v : Nat) : Bool := v &&& allowed == v

/-- A part event is set (R157). -/
def State.setPartEvent (s : State) (e : PartEvent) : State :=
  { s with link := { s.link with partEvents := maskAdd s.link.partEvents e.bit } }

/-- Whether a cavity's events meet its attention mask (R158). -/
def State.watches (s : State) (c : CavNo) : Bool :=
  s.fitted c && (s.cav c).cc.events.toNat &&& (s.cfg.page c).attnMask != 0

/-- What ATTN must be (R158): while the link is open, whether some fitted cavity's events, or the part
events, have a member in common with their attention mask. Released until the link opens. -/
def State.attnWanted (s : State) : Bool :=
  s.link.rx != .closed &&
    (s.watches 0 || s.watches 1 || s.watches 2 ||
      s.link.partEvents.toNat &&& s.cfg.part.partMask != 0)

/-- LNK decides ATTN afresh (R158). -/
def State.decideAttn (s : State) : State := { s with link := { s.link with attn := s.attnWanted } }

/-- The next state of a command: ATTN is decided within every event (R158). -/
def State.settled (s : State) : Host.Outcome State Fault Refusal := .next s.decideAttn

end Sys2Proof.Machine
end

