-- ==== Sys2Proof/Machine/Operands.lean ====
section
/-! DEFINITION. The operand forms of the requests: classes, codes, scope and payload lengths
(08_the_link.md, section 8.6), the selection, payload groups, and the frame-level checks (R152). -/

namespace Sys2Proof.Machine

/-- The request codes of section 8.6. -/
inductive ReqKind where
  | cleanStart | cleanHold | cleanResume | cleanAbandon | cookSet | cookOff
  | eventsAck | conditionsAck | faultClear | budgetLend | partEventsAck | restart
  | cavityStatus | tripRecord | windowStatus | partStatus
  | settingRead | settingWrite
  | storeStage | storeDiscard | storeBurn | storeRead
  deriving DecidableEq, Repr

/-- The class of a request: 0 ORDER, 1 LOOK, 2 SETTING, 3 STORE (8.6, Frame). -/
def ReqKind.cls : ReqKind → BitVec 2
  | .cavityStatus => 1
  | .tripRecord => 1
  | .windowStatus => 1
  | .partStatus => 1
  | .settingRead => 2
  | .settingWrite => 2
  | .storeStage => 3
  | .storeDiscard => 3
  | .storeBurn => 3
  | .storeRead => 3
  | _ => 0

/-- The CODE of a request (8.6, Request codes). -/
def ReqKind.code : ReqKind → Byte
  | .cleanStart => 0x10
  | .cleanHold => 0x11
  | .cleanResume => 0x12
  | .cleanAbandon => 0x13
  | .cookSet => 0x20
  | .cookOff => 0x21
  | .eventsAck => 0x30
  | .conditionsAck => 0x31
  | .faultClear => 0x32
  | .budgetLend => 0x40
  | .partEventsAck => 0x41
  | .restart => 0x4F
  | .cavityStatus => 0x01
  | .tripRecord => 0x02
  | .windowStatus => 0x08
  | .partStatus => 0x09
  | .settingRead => 0x01
  | .settingWrite => 0x02
  | .storeStage => 0x01
  | .storeDiscard => 0x02
  | .storeBurn => 0x03
  | .storeRead => 0x04

/-- Every request code, in the order of section 8.6. -/
def allKinds : List ReqKind :=
  [.cleanStart, .cleanHold, .cleanResume, .cleanAbandon, .cookSet, .cookOff, .eventsAck,
   .conditionsAck, .faultClear, .budgetLend, .partEventsAck, .restart, .cavityStatus, .tripRecord,
   .windowStatus, .partStatus, .settingRead, .settingWrite, .storeStage, .storeDiscard, .storeBurn,
   .storeRead]

/-- The request that a class and CODE name; none is an UNKNOWN CODE (R152). -/
def ReqKind.find (cls : BitVec 2) (code : Byte) : Option ReqKind :=
  allKinds.find? fun q => q.cls = cls && q.code = code

/-- What payload length a request requires: a group size per selected cavity for a per-cavity code; a
length, a range, or an even range for a part-wide one (8.6, R152). -/
inductive LenForm where
  | perCavity (size : Nat)
  | fixed (n : Nat)
  | range (lo hi : Nat)
  | evenRange (lo hi : Nat)
  deriving DecidableEq, Repr

/-- The scope and payload length of each request (8.6). -/
def ReqKind.form : ReqKind → LenForm
  | .cleanStart => .perCavity 1
  | .cleanHold => .perCavity 0
  | .cleanResume => .perCavity 0
  | .cleanAbandon => .perCavity 0
  | .cookSet => .perCavity 3
  | .cookOff => .perCavity 0
  | .eventsAck => .perCavity 1
  | .conditionsAck => .perCavity 2
  | .faultClear => .perCavity 0
  | .budgetLend => .fixed 2
  | .partEventsAck => .fixed 1
  | .restart => .fixed 0
  | .cavityStatus => .perCavity 0
  | .tripRecord => .perCavity 0
  | .windowStatus => .fixed 0
  | .partStatus => .fixed 0
  | .settingRead => .fixed 3
  | .settingWrite => .evenRange 4 34
  | .storeStage => .range 1 48
  | .storeDiscard => .fixed 0
  | .storeBurn => .fixed 0
  | .storeRead => .fixed 3

/-- The selected cavities in ascending order: those whose SEL bits are set (8.6, Frame). -/
def selected (sel : Byte) : List CavNo := allCavs.filter fun c => maskHas sel c.val

/-- Whether SEL fits the scope: bits 3 to 7 are 0, and the cavity mask is not 0 for a per-cavity code
and 0 for a part-wide one (R152). -/
def LenForm.selOk (f : LenForm) (sel : Byte) : Bool :=
  match f with
  | .perCavity _ => sel.toNat < 8 && sel != 0
  | _ => sel == 0

/-- Whether LEN is at most 48 and what the code requires for the selection (R152). -/
def LenForm.lenOk (f : LenForm) (sel : Byte) (len : Nat) : Bool :=
  len ≤ Config.maxPayload &&
    match f with
    | .perCavity size => len == size * (selected sel).length
    | .fixed n => len == n
    | .range lo hi => lo ≤ len && len ≤ hi
    | .evenRange lo hi => lo ≤ len && len ≤ hi && len % 2 == 0

/-- The frame-level checks after the code: the result of the first that fails (R152). -/
def ReqKind.frameFault (q : ReqKind) (sel : Byte) (len : Nat) : Option Result :=
  if !q.form.selOk sel then some .badSelect
  else if !q.form.lenOk sel len then some .badLength
  else none

/-- Each selected cavity's payload group, of one size, in ascending order (R153). -/
def groups (size : Nat) (sel : Byte) (payload : List Byte) : List (CavNo × List Byte) :=
  (selected sel).zipIdx.map fun (c, j) => (c, (payload.drop (size * j)).take size)

/-- Byte n of a payload; the frame-level checks have assured that it is there. -/
def at8 (bs : List Byte) (n : Nat) : Byte := bs.getD n 0

/-- The 16-bit value at byte n of a payload, high byte first. -/
def at16 (bs : List Byte) (n : Nat) : Word16 := word16 (at8 bs n) (at8 bs (n + 1))

/-- The 16-bit values of a payload from its first byte on, in pairs of bytes. -/
def wordsOf : List Byte → List Word16
  | hi :: lo :: rest => word16 hi lo :: wordsOf rest
  | _ => []

end Sys2Proof.Machine
end

