-- ==== Sys2Proof/Machine/Fans.lean ====
section
/-! DEFINITION. The fan and catalyst drive (06_cooling_fans_and_catalyst.md): the fan policy, the tach
timer's answer to a change of command. -/

namespace Sys2Proof.Machine

/-- The fan policy: the first row that applies (R125). -/
def Fan.wanted (f : Fan) (st : CavState) : FanSpeed :=
  match st with
  | .faulted => .high
  | .cooldown => .high
  | .cleaning => if f.probeView || f.segFlag || f.warmView then .high else .low
  | .held => if f.probeView || f.segFlag || f.warmView then .high else .low
  | .cooking => if f.probeView || f.warmView then .high else .low
  | .locking => if f.probeView then .high else .low
  | .unlocking => if f.probeView then .high else .low
  | .idle => if f.probeView then .high else if f.idleLow then .low else .off

/-- The fan takes a command: leaving OFF the tach timer settles, going OFF it stops and a stall ends,
and a change between LOW and HIGH leaves it alone (R128, R129). -/
def Fan.take (f : Fan) (cmd : FanSpeed) : Fan :=
  if cmd = f.command then f
  else if cmd = .off then { f with command := .off, tach := .stopped, tachLeft := 0, stall := false }
  else if f.command = .off then
    { f with command := cmd, tach := .settling, tachLeft := Config.tachMs }
  else { f with command := cmd }

/-- The drive decides the command afresh (R125); a stall that ends with it is reported absent (R129). -/
def Cavity.decideFan (k : Cavity) : Cavity :=
  let f := k.fan.take (k.fan.wanted k.cc.state)
  { k with fan := f,
           cond := if k.fan.stall && !f.stall
                   then { k.cond with present := k.cond.present.del .fanStall } else k.cond }

/-- The idle speed on entry to IDLE, from the command held just before (R126). -/
def Fan.setIdle (f : Fan) : Fan := { f with idleLow := f.command != .off }

/-- The level review of one cavity in IDLE with its probe fault view absent (R126). -/
def Cavity.levelReview (e : Env) (k : Cavity) : Cavity :=
  if k.cc.state = .idle && !k.fan.probeView then
    let r := k.prb.cavity.reading
    let low :=
      if (e.page.fanOn : Int) ≤ r then true
      else if r < (e.page.fanOff : Int) then false
      else k.fan.idleLow
    ({ k with fan := { k.fan with idleLow := low } } : Cavity).decideFan
  else k

end Sys2Proof.Machine
end

