-- ==== Sys2Proof/Machine/Lock.lean ====
section
/-! DEFINITION. The lock drive (05_door_lock.md): drives and legs, requests, switch and door changes,
timeouts, mains. Each operation answers the drive's new record and the reports it hands over, those to
the condition monitor first (R120). Who takes the reports is in Machine/Controller.lean. -/

namespace Sys2Proof.Machine

/-- The reports of a lock drive (R120). -/
inductive LockReport where
  /-- To the condition monitor. -/
  | jamPresent | jamAbsent | doorForced
  /-- To the condition monitor, then the cavity controller. -/
  | lockLost
  /-- To the cavity controller. -/
  | jammed | locked | opened | unknown | doorOpened | lockRefused
  deriving DecidableEq, Repr

/-- What a lock drive reads at an event: whether the release check passes (R105), and the travel
timeout in force, in milliseconds (R104). -/
structure LockEnv where
  check : Bool
  travelMs : Nat
  deriving DecidableEq, Repr

/-- The states of travel (R101). -/
def LockState.travelling : LockState → Bool
  | .closing => true
  | .opening => true
  | _ => false

/-- The lock comes to rest in a state: motor STOP, goal absent, timer stopped, attempt 1 (R101). -/
def Lock.rest (l : Lock) (st : LockState) : Lock :=
  { l with state := st, goal := none, attempt := 1, timer := .halted, motor := .stop }

/-- The motor command of a direction of travel. -/
def LockState.motor : LockState → Motor
  | .closing => .towardClosed
  | .opening => .towardOpen
  | _ => .stop

/-- The travel timer loaded with the timeout in force; while mains is absent it stands paused with the
full time (R104). -/
def Lock.freshTimer (e : LockEnv) (l : Lock) : Timer :=
  if l.mains then .loaded e.travelMs else ⟨.paused, e.travelMs⟩

/-- A leg runs: state, goal and attempt set, the timer loaded, and the motor on if mains is present
(R103, R121). -/
def Lock.drive (e : LockEnv) (st : LockState) (g : Goal) (attempt : Nat) (l : Lock) : Lock :=
  { l with state := st, goal := some g, attempt := attempt, timer := l.freshTimer e,
           motor := if l.mains then st.motor else .stop }

/-- Whether a leg in a direction finds its own end switch active and the other inactive (R103). -/
def Lock.atEnd (l : Lock) : LockState → Bool
  | .closing => l.lockedSw && !l.openSw
  | .opening => l.openSw && !l.lockedSw
  | _ => false

/-- The lock enters JAMMED (R119). -/
def Lock.jam (l : Lock) : Lock × List LockReport := (l.rest .jammed, [.jamPresent, .jammed])

/-- A drive ends at rest at its goal (R111). -/
def Lock.arrive (l : Lock) : Goal → Lock × List LockReport
  | .locked => (l.rest .locked, [.locked])
  | .opened => (l.rest .opened, [.opened])

/-- A first or second leg begins; at its end already, it comes to rest without the motor (R103). -/
def Lock.finalLeg (e : LockEnv) (st : LockState) (g : Goal) (attempt : Nat) (l : Lock) :
    Lock × List LockReport :=
  if l.atEnd st then l.arrive g else (l.drive e st g attempt, [])

/-- The turning point of a LOCK drive at the open end (R111): the second leg, or with the door open
the drive is given up there. -/
def Lock.turnLock (e : LockEnv) (l : Lock) : Lock × List LockReport :=
  if l.doorClosed then l.finalLeg e .closing .locked 2 else (l.rest .opened, [.lockRefused])

/-- The turning point of a RELEASE drive at the locked end (R111): the second leg after the release
check, or JAMMED. -/
def Lock.turnRelease (e : LockEnv) (l : Lock) : Lock × List LockReport :=
  if e.check then l.finalLeg e .opening .opened 2 else l.jam

/-- The retry leg of a LOCK drive begins (R112). -/
def Lock.retryLock (e : LockEnv) (l : Lock) : Lock × List LockReport :=
  if l.atEnd .opening then l.turnLock e else (l.drive e .opening .locked 2, [])

/-- The retry leg of a RELEASE drive begins (R113). -/
def Lock.retryRelease (e : LockEnv) (l : Lock) : Lock × List LockReport :=
  if l.atEnd .closing then l.turnRelease e else (l.drive e .closing .opened 2, [])

/-- The end switch of the running leg becomes active (R111). -/
def Lock.endLeg (e : LockEnv) (l : Lock) : Lock × List LockReport :=
  match l.state, l.goal with
  | .opening, some .locked => l.turnLock e
  | .closing, some .opened => l.turnRelease e
  | .closing, _ => l.arrive .locked
  | .opening, _ => l.arrive .opened
  | _, _ => (l, [])

/-! ## Requests (R107) -/

/-- LOCK (R108). -/
def Lock.takeLock (e : LockEnv) (l : Lock) : Lock × List LockReport :=
  match l.state with
  | .opened => if l.doorClosed then l.finalLeg e .closing .locked 1 else (l, [.lockRefused])
  | .unknown => if l.doorClosed then l.finalLeg e .closing .locked 1 else (l, [.lockRefused])
  | .jammed =>
    if l.doorClosed then
      let (l', rs) := l.finalLeg e .closing .locked 1
      (l', .jamAbsent :: rs)
    else (l, [.lockRefused])
  | .locked => (l, [.locked])
  | .opening =>
    if l.goal = some .locked then (l, [])
    else if l.doorClosed then l.finalLeg e .closing .locked 1
    else (l, [.lockRefused])
  | .closing =>
    if l.goal = some .opened then
      ({ l with goal := some .locked, attempt := 1, timer := l.freshTimer e }, [])
    else (l, [])

/-- Whether RELEASE begins a drive from rest: its release check passes, or its first leg finds the bolt
at the open end already, runs no motor and needs no check (R105, R118; DEDUCED, log entry 13). -/
def Lock.mayRelease (e : LockEnv) (l : Lock) : Bool := l.atEnd .opening || e.check

/-- RELEASE (R109). A RELEASE refused by the check sends no report and is not held over. A LOCK drive in
CLOSING makes the check before it is reversed, wherever the bolt stands (log entry 13). -/
def Lock.takeRelease (e : LockEnv) (l : Lock) : Lock × List LockReport :=
  match l.state with
  | .opened => (l, [.opened])
  | .locked => if l.mayRelease e then l.finalLeg e .opening .opened 1 else (l, [])
  | .unknown => if l.mayRelease e then l.finalLeg e .opening .opened 1 else (l, [])
  | .jammed =>
    if l.mayRelease e then
      let (l', rs) := l.finalLeg e .opening .opened 1
      (l', .jamAbsent :: rs)
    else (l, [])
  | .closing =>
    if l.goal = some .opened then (l, [])
    else if e.check then l.finalLeg e .opening .opened 1
    else (l, [])
  | .opening =>
    if l.goal = some .locked then
      ({ l with goal := some .opened, attempt := 1, timer := l.freshTimer e }, [])
    else (l, [])

/-- STOP (R110). -/
def Lock.takeStop (l : Lock) : Lock × List LockReport :=
  if l.state.travelling then (l.rest .unknown, [.unknown]) else (l, [])

/-- A motor running toward open is stopped in UNKNOWN (R106). -/
def Lock.stopOpenDrive (l : Lock) : Lock × List LockReport :=
  if l.motor = .towardOpen then (l.rest .unknown, [.unknown]) else (l, [])

/-! ## Switches (R102, R111, R116, R117) -/

/-- The recorded position of an end switch. -/
def Lock.endSwitch (l : Lock) : EndSwitch → Bool
  | .locked => l.lockedSw
  | .opened => l.openSw

/-- An end switch's new position recorded. -/
def Lock.record (l : Lock) (sw : EndSwitch) (active : Bool) : Lock :=
  match sw with
  | .locked => { l with lockedSw := active }
  | .opened => { l with openSw := active }

/-- The lock state that the two end switches give at start-up (R102). -/
def lockStateOf (lockedSw openSw : Bool) : LockState :=
  match lockedSw, openSw with
  | true, false => .locked
  | false, true => .opened
  | _, _ => .unknown

/-- The drive takes its state from its switches (R102, R123). -/
def Lock.fromSwitches (l : Lock) : Lock := l.rest (lockStateOf l.lockedSw l.openSw)

/-- Whether a switch is the end switch of the leg that a state of travel runs (R111). -/
def LockState.endsAt : LockState → EndSwitch → Bool
  | .closing, .locked => true
  | .opening, .opened => true
  | _, _ => false

/-- A change of an end switch of a fitted cavity's lock, after it has been recorded: a contradiction
(R116), the end of a leg (R111), a lost lock or open end (R117), or nothing more. -/
def Lock.afterSwitch (e : LockEnv) (sw : EndSwitch) (active : Bool) (l : Lock) :
    Lock × List LockReport :=
  if active then
    if l.lockedSw && l.openSw then
      match l.state with
      | .unknown => (l, [])
      | .jammed => (l, [])
      | .locked => (l.rest .unknown, [.lockLost, .unknown])
      | _ => (l.rest .unknown, [.unknown])
    else if l.state.endsAt sw then l.endLeg e
    else (l, [])
  else
    match l.state, sw with
    | .locked, .locked => (l.rest .unknown, [.lockLost, .unknown])
    | .opened, .opened => (l.rest .unknown, [.unknown])
    | _, _ => (l, [])

/-- A debounced change of an end switch (R102). A position that is recorded already is no change. -/
def Lock.switchChange (e : LockEnv) (sw : EndSwitch) (active : Bool) (l : Lock) :
    Lock × List LockReport :=
  if l.endSwitch sw = active then (l, []) else (l.record sw active).afterSwitch e sw active

/-- The door opens in CLOSING: the drive turns toward open with its attempt kept, or jams (R114). -/
def Lock.doorTurn (e : LockEnv) (l : Lock) : Lock × List LockReport :=
  let (l', rs) := if e.check then l.finalLeg e .opening .opened l.attempt else l.jam
  (l', rs ++ [.doorOpened])

/-- A debounced change of the door switch (R114, R115). -/
def Lock.doorChange (e : LockEnv) (closed : Bool) (l : Lock) : Lock × List LockReport :=
  if l.doorClosed = closed then (l, [])
  else
    let l1 := { l with doorClosed := closed }
    if closed then (l1, [])
    else
      match l1.state with
      | .closing => l1.doorTurn e
      | .locked => (l1, [.doorForced])
      | _ => (l1, [])

/-! ## Travel timeouts (R112, R113) -/

/-- The travel timer expires. It runs only in travel with mains present (R104). -/
def Lock.timeout (e : LockEnv) (l : Lock) : Lock × List LockReport :=
  if l.timer.status = .running && l.state.travelling then
    if l.attempt = 1 then
      if l.goal = some .opened then
        if l.doorClosed then l.retryRelease e else l.jam
      else if e.check then l.retryLock e
      else l.jam
    else l.jam
  else (l, [])

/-! ## Mains (R121, R122) -/

/-- Mains has gone: a lock in travel is paused (R121). -/
def Lock.mainsGone (l : Lock) : Lock :=
  if l.state.travelling then { l with mains := false, motor := .stop, timer := l.timer.pause }
  else { l with mains := false }

/-- Mains has returned: a paused drive runs on, an OPENING one after its release check (R122). -/
def Lock.mainsBack (e : LockEnv) (l : Lock) : Lock × List LockReport :=
  let l1 := { l with mains := true }
  match l1.state with
  | .closing => ({ l1 with motor := .towardClosed, timer := l1.timer.resume }, [])
  | .opening =>
    if e.check then ({ l1 with motor := .towardOpen, timer := l1.timer.resume }, [])
    else (l1.rest .unknown, [.unknown])
  | _ => (l1, [])

end Sys2Proof.Machine
end

