-- ==== Sys2Proof/Machine/Conditions.lean ====
section
/-! DEFINITION. State entry of a cavity, the condition monitor and trips (07_conditions_and_trips.md;
01_the_cavity_and_its_cleaning_cycle.md R2, R3). -/

namespace Sys2Proof.Machine

/-! ## State entry (R1, R2, R3) -/

/-- States in which SPeff becomes 0 on entry (R3). -/
def CavState.zeroSpeff : CavState → Bool
  | .idle => true
  | .locking => true
  | .cooldown => true
  | .unlocking => true
  | .faulted => true
  | _ => false

/-- States in which heat is wanted (R2, R81). -/
def CavState.heats : CavState → Bool
  | .cooking => true
  | .cleaning => true
  | _ => false

/-- Whether a channel position may be on in a state (R2). -/
def CavState.allows (st : CavState) (p : Position) : Bool :=
  match st with
  | .cleaning => true
  | .cooking => p != .cat
  | _ => false

/-- The controller's own fields at the entry of a state (R1, R3, R81). -/
def Controller.enter (st : CavState) (c : Controller) : Controller :=
  { c with
    state := st
    speff := if st.zeroSpeff then 0 else c.speff
    demand := if st.heats then c.demand else 0
    cookSetpoint := if st = .cooking then c.cookSetpoint else 0
    cookSet := if st = .cooking then c.cookSet else 0
    startSeg := if st = .locking then c.startSeg else none }

/-- The starvation counter keeps its value in CLEANING and HELD alone (R99). -/
def CavState.keepsStarve : CavState → Bool
  | .cleaning => true
  | .held => true
  | _ => false

/-- The cavity enters a state: the controller's fields, the sheds of R3, the starvation reset of R99,
the catalyst command of R130, the idle speed of R126, and the fan policy of R125. -/
def Cavity.enterState (e : Env) (st : CavState) (k : Cavity) : Cavity :=
  let shed := k.shedWhere e.slot fun p => !st.allows p
  let fan := if st = .idle then k.fan.setIdle else k.fan
  { shed with
    cc := k.cc.enter st
    starve := if st.keepsStarve then k.starve else 0
    cond := if st.keepsStarve then k.cond
            else { k.cond with present := k.cond.present.del .starved }
    fan := { fan with catalyst := fan.catalyst && st = .cleaning } : Cavity }.decideFan

/-- The program is cleared (R38), with the segment fan flag (R124) and the mark detector. -/
def Cavity.clearProgram (k : Cavity) : Cavity :=
  { k with
    cc := { k.cc with segIndex := none, stack := [], elapsed := 0, soak := 0, direction := none,
                      arrived := false, markHeld := false }
    prb := { k.prb with mark := none }
    fan := { k.fan with segFlag := false } }

/-- A cavity event is set (R28). -/
def Cavity.setEvent (v : CavEvent) (k : Cavity) : Cavity :=
  { k with cc := { k.cc with events := maskAdd k.cc.events v.bit } }

/-- The last end is written (R27). -/
def Cavity.writeEnd (v : LastEnd) (k : Cavity) : Cavity := { k with cc := { k.cc with lastEnd := v } }

/-! ## When a condition trips (R136) -/

/-- The table of R136; a FAULTED cavity is not tripped again (R142). -/
def CavState.trips (st : CavState) (p : CavityPage) (c : Condition) : Bool :=
  match c with
  | .overtemp => st != .faulted
  | .doorHot => st != .faulted
  | .doorForced => st != .faulted
  | .doorProbe => st != .faulted && p.enabled .doorProbe
  | .fanStall => st != .faulted && p.enabled .fanStall
  | .doorWarm => false
  | .sensor =>
    match st with
    | .cooking => true
    | .locking => true
    | .cleaning => true
    | .held => true
    | _ => false
  | .lockJam =>
    match st with
    | .locking => p.enabled .lockJam
    | .cleaning => true
    | .held => true
    | .cooldown => true
    | .unlocking => true
    | _ => false
  | .lockLost =>
    match st with
    | .locking => true
    | .cleaning => true
    | .held => true
    | .cooldown => true
    | _ => false
  | .program => st = .cleaning && p.enabled .program
  | .starved => st = .cleaning && p.enabled .starved

/-- Whether a condition that arises in FAULTED joins the later causes (R142). -/
def CavityPage.addsLater (p : CavityPage) : Condition → Bool
  | .doorProbe => p.enabled .doorProbe
  | .fanStall => p.enabled .fanStall
  | .doorWarm => false
  | .program => false
  | .starved => false
  | _ => true

/-! ## The trip (R139, R140) -/

/-- Whether a trip from a state writes the last end TRIPPED (R139, step 7). -/
def CavState.inCycle : CavState → Bool
  | .locking => true
  | .cleaning => true
  | .held => true
  | .cooldown => true
  | .unlocking => true
  | _ => false

/-- The trip record as step 1 writes it; the lock state is written at step 9 (R140). -/
def Cavity.openRecord (first : Condition) (later : CondSet) (k : Cavity) : TripRecord :=
  { first := first, later := later, stateBefore := k.cc.state,
    segIndex := if k.cc.state = .cleaning || k.cc.state = .held then k.cc.segIndex else none,
    cavityReading := k.prb.cavity.reading, doorReading := k.prb.door.reading,
    lockState := k.lock.state, cycle := k.cc.cycle }

/-- The trip, in the order of R139. STOP's UNKNOWN report finds the cavity FAULTED (R110, R14). -/
def Cavity.trip (e : Env) (first : Condition) (later : CondSet) (k : Cavity) : Cavity :=
  let opened := k.openRecord first later
  let k2 := k.enterState e .faulted
  let k4 := if k.cc.state = .cleaning || k.cc.state = .held then k2.clearProgram else k2
  let k6 := { k4 with lock := k4.lock.takeStop.1 }
  let k7 := if k.cc.state.inCycle then k6.writeEnd .tripped else k6
  let k8 := k7.setEvent .tripped
  { k8 with cond := { k8.cond with trip := some { opened with lockState := k8.lock.state } } }

/-! ## Reports to the condition monitor (R133 to R135, R137, R142) -/

/-- A condition that arises is decided against the state: added to the later causes in FAULTED,
a trip where the table gives one, nothing more elsewhere. -/
def Cavity.judge (e : Env) (c : Condition) (k : Cavity) : Cavity :=
  if k.cc.state = .faulted then
    if e.page.addsLater c then
      { k with cond := { k.cond with trip := k.cond.trip.map fun t => { t with later := t.later.add c } } }
    else k
  else if k.cc.state.trips e.page c then k.trip e c 0
  else k

/-- A lasting condition becomes present (R133, R135, R137). -/
def Cavity.onset (e : Env) (c : Condition) (k : Cavity) : Cavity :=
  ({ k with cond := { k.cond with present := k.cond.present.add c, seen := k.cond.seen.add c } }
    : Cavity).judge e c

/-- A lasting condition becomes absent (R133). -/
def Cavity.absent (c : Condition) (k : Cavity) : Cavity :=
  { k with cond := { k.cond with present := k.cond.present.del c } }

/-- A momentary condition is reported (R134). -/
def Cavity.momentary (e : Env) (c : Condition) (k : Cavity) : Cavity :=
  ({ k with cond := { k.cond with seen := k.cond.seen.add c } } : Cavity).judge e c

/-- A set of the conditions in a list. -/
def CondSet.ofList (cs : List Condition) : CondSet := cs.foldl CondSet.add 0

/-- One decision over several conditions present: the first that trips, in the order of the table of
R136, is the first cause, and the others that trip are the later causes (R137). -/
def Cavity.decideAmong (e : Env) (asked : Condition → Bool) (k : Cavity) : Cavity :=
  match allConditions.filter fun c =>
      asked c && k.cond.present.has c && k.cc.state.trips e.page c with
  | [] => k
  | c :: rest => k.trip e c (CondSet.ofList rest)

/-- A state entry is decided: every lasting condition present, against the new state (R137). -/
def Cavity.decideEntry (e : Env) (k : Cavity) : Cavity := k.decideAmong e fun _ => true

end Sys2Proof.Machine
end

