-- ==== Sys2Proof/Machine/Segments.lean ====
section
/-! DEFINITION. The segment store (02_cleaning_programs.md, sections 2.1 and 2.2): records, fields,
link writes and replay writes. -/

namespace Sys2Proof.Machine

/-- The kind a field value 0 to 8 names (R30). -/
def SegKind.ofField : Nat → SegKind
  | 0 => .empty
  | 1 => .ramp
  | 2 => .soak
  | 3 => .dwell
  | 4 => .coast
  | 5 => .link
  | 6 => .call
  | 7 => .ret
  | _ => .finish

/-- The field value of a kind (R30). -/
def SegKind.code : SegKind → Nat
  | .empty => 0
  | .ramp => 1
  | .soak => 2
  | .dwell => 3
  | .coast => 4
  | .link => 5
  | .call => 6
  | .ret => 7
  | .finish => 8

/-- The record at an index of the store; no record stands beyond index 63. -/
def SegStore.at (g : SegStore) (i : Nat) : Segment := g[i]?.getD {}

/-- The store with the record at an index replaced. -/
def SegStore.put (g : SegStore) (i : Nat) (r : Segment) : SegStore := g.setIfInBounds i r

/-- Field f of a record as its 16-bit value (R30). -/
def Segment.field (r : Segment) : Nat → Nat
  | 0 => r.kind.code
  | 1 => r.level
  | 2 => r.rate
  | 3 => r.duration
  | 4 => r.timeout
  | 5 => r.heatSet.toNat
  | 6 => r.flags.toNat
  | _ => r.next

/-- A record with field f stored (R30). -/
def Segment.setField (r : Segment) (f v : Nat) : Segment :=
  match f with
  | 0 => { r with kind := SegKind.ofField v }
  | 1 => { r with level := v }
  | 2 => { r with rate := v }
  | 3 => { r with duration := v }
  | 4 => { r with timeout := v }
  | 5 => { r with heatSet := BitVec.ofNat 3 v }
  | 6 => { r with flags := BitVec.ofNat 3 v }
  | _ => { r with next := v }

/-- Whether a value lies within the range of field f (R30). -/
def segFieldInRange (f v : Nat) : Bool :=
  match f with
  | 0 => v ≤ 8
  | 1 => v ≤ 6000
  | 2 => 1 ≤ v && v ≤ 30
  | 3 => 1 ≤ v && v ≤ 600
  | 4 => v ≤ 600
  | 5 => v ≤ 7
  | 6 => v ≤ 7
  | _ => v ≤ 63 || v == 255

/-- What replay stores for a value of field f: held in range, the level read as signed (R34). -/
def segReplayValue (f : Nat) (w : Word16) : Nat :=
  match f with
  | 0 => min w.toNat 8
  | 1 => if w.toInt < 0 then 0 else min w.toNat 6000
  | 2 => max 1 (min w.toNat 30)
  | 3 => max 1 (min w.toNat 600)
  | 4 => min w.toNat 600
  | 5 => min w.toNat 7
  | 6 => min w.toNat 7
  | _ => if w.toNat ≤ 63 then w.toNat else 255

/-- Whether a record is one the program can run (R31): neither EMPTY nor incomplete. -/
def Segment.complete (r : Segment) : Bool :=
  match r.kind with
  | .empty => false
  | .ramp => r.rate != 0
  | .soak => r.duration != 0
  | .dwell => r.duration != 0
  | _ => true

/-- FAN HIGH, CATALYST and TIMEOUT ABANDON of the flags field (R30). -/
def Segment.fanHigh (r : Segment) : Bool := maskHas r.flags 0
def Segment.catalyst (r : Segment) : Bool := maskHas r.flags 1
def Segment.timeoutAbandon (r : Segment) : Bool := maskHas r.flags 2

/-- Where a next field leads from index i: 255 is the following index (R37, R40). -/
def Segment.nextFrom (r : Segment) (i : Nat) : Nat := if r.next = 255 then i + 1 else r.next

/-- The segment and field that an address of pages 8 to 15 names (R32). -/
def segAddr (page idx : Nat) : Option (Nat × Nat) :=
  if 8 ≤ page ∧ page ≤ 15 ∧ idx ≤ 63 then some (8 * (page - 8) + idx / 8, idx % 8) else none

/-- Whether the store is busy: a cavity is in LOCKING, CLEANING or HELD (R33). -/
def CavState.runsProgram : CavState → Bool
  | .locking => true
  | .cleaning => true
  | .held => true
  | _ => false

/-- A link write of one value to a segment page (R33): the result, and the state with the value stored
where the result is DONE. -/
def writeSegValue (s : State) (page idx : Nat) (w : Word16) : State × Result :=
  match segAddr page idx with
  | none => (s, .badArgument)
  | some (i, f) =>
    if i < 16 then (s, .isProtected)
    else if s.anyCav (fun k => k.cc.state.runsProgram) then (s, .busy)
    else if segFieldInRange f w.toNat then
      ({ s with segs := s.segs.put i ((s.segs.at i).setField f w.toNat) }, .done)
    else (s, .badArgument)

end Sys2Proof.Machine
end

