-- ==== Sys2Proof/Machine/Program.lean ====
section
/-! DEFINITION. Cleaning programs (02_cleaning_programs.md): resolution, segment entry, segment ends,
and the window-start work of a cavity (01, section 1.5; 04, sections 4.3 and 4.4). -/

namespace Sys2Proof.Machine

/-! ## Resolution (R39 to R45) -/

/-- How a resolution ends: a timed segment is entered, the program finishes, or it fails, leaving a
segment index and a call stack. -/
inductive Resolution where
  | entered (i : Nat) (stack : List Nat)
  | finished (i : Nat) (stack : List Nat)
  | failed (sub : ProgramFault) (i : Option Nat) (stack : List Nat)
  deriving DecidableEq, Repr

/-- What the record at an index says: the resolution ends there, or it is a pass that moves on, or a
pass that fails. -/
inductive Examined where
  | stop (r : Resolution)
  | move (i : Nat) (stack : List Nat)
  | passFails (sub : ProgramFault)
  deriving DecidableEq, Repr

/-- The record at index i examined with the call stack as it stands (R39 to R44). -/
def examine (g : SegStore) (i : Nat) (stack : List Nat) : Examined :=
  if 64 ≤ i then .stop (.failed .invalidEntry none stack)
  else
    let r := g.at i
    match r.kind with
    | .empty => .stop (.failed .invalidEntry (some i) stack)
    | .finish => .stop (.finished i stack)
    | .link => .move (r.nextFrom i) stack
    | .call =>
      if stack.length < Config.maxDepth then .move (r.nextFrom i) (stack ++ [i + 1])
      else .passFails .stackFull
    | .ret =>
      match stack.getLast? with
      | some j => .move j stack.dropLast
      | none => .passFails .stackEmpty
    | _ => if r.complete then .stop (.entered i stack) else .stop (.failed .invalidEntry (some i) stack)

/-- The resolution from an index, with the passes still allowed. The pass count is checked before the
pass acts: the seventh pass ends in CHAIN TOO LONG (R39, R41). -/
def resolve (g : SegStore) : Nat → Nat → List Nat → Resolution
  | 0, i, stack =>
    match examine g i stack with
    | .stop r => r
    | _ => .failed .chainTooLong (some i) stack
  | n + 1, i, stack =>
    match examine g i stack with
    | .stop r => r
    | .move j stack' => resolve g n j stack'
    | .passFails sub => .failed sub (some i) stack

/-! ## Levels -/

/-- A level held to the clean ceiling in force (R35). -/
def Env.target (e : Env) (r : Segment) : Nat := min r.level e.cfg.limits.cleanCeiling

/-- The reading times 10, held between 0 and the clean ceiling times 10 (R9, R16, R48). -/
def Env.speffOfReading (e : Env) (reading : Int) : Nat :=
  min (max reading 0).toNat e.cfg.limits.cleanCeiling * 10

/-! ## Segment entry (R46, R47, R49) -/

/-- The direction a RAMP fixes at entry (R49); absent for the other kinds. -/
def Env.rampDir (e : Env) (r : Segment) (speff : Nat) : Option RampDir :=
  if r.kind = .ramp then some (if speff ≤ e.target r * 10 then .up else .down) else none

/-- The mark detector that a segment arms at entry (R46, R66). -/
def Env.arming (e : Env) (r : Segment) (speff : Nat) : Option Detector :=
  match r.kind, e.rampDir r speff with
  | .ramp, some .up => some ⟨.rise, (e.target r : Int) - e.page.rampBand, 0⟩
  | .ramp, some .down => some ⟨.fall, (e.target r : Int) + e.page.rampBand, 0⟩
  | .coast, _ => some ⟨.fall, e.target r, 0⟩
  | _, _ => none

/-- Whether a segment lets a position take heat (R47, R83, R84). -/
def Segment.allows (r : Segment) (p : Position) : Bool :=
  match p, r.kind with
  | .cat, _ => r.catalyst
  | p, .ramp => r.heatSet.hasPos p
  | p, .soak => r.heatSet.hasPos p
  | _, _ => false

/-- A timed segment is entered (R46, R47). SPeff and D are not changed at entry. -/
def Cavity.enterSegment (e : Env) (i : Nat) (stack : List Nat) (k : Cavity) : Cavity :=
  let r := e.segs.at i
  let shed := k.shedWhere e.slot fun p => !r.allows p
  { shed with
    cc := { k.cc with segIndex := some i, stack := stack, elapsed := 0, soak := 0, arrived := false,
                      markHeld := false, direction := e.rampDir r k.cc.speff,
                      events := maskAdd k.cc.events CavEvent.segmentEntered.bit }
    prb := { k.prb with mark := e.arming r k.cc.speff }
    fan := { k.fan with segFlag := r.fanHigh, catalyst := r.catalyst } : Cavity }.decideFan

/-! ## Ending a cycle (R23) -/

/-- Entry to COOLDOWN with the actions of R23, and the decision of the state entry (R137). -/
def Cavity.enterCooldown (e : Env) (why : LastEnd) (k : Cavity) : Cavity :=
  (((k.writeEnd why).enterState e .cooldown).clearProgram).decideEntry e

/-- A program fault (R45): PROGRAM is raised and trips where its enable is on; otherwise the cycle ends
with PROGRAM FAULT. -/
def Cavity.programFault (e : Env) (sub : ProgramFault) (i : Option Nat) (stack : List Nat)
    (k : Cavity) : Cavity :=
  let k1 : Cavity := { k with cc := { k.cc with segIndex := i, stack := stack } }
  let k2 := k1.momentary e .program
  if k2.cc.state = .faulted then k2 else k2.enterCooldown e (.programFault sub)

/-- The program moves to an index (R37): the resolution and what it ends in. -/
def Cavity.moveTo (e : Env) (i : Nat) (k : Cavity) : Cavity :=
  match resolve e.segs Config.maxPasses i k.cc.stack with
  | .entered j stack => k.enterSegment e j stack
  | .finished j stack =>
    ({ k with cc := { k.cc with segIndex := some j, stack := stack } } : Cavity).enterCooldown e .completed
  | .failed sub j stack => k.programFault e sub j stack

/-- The current timed segment ends and the program moves on (R37). -/
def Cavity.segmentEnds (e : Env) (k : Cavity) : Cavity :=
  match k.cc.segIndex with
  | some i => k.moveTo e ((e.segs.at i).nextFrom i)
  | none => k

/-- Entry to CLEANING from LOCKING (R16). -/
def Cavity.enterCleaning (e : Env) (k : Cavity) : Cavity :=
  match k.cc.startSeg with
  | none => k
  | some start =>
    let k1 := k.enterState e .cleaning
    let k2 : Cavity :=
      { k1 with cc := { k1.cc with speff := e.speffOfReading k.prb.cavity.reading,
                                   cycle := 0, hold := 0, stack := [] } }
    ((k2.setEvent .cycleBegun).moveTo e start).decideEntry e

/-! ## Window-start work (R20) -/

/-- Stage 1 in CLEANING: the cycle counter and its limit (R21), then the elapsed counter (R55) and, in a
SOAK near its target, the soak counter (R52). -/
def Cavity.countCleaning (e : Env) (k : Cavity) : Cavity :=
  let cycle := k.cc.cycle + 1
  let k1 : Cavity := { k with cc := { k.cc with cycle := cycle } }
  if e.cfg.limits.cycleLimit * Config.windowsPerMinute ≤ cycle then k1.enterCooldown e .cycleTime
  else
    match k1.cc.segIndex with
    | none => k1
    | some i =>
      let r := e.segs.at i
      let near := r.kind = .soak && !k1.prb.cavity.fault &&
        ((e.target r : Int) - e.page.soakBand ≤ k1.prb.cavity.reading)
      { k1 with cc := { k1.cc with elapsed := k1.cc.elapsed + 1,
                                   soak := if near then k1.cc.soak + 1 else k1.cc.soak } }

/-- Stage 1 in HELD: the hold counter and its limit (R22). -/
def Cavity.countHeld (e : Env) (k : Cavity) : Cavity :=
  let hold := k.cc.hold + 1
  let k1 : Cavity := { k with cc := { k.cc with hold := hold } }
  if e.cfg.limits.holdLimit * Config.windowsPerMinute ≤ hold then k1.enterCooldown e .holdExpired
  else k1

/-- Stage 1 (R20). -/
def Cavity.stage1 (e : Env) (k : Cavity) : Cavity :=
  match k.cc.state with
  | .cleaning => k.countCleaning e
  | .held => k.countHeld e
  | _ => k

/-- SPeff of a CLEANING cavity at stage 2 (R48). -/
def Cavity.cleaningSpeff (e : Env) (k : Cavity) : Nat :=
  match k.cc.segIndex with
  | none => k.cc.speff
  | some i =>
    let r := e.segs.at i
    match r.kind, k.cc.direction with
    | .ramp, some .down => max (k.cc.speff - r.rate * 25) (e.target r * 10)
    | .ramp, _ => min (k.cc.speff + r.rate * 25) (e.target r * 10)
    | .soak, _ => e.target r * 10
    | _, _ => e.speffOfReading k.prb.cavity.reading

/-- Stage 2: SPeff for the state the cavity is now in (R48, R78). -/
def Cavity.stage2 (e : Env) (k : Cavity) : Cavity :=
  let v :=
    match k.cc.state with
    | .cleaning => k.cleaningSpeff e
    | .held => e.speffOfReading k.prb.cavity.reading
    | .cooking => k.cc.cookSetpoint * 10
    | _ => 0
  { k with cc := { k.cc with speff := v } }

/-- Whether the segment's own ending falls due at stage 3 (R50 to R54). -/
def Cavity.endingDue (r : Segment) (k : Cavity) : Bool :=
  match r.kind with
  | .ramp => k.cc.arrived && k.cc.markHeld
  | .soak => r.duration * Config.windowsPerMinute ≤ k.cc.soak
  | .dwell => r.duration * Config.windowsPerMinute ≤ k.cc.elapsed
  | .coast => k.cc.markHeld
  | _ => false

/-- Whether the segment's timeout falls due (R56). -/
def Cavity.timeoutDue (r : Segment) (k : Cavity) : Bool :=
  r.timeout != 0 && r.timeout * Config.windowsPerMinute ≤ k.cc.elapsed

/-- A RAMP decides arrived afresh (R50). -/
def Cavity.decideArrived (e : Env) (r : Segment) (k : Cavity) : Cavity :=
  if r.kind = .ramp then
    { k with cc := { k.cc with arrived := k.cc.speff = e.target r * 10 } }
  else k

/-- Stage 3: a segment whose ending falls due ends, its own ending before its timeout (R20, R56). -/
def Cavity.stage3 (e : Env) (k : Cavity) : Cavity :=
  match k.cc.state, k.cc.segIndex with
  | .cleaning, some i =>
    let r := e.segs.at i
    let k1 := k.decideArrived e r
    if k1.endingDue r then k1.segmentEnds e
    else if k1.timeoutDue r then
      if r.timeoutAbandon then k1.enterCooldown e .segmentTimeout else k1.segmentEnds e
    else k1
  | _, _ => k

/-- The cavity demand of R79 before door warm is read, from the error in tenths. -/
def demandOf (gain : Nat) (err : Int) : Nat := if err ≤ 0 then 0 else min 30 (err.toNat * gain / 100)

/-- Whether the demand formula applies: COOKING, or CLEANING in a RAMP or SOAK (R79). -/
def Cavity.formulaApplies (e : Env) (k : Cavity) : Bool :=
  match k.cc.state, k.cc.segIndex with
  | .cooking, _ => true
  | .cleaning, some i =>
    match (e.segs.at i).kind with
    | .ramp => true
    | .soak => true
    | _ => false
  | _, _ => false

/-- Stage 4: the cavity demand D (R79), halved while door warm is present (R80). -/
def Cavity.stage4 (e : Env) (k : Cavity) : Cavity :=
  let d :=
    if k.formulaApplies e && !k.prb.cavity.fault then
      demandOf e.page.gain ((k.cc.speff / 10 : Nat) - k.prb.cavity.reading)
    else 0
  { k with cc := { k.cc with demand := if k.prb.doorWarm then d / 2 else d } }

/-- A cavity's window-start work: four stages, each seeing the results of those before it (R20). -/
def Cavity.windowWork (e : Env) (k : Cavity) : Cavity :=
  (((k.stage1 e).stage2 e).stage3 e).stage4 e

/-! ## Marks (R57, R68) -/

/-- A mark is confirmed: the event is set, the detector disarmed and the mark held; in CLEANING an
arrived RAMP, or a COAST, ends (R57). -/
def Cavity.confirmMark (e : Env) (dir : MarkDir) (k : Cavity) : Cavity :=
  let v : CavEvent := match dir with
    | .rise => .riseMark
    | .fall => .fallMark
  let k1 := k.setEvent v
  let k2 : Cavity := { k1 with cc := { k1.cc with markHeld := true }, prb := { k1.prb with mark := none } }
  match k2.cc.state, k2.cc.segIndex with
  | .cleaning, some i =>
    match (e.segs.at i).kind with
    | .ramp => if k2.cc.arrived then k2.segmentEnds e else k2
    | .coast => k2.segmentEnds e
    | _ => k2
  | _, _ => k2

end Sys2Proof.Machine
end

