-- ==== Sys2Proof/Machine/Controller.lean ====
section
/-! DEFINITION. The cavity controller and its lock (01_the_cavity_and_its_cleaning_cycle.md R5 to R19,
R24 to R29; 05_door_lock.md R107, R120): lock reports, requests, the cavity orders, FAULT CLEAR,
and recovery. -/

namespace Sys2Proof.Machine

/-! ## The lock drive within its cavity -/

/-- The release check passes: the cavity probe is not in fault and the reading is below the unlock
level in force (R105). -/
def Cavity.releaseOk (e : Env) (k : Cavity) : Bool :=
  !k.prb.cavity.fault && k.prb.cavity.reading < e.cfg.limits.unlockLevel

/-- What the cavity's lock drive reads at an event (R104, R105). -/
def Cavity.lockEnv (e : Env) (k : Cavity) : LockEnv :=
  { check := k.releaseOk e, travelMs := e.cfg.part.travelTimeout * 100 }

/-! ## What the controller does on a report (R14) -/

/-- The cavity enters IDLE at the end of a cycle or start, and CYCLE ENDED is set (R25, R28). -/
def Cavity.endInIdle (e : Env) (k : Cavity) : Cavity :=
  ((k.enterState e .idle).setEvent .cycleEnded).decideEntry e

/-- A start fails into UNLOCKING (R17, R18): the last end, the state, then the request that the caller
sends, then the decision of the state entry. -/
def Cavity.failStart (e : Env) (why : StartFault) (send : Cavity → Cavity) (k : Cavity) : Cavity :=
  (send ((k.writeEnd (.startFailed why)).enterState e .unlocking)).decideEntry e

/-- The controller's answer to a report, by its state (R14). `send` is how it sends RELEASE. -/
def Cavity.answer (e : Env) (send : Cavity → Cavity) (k : Cavity) : LockReport → Cavity
  | .locked =>
    match k.cc.state with
    | .locking => k.enterCleaning e
    | .unlocking => send k
    | _ => k
  | .opened => if k.cc.state = .unlocking then k.endInIdle e else k
  | .unknown =>
    match k.cc.state with
    | .locking => k.failStart e .lockJam send
    | .unlocking => send k
    | _ => k
  | .jammed =>
    if k.cc.state = .locking && !e.page.enabled .lockJam then k.failStart e .lockJam send else k
  | .doorOpened => if k.cc.state = .locking then k.failStart e .doorOpen id else k
  | .lockRefused =>
    match k.cc.state with
    | .locking => (k.writeEnd (.startFailed .doorOpen)).endInIdle e
    | .unlocking => k.endInIdle e
    | _ => k
  | _ => k

/-- One report handed over: to the condition monitor or to the controller (R120). The controller takes
no action of its own on LOCK LOST in any state (R14, R19). -/
def Cavity.handOver (e : Env) (send : Cavity → Cavity) (k : Cavity) : LockReport → Cavity
  | .jamPresent => k.onset e .lockJam
  | .jamAbsent => k.absent .lockJam
  | .lockLost => k.momentary e .lockLost
  | .doorForced => k.momentary e .doorForced
  | r => k.answer e send r

/-- The lock drive's new record, and its reports handed over in order (R107, R120). -/
def Cavity.afterLock (e : Env) (send : Cavity → Cavity) (res : Lock × List LockReport) (k : Cavity) :
    Cavity :=
  res.2.foldl (fun k r => k.handOver e send r) { k with lock := res.1 }

/-- RELEASE sent and taken at once (R107, R109). No report of a RELEASE makes the controller send
another, so its reports are handed over with nothing more to send. -/
def Cavity.sendRelease (e : Env) (k : Cavity) : Cavity :=
  k.afterLock e id (k.lock.takeRelease (k.lockEnv e))

/-- A change at the lock drive with its reports, on which the controller may send RELEASE (R107). -/
def Cavity.lockChanged (e : Env) (res : Lock × List LockReport) (k : Cavity) : Cavity :=
  k.afterLock e (fun k => k.sendRelease e) res

/-- LOCK sent and taken at once (R7, R107, R108). -/
def Cavity.sendLock (e : Env) (k : Cavity) : Cavity :=
  k.lockChanged e (k.lock.takeLock (k.lockEnv e))

/-! ## The cavity orders (R5 to R13), as a fitted cavity takes them -/

/-- CLEAN START (R6, R7). -/
def Cavity.cleanStart (e : Env) (index : Nat) (k : Cavity) : Cavity × Result :=
  if k.cc.state ≠ .idle then (k, .wrongState)
  else if k.prb.cavity.fault then (k, .sensor)
  else if (e.cfg.limits.unlockLevel : Int) ≤ k.prb.cavity.reading then (k, .tooHot)
  else if !k.lock.doorClosed then (k, .doorOpen)
  else if 64 ≤ index || (e.segs.at index).kind = .empty then (k, .badArgument)
  else if k.lock.state ≠ .opened then (k, .wrongState)
  else
    let k1 := k.enterState e .locking
    let k2 : Cavity := { k1 with cc := { k1.cc with startSeg := some index } }
    ((k2.sendLock e).decideEntry e, .done)

/-- CLEAN HOLD (R8). -/
def Cavity.cleanHold (e : Env) (k : Cavity) : Cavity × Result :=
  match k.cc.state with
  | .cleaning => ((k.enterState e .held).decideEntry e, .done)
  | .held => (k, .done)
  | _ => (k, .wrongState)

/-- The CATALYST flag of the current segment (R130). -/
def Cavity.segCatalyst (e : Env) (k : Cavity) : Bool :=
  match k.cc.segIndex with
  | some i => (e.segs.at i).catalyst
  | none => false

/-- CLEAN RESUME (R9, R130). -/
def Cavity.cleanResume (e : Env) (k : Cavity) : Cavity × Result :=
  if k.cc.state = .held then
    let k1 := k.enterState e .cleaning
    let k2 : Cavity :=
      { k1 with cc := { k1.cc with speff := e.speffOfReading k.prb.cavity.reading, arrived := false }
                fan := { k1.fan with catalyst := k.segCatalyst e } }
    (k2.decideEntry e, .done)
  else (k, .wrongState)

/-- CLEAN ABANDON (R10). -/
def Cavity.cleanAbandon (e : Env) (k : Cavity) : Cavity × Result :=
  match k.cc.state with
  | .locking =>
    ((((k.writeEnd .abandoned).enterState e .unlocking).sendRelease e).decideEntry e, .done)
  | .cleaning => (k.enterCooldown e .abandoned, .done)
  | .held => (k.enterCooldown e .abandoned, .done)
  | .cooldown => (k, .done)
  | .unlocking => (k, .done)
  | _ => (k, .wrongState)

/-- The setpoint held in range, and whether that changed it (R11). -/
def Env.holdSetpoint (e : Env) (v : Int) : Nat × Result :=
  if (e.cfg.limits.cookCeiling : Int) < v then (e.cfg.limits.cookCeiling, .clamped)
  else if v < 0 then (0, .clamped)
  else (v.toNat, .done)

/-- COOK SET (R11, R12). -/
def Cavity.cookSet (e : Env) (setpoint : Int) (elems : Byte) (k : Cavity) : Cavity × Result :=
  if k.cc.state ≠ .idle ∧ k.cc.state ≠ .cooking then (k, .wrongState)
  else if elems = 0 ∨ 8 ≤ elems.toNat then (k, .badArgument)
  else if k.prb.cavity.fault then (k, .sensor)
  else
    let (v, result) := e.holdSetpoint setpoint
    let set : ElemSet := BitVec.ofNat 3 elems.toNat
    if k.cc.state = .idle then
      let k1 := k.enterState e .cooking
      let k2 : Cavity := { k1 with cc := { k1.cc with cookSetpoint := v, cookSet := set, speff := v * 10 } }
      (k2.decideEntry e, result)
    else
      let k1 := k.shedWhere e.slot fun p => k.cc.cookSet.hasPos p && !set.hasPos p
      ({ k1 with cc := { k1.cc with cookSetpoint := v, cookSet := set, speff := v * 10 } }, result)

/-- COOK OFF (R13). -/
def Cavity.cookOff (e : Env) (k : Cavity) : Cavity × Result :=
  match k.cc.state with
  | .idle => (k, .done)
  | .cooking => ((k.enterState e .idle).decideEntry e, .done)
  | _ => (k, .wrongState)

/-- A standing trip condition is present (R143). -/
def Cavity.standingTrip (e : Env) (k : Cavity) : Bool :=
  k.cond.present.has .overtemp || k.cond.present.has .doorHot ||
    (k.cond.present.has .doorProbe && e.page.enabled .doorProbe) ||
    (k.cond.present.has .fanStall && e.page.enabled .fanStall)

/-- FAULT CLEAR (R143, R144), as a fitted cavity takes it. -/
def Cavity.faultClear (e : Env) (k : Cavity) : Cavity × Result :=
  if k.cc.state ≠ .faulted then (k, .wrongState)
  else if !k.releaseOk e then (k, .tooHot)
  else if k.standingTrip e then (k, .wrongState)
  else
    let k1 : Cavity := { k with cond := { k.cond with trip := none } }
    if k1.lock.state = .opened then (k1.endInIdle e, .done)
    else (((k1.enterState e .unlocking).sendRelease e).decideEntry e, .done)

/-! ## The good-sample report and recovery (R24 to R26, R29) -/

/-- The controller takes a good cavity sample (R64, stage 5). -/
def Cavity.goodSample (e : Env) (k : Cavity) : Cavity :=
  if (e.cfg.limits.unlockLevel : Int) ≤ k.prb.cavity.reading then k
  else
    let rests := k.lock.state = .locked || k.lock.state = .unknown
    match k.cc.state with
    | .cooldown =>
      if k.lock.state = .opened then k.endInIdle e
      else if rests then ((k.enterState e .unlocking).sendRelease e).decideEntry e
      else k
    | .unlocking => if rests then k.sendRelease e else k
    | .idle => if rests then k.sendRelease e else k
    | _ => k

/-- The idle speed that recovery sets from the reading (R131). -/
def Cavity.recoverIdle (e : Env) (k : Cavity) : Cavity :=
  ({ k with fan := { k.fan with idleLow := decide ((e.page.fanOff : Int) ≤ k.prb.cavity.reading) } }
    : Cavity).decideFan

/-- Recovery at start-up, in the event of the cavity probe's third sample (R29). A cavity that a trip
has taken to FAULTED is not recovered. -/
def Cavity.recover (e : Env) (k0 : Cavity) : Cavity :=
  let k : Cavity := { k0 with cc := { k0.cc with recovering := false } }
  if k.cc.state = .faulted then k
  else if k.lock.state = .opened then k.recoverIdle e
  else if k.releaseOk e then
    ((((k.writeEnd .recovered).enterState e .unlocking).sendRelease e).decideEntry e)
  else k.enterCooldown e .recovered

end Sys2Proof.Machine
end

