-- ==== Sys2Proof/Machine/Probes.lean ====
section
/-! DEFINITION. The probe interface (03_probes_and_marks.md): samples, probe faults, the mark detector,
door levels and overtemperature. -/

namespace Sys2Proof.Machine

/-- What one sample made of its probe: whether it is a good sample, and whether a fault is reported as
begun or as ended in it. -/
structure SampleClass where
  good : Bool
  onset : Bool
  ended : Bool
  deriving DecidableEq, Repr

/-- A sample of a probe not in fault (R62): the probe, and whether the sample is good. -/
def Probe.sampleSound (inRange : Bool) (v : Int) (p : Probe) : Probe × Bool :=
  if inRange then ({ p with bad := 0, reading := v }, true)
  else if Config.probeRun ≤ p.bad + 1 then ({ p with bad := 0, good := 0, fault := true }, false)
  else ({ p with bad := p.bad + 1 }, false)

/-- A sample of a probe in fault (R63). -/
def Probe.sampleFaulted (inRange : Bool) (v : Int) (p : Probe) : Probe × Bool :=
  if inRange then
    if p.good + 1 < Config.probeRun then ({ p with good := p.good + 1 }, false)
    else ({ p with bad := 0, good := 0, fault := false, reading := v }, true)
  else ({ p with good := 0 }, false)

/-- Stage 1 of a sample (R64): counts, fault and reading move, and the first three samples are counted.
The fault that a probe starts with is reported at the third sample where it still stands (R65). -/
def Probe.sample (lo hi v : Int) (p : Probe) : Probe × SampleClass :=
  let inRange := lo ≤ v && v ≤ hi
  let (q, good) := if p.fault then p.sampleFaulted inRange v else p.sampleSound inRange v
  let third := p.taken + 1 = Config.probeRun
  ({ q with taken := min Config.probeRun (p.taken + 1) },
   { good := good, onset := q.fault && (!p.fault || third), ended := p.fault && !q.fault })

/-- A fault of the cavity probe begins or ends (R62, R63): to the condition monitor and to the fan and
catalyst drive. The controller changes nothing on the report. -/
def Cavity.reportCavityFault (e : Env) (cls : SampleClass) (k : Cavity) : Cavity :=
  if cls.onset then
    let k1 := k.onset e .sensor
    ({ k1 with fan := { k1.fan with probeView := true } } : Cavity).decideFan
  else if cls.ended then
    let k1 := k.absent .sensor
    ({ k1 with fan := { k1.fan with probeView := false } } : Cavity).decideFan
  else k

/-- A fault of the door probe begins or ends (R62, R63). -/
def Cavity.reportDoorFault (e : Env) (cls : SampleClass) (k : Cavity) : Cavity :=
  if cls.onset then k.onset e .doorProbe
  else if cls.ended then k.absent .doorProbe
  else k

/-- A level's condition follows its level when the level changes (R70, R71, R133). -/
def Cavity.levelReport (e : Env) (c : Condition) (was now : Bool) (k : Cavity) : Cavity :=
  if was = now then k else if now then k.onset e c else k.absent c

/-- The overtemperature check (R71). -/
def Cavity.checkOvertemp (e : Env) (k : Cavity) : Cavity :=
  let now : Bool :=
    ((e.cfg.limits.cleanCeiling : Int) + e.cfg.limits.overtempMargin) < k.prb.cavity.reading
  let k1 : Cavity := { k with prb := { k.prb with overtemp := now } }
  k1.levelReport e .overtemp k.prb.overtemp now

/-- The release law on a sample (R64 stage 3, R106): a motor that runs toward open is stopped by a fault
that begins, or by a good sample at or above the unlock level. -/
def Cavity.releaseLaw (e : Env) (cls : SampleClass) (k : Cavity) : Cavity :=
  if cls.onset || (cls.good && (e.cfg.limits.unlockLevel : Int) ≤ k.prb.cavity.reading) then
    k.lockChanged e k.lock.stopOpenDrive
  else k

/-- Whether a reading is on the far side of an armed level (R67). -/
def Detector.farSide (d : Detector) (reading : Int) : Bool :=
  match d.dir with
  | .rise => d.level ≤ reading
  | .fall => reading < d.level

/-- The armed detector takes a cavity sample (R67, R68). -/
def Cavity.markStage (e : Env) (cls : SampleClass) (k : Cavity) : Cavity :=
  match k.prb.mark with
  | none => k
  | some d =>
    if cls.good && d.farSide k.prb.cavity.reading then
      if e.cfg.part.markCount ≤ d.count + 1 then k.confirmMark e d.dir
      else { k with prb := { k.prb with mark := some { d with count := d.count + 1 } } }
    else { k with prb := { k.prb with mark := some { d with count := 0 } } }

/-- Recovery falls after stage 4 of the third sample (R29). -/
def Cavity.recoverStage (e : Env) (third : Bool) (k : Cavity) : Cavity :=
  if third && k.cc.recovering then k.recover e else k

/-- A cavity sample, stage by stage (R64). -/
def Cavity.cavitySample (e : Env) (v : Int) (k : Cavity) : Cavity :=
  let (p, cls) := k.prb.cavity.sample Config.cavityLo Config.cavityHi v
  let third : Bool := p.taken = Config.probeRun
  let k1 : Cavity := { k with prb := { k.prb with cavity := p } }
  let k2 := k1.reportCavityFault e cls
  let k3 := if cls.good then k2.checkOvertemp e else k2
  let k4 := k3.releaseLaw e cls
  let k5 := k4.markStage e cls
  let k6 := k5.recoverStage e third
  if cls.good then k6.goodSample e else k6

/-- Door hot (R70). -/
def Cavity.decideDoorHot (e : Env) (k : Cavity) : Cavity :=
  let now : Bool := (e.cfg.limits.doorTrip : Int) ≤ k.prb.door.reading
  let k1 : Cavity := { k with prb := { k.prb with doorHot := now } }
  k1.levelReport e .doorHot k.prb.doorHot now

/-- Door warm, with its hysteresis of 5.0 degrees (R69). -/
def Probes.warmNow (warn : Nat) (p : Probes) : Bool :=
  if p.doorWarm then !(p.door.reading < (warn : Int) - 50) else (warn : Int) ≤ p.door.reading

/-- Door warm is decided and a change reported to the monitor and the fan drive (R69). -/
def Cavity.decideDoorWarm (e : Env) (k : Cavity) : Cavity :=
  let now := k.prb.warmNow e.cfg.limits.doorWarn
  if k.prb.doorWarm = now then k
  else
    let k1 : Cavity := { k with prb := { k.prb with doorWarm := now } }
    let k2 := k1.levelReport e .doorWarm k.prb.doorWarm now
    ({ k2 with fan := { k2.fan with warmView := now } } : Cavity).decideFan

/-- A door sample, stage by stage (R64). -/
def Cavity.doorSample (e : Env) (v : Int) (k : Cavity) : Cavity :=
  let (p, cls) := k.prb.door.sample Config.doorLo Config.doorHi v
  let k1 : Cavity := { k with prb := { k.prb with door := p } }
  let k2 := k1.reportDoorFault e cls
  if cls.good then (k2.decideDoorHot e).decideDoorWarm e else k2

end Sys2Proof.Machine
end

