-- ==== Sys2Proof/Machine/Scheduler.lean ====
section
/-! DEFINITION. The firing scheduler (04_heat_demand_and_the_firing_window.md): power, channel demand,
ranking, placement, starvation, the window start, slots, and the budget. -/

namespace Sys2Proof.Machine

/-! ## Loads (R74) -/

/-- The part of a slot's load that one channel draws: P where it is placed there. -/
def Channel.loadIn (ch : Channel) (slot : Nat) : Nat :=
  if ch.placements.contains slot then ch.power else 0

/-- The part of a slot's load that one cavity's channels draw. -/
def Cavity.loadIn (k : Cavity) (slot : Nat) : Nat :=
  k.cat.loadIn slot + k.top.loadIn slot + k.base.loadIn slot + k.ring.loadIn slot

/-- The slot load: the sum of P over the channels placed in the slot (R74). -/
def State.slotLoad (s : State) (slot : Nat) : Nat :=
  s.c0.loadIn slot + s.c1.loadIn slot + s.c2.loadIn slot

/-- The slots of a window that remain: the current one and the later ones (R95). -/
def remainingSlots : Option Nat → List Nat
  | some k => (List.range Config.slots).filter fun j => k ≤ j
  | none => []

/-- The peak slot load, over all thirty slots (R100). -/
def State.peakLoad (s : State) : Nat :=
  ((List.range Config.slots).map s.slotLoad).foldl max 0

/-! ## Power and demand (R82 to R84, R90) -/

/-- The effective power P, the quotient rounded half up (R90). -/
def effectivePower (rating vw vr : Nat) : Nat := (rating * vw * vw + vr * vr / 2) / (vr * vr)

/-- Whether a cavity's state and segment, or its element set, let a heating position take D (R83). -/
def Cavity.heatWanted (e : Env) (k : Cavity) (p : Position) : Bool :=
  match k.cc.state, k.cc.segIndex with
  | .cooking, _ => k.cc.cookSet.hasPos p
  | .cleaning, some i =>
    match (e.segs.at i).kind with
    | .ramp => (e.segs.at i).heatSet.hasPos p
    | .soak => (e.segs.at i).heatSet.hasPos p
    | _ => false
  | _, _ => false

/-- The channel demand (R83, R84): CAT takes 30 while the catalyst command is on (R130), a heating
channel its cavity's D where it is wanted; a rating of 0 takes none. -/
def Cavity.channelDemand (e : Env) (k : Cavity) (p : Position) : Nat :=
  if e.ratings.at p = 0 then 0
  else
    match p with
    | .cat => if k.fan.catalyst then Config.slots else 0
    | p => if k.heatWanted e p then k.cc.demand else 0

/-- Stages 4 to 6 for one cavity: the last window's schedule cleared, P and the channel demands
computed (R76). -/
def Cavity.newSchedule (vw : Nat) (e : Env) (k : Cavity) : Cavity :=
  k.mapChannels fun p _ =>
    { demand := k.channelDemand e p, power := effectivePower (e.ratings.at p) vw e.cfg.part.ratedVoltage,
      granted := 0, placements := [], shed := false, relay := false }

/-! ## Ranking and placement (R91, R92) -/

/-- The channel numbers of one cavity, in channel order. -/
def cavityChannels (c : CavNo) : List Nat := (List.range 4).map fun p => 4 * c.val + p

/-- The channels of the cavities in a state, cavity by ascending number, those with demand 0 left out. -/
def State.rankGroup (s : State) (st : CavState) : List Nat :=
  ((allCavs.filter fun c => (s.cav c).cc.state = st).flatMap cavityChannels).filter fun n =>
    (s.chan n).demand != 0

/-- The ranking: cleaning cavities first, cooking cavities second (R91). -/
def State.newRanking (s : State) : List Nat := s.rankGroup .cleaning ++ s.rankGroup .cooking

/-- The slots in the order in which channel n examines them, from its start slot on (R92). -/
def scanOrder (n : Nat) : List Nat := (List.range Config.slots).map fun j => (3 * n + j) % Config.slots

/-- The slots a channel is placed in: the first D examined whose load with P added stays within B
(R92). -/
def placedSlots (load : Nat → Nat) (budget n demand power : Nat) : List Nat :=
  ((scanOrder n).filter fun j => load j + power ≤ budget).take demand

/-- One channel is placed (R92). -/
def State.placeChannel (s : State) (n : Nat) : State :=
  let ch := s.chan n
  let slots := placedSlots s.slotLoad s.sched.budget n ch.demand ch.power
  s.setChan n { ch with placements := slots, granted := slots.length }

/-- Every ranked channel is placed, in rank order; under MAINS LOW none is (R92). -/
def State.placeAll (s : State) : State :=
  if s.mains.low then s else s.sched.ranking.foldl State.placeChannel s

/-! ## Starvation (R98, R99) -/

/-- Whether some channel of a cavity has fewer slots granted than it demands (R98). -/
def Cavity.short (k : Cavity) : Bool :=
  k.cat.granted < k.cat.demand || k.top.granted < k.top.demand ||
    k.base.granted < k.base.demand || k.ring.granted < k.ring.demand

/-- Stage 9 for one cavity (R98, R99). -/
def Cavity.moveStarve (e : Env) (k : Cavity) : Cavity :=
  match k.cc.state with
  | .cleaning =>
    if k.short then
      let k1 : Cavity := { k with starve := k.starve + 1 }
      if Config.starvedAt ≤ k1.starve && !k1.cond.present.has .starved then k1.onset e .starved else k1
    else ({ k with starve := 0 } : Cavity).absent .starved
  | .held => k
  | _ => ({ k with starve := 0 } : Cavity).absent .starved

/-! ## Slots (R77) -/

/-- A channel's relay set for a slot: closed where the channel is placed in it. -/
def Channel.setRelay (slot : Nat) (ch : Channel) : Channel :=
  { ch with relay := ch.placements.contains slot }

/-- A slot begins: the current slot, every relay, and the window timer to the next boundary (R77). -/
def State.beginSlot (s : State) (slot : Nat) : State :=
  let s1 : State := { s with sched := { s.sched with slot := some slot, timer := .loaded Config.slotMs } }
  s1.onCavs fun _ k => k.mapChannels fun _ ch => ch.setRelay slot

/-! ## The window start (R76) -/

/-- The window voltage: the mean of the ring, rounded down (R89). -/
def Mains.voltage (m : Mains) : Nat := m.ring.foldl (· + ·) 0 / m.ring.length

/-- Stage 2: Vw, MAINS LOW and MAINS HIGH (R89). -/
def State.takeVoltage (s : State) : State :=
  let vw := s.mains.voltage
  { s with
    sched := { s.sched with vw := vw }
    mains := { s.mains with low := vw < s.cfg.part.mainsLow, high := s.cfg.part.mainsHigh < vw } }

/-- Stages 3 to 6: B becomes the lend, the last window is cleared and slot 0 stands before the new one,
P and the channel demands are computed (R76). -/
def State.newWindow (s : State) : State :=
  let s1 : State := { s with sched := { s.sched with budget := s.sched.lend, slot := some 0 } }
  s1.onCavs (Cavity.newSchedule s1.sched.vw)

/-- Stage 7 (R91). -/
def State.rank (s : State) : State := { s with sched := { s.sched with ranking := s.newRanking } }

/-- A window start, stage by stage (R76). A trip at stage 9 sheds what stage 8 has placed, before the
relays are set for slot 0 (R139). -/
def State.windowStart (s : State) : State :=
  let s1 := s.onFitted Cavity.windowWork
  let s8 := s1.takeVoltage.newWindow.rank.placeAll
  (s8.onCavs Cavity.moveStarve).beginSlot 0

/-! ## The budget (R94 to R97) -/

/-- Every remaining slot's load is at or below B (R95). -/
def State.withinBudget (s : State) : Bool :=
  (remainingSlots s.sched.slot).all fun j => s.slotLoad j ≤ s.sched.budget

/-- Channel n holds a placement in a remaining slot whose load exceeds B (R95). -/
def State.overloads (s : State) (n : Nat) : Bool :=
  (remainingSlots s.sched.slot).any fun j =>
    (s.chan n).placements.contains j && s.sched.budget < s.slotLoad j

/-- One step of the walk: a channel of an overloaded slot is shed, any other passed over (R95). -/
def State.walkStep (s : State) (n : Nat) : State :=
  if s.withinBudget then s
  else if s.overloads n then s.setChan n ((s.chan n).shedFrom s.sched.slot)
  else s

/-- The walk along the ranking from its last channel toward its first (R95). -/
def State.budgetWalk (s : State) : State := s.sched.ranking.reverse.foldl State.walkStep s

/-- B falls to a value, and the window is brought within it; a value not below B changes nothing. -/
def State.lowerBudget (s : State) (v : Nat) : State :=
  if v < s.sched.budget then
    ({ s with sched := { s.sched with budget := v } } : State).budgetWalk
  else s

/-- A lend is stored, held to the ceiling, and lowers B at once where it is below it (R94). -/
def State.takeLend (s : State) (watts : Nat) : State × Result :=
  let v := min watts s.cfg.part.budgetCeiling
  let s1 : State := { s with sched := { s.sched with lend := v } }
  (s1.lowerBudget v, if watts ≤ s.cfg.part.budgetCeiling then .done else .clamped)

/-- A lowered budget ceiling clamps the lend and B (R97). -/
def State.ceilingLowered (s : State) : State :=
  let v := s.cfg.part.budgetCeiling
  let s1 : State := { s with sched := { s.sched with lend := min s.sched.lend v } }
  s1.lowerBudget v

/-! ## The mains monitor (R85 to R88) -/

/-- A zero crossing restarts the crossing timer, and begins a return run where none runs (R86, R88). -/
def State.crossing (s : State) : State :=
  { s with mains := { s.mains with crossing := .loaded Config.crossingMs
                                   run := some (s.mains.run.getD 0) } }

/-- The return run has lasted 1.0 second or more (R88). -/
def Mains.runIsSteady (m : Mains) : Bool := decide (Config.returnMs ≤ m.run.getD 0)

/-- A reading joins the ring as its newest entry, held to 300 volts; the oldest leaves a full ring
(R86). -/
def ringJoin (ring : List Nat) (volts : Nat) : List Nat :=
  (if ring.length < Config.ringSize then ring else ring.drop 1) ++ [min volts Config.maxVolts]

/-- The lock drives are told that mains has returned (R88, R122). -/
def Cavity.mainsBack (e : Env) (k : Cavity) : Cavity :=
  k.lockChanged e (k.lock.mainsBack (k.lockEnv e))

/-- The return of mains (R88). -/
def State.mainsReturn (s : State) (volts : Nat) : State :=
  let first := s.mains.firstReturn
  let s1 : State :=
    { s with mains := { s.mains with ring := ringJoin [] volts, present := true, firstReturn := false } }
  let s2 := if first then s1 else s1.setPartEvent .mainsReturn
  (s2.onCavs Cavity.mainsBack).windowStart

/-- A cycle reading (R86, R88). The end of a full cycle is itself a zero crossing
(04_heat_demand_and_the_firing_window.md, 4.6). In PRESENT the reading joins the ring; in DROPOUT it is the
return once the run has lasted long enough, which a run that begins here has not. -/
def State.takeReading (s : State) (volts : Nat) : State :=
  let s1 := s.crossing
  if s1.mains.present then
    { s1 with mains := { s1.mains with ring := ringJoin s1.mains.ring volts } }
  else if s1.mains.runIsSteady then s1.mainsReturn volts
  else s1

/-- A cavity's channels at a dropout: every relay is released, the placements in the current slot and the
later ones are removed, and the channels that held one are marked shed (R87). -/
def Cavity.abandonWindow (e : Env) (k : Cavity) : Cavity :=
  (k.shedWhere e.slot fun _ => true).mapChannels fun _ ch => { ch with relay := false }

/-- The crossing timer expires (R87, R88): it stops and the return run ends; in PRESENT that is a
dropout. -/
def State.crossingExpired (s : State) : State :=
  let s1 : State := { s with mains := { s.mains with crossing := .halted, run := none } }
  if s.mains.present then
    let s2 : State := { s1 with mains := { s1.mains with present := false } }
    let s3 := s2.setPartEvent .mainsDropout
    let s4 := s3.onCavs Cavity.abandonWindow
    let s5 : State := { s4 with sched := { s4.sched with slot := none, timer := .halted } }
    s5.onCavs fun _ k => { k with lock := k.lock.mainsGone }
  else s1

end Sys2Proof.Machine
end

