-- ==== Sys2Proof/Machine/Settings.lean ====
section
/-! DEFINITION. The settings file (09_settings_pages.md): addresses, defaults and ranges, protected
fields and bounds, and how a written value is decided. What a stored value then does to the cavities
and the scheduler is in Machine/SettingWrite.lean. -/

namespace Sys2Proof.Machine

/-- The settings of pages 0 to 5 by name (R160). -/
inductive SettingId where
  | fittedCount | budgetCeiling | ratedVoltage | mainsLow | mainsHigh | markCount | clearMode
  | partMask | travelTimeout
  | rating (c : CavNo) (p : Position)
  | cleanCeiling | cookCeiling | overtempMargin | unlockLevel | doorWarn | doorTrip
  | cycleLimit | holdLimit
  | gain (c : CavNo)
  | rampBand (c : CavNo)
  | soakBand (c : CavNo)
  | tripEnables (c : CavNo)
  | attnMask (c : CavNo)
  | fanOn (c : CavNo)
  | fanOff (c : CavNo)
  deriving DecidableEq, Repr

/-- Page 0 (R160). -/
def partAddr : Nat → Option SettingId
  | 0 => some .fittedCount
  | 1 => some .budgetCeiling
  | 2 => some .ratedVoltage
  | 3 => some .mainsLow
  | 4 => some .mainsHigh
  | 5 => some .markCount
  | 6 => some .clearMode
  | 7 => some .partMask
  | 8 => some .travelTimeout
  | _ => none

/-- Page 2 (R160). -/
def limitAddr : Nat → Option SettingId
  | 0 => some .cleanCeiling
  | 1 => some .cookCeiling
  | 2 => some .overtempMargin
  | 3 => some .unlockLevel
  | 4 => some .doorWarn
  | 5 => some .doorTrip
  | 6 => some .cycleLimit
  | 7 => some .holdLimit
  | _ => none

/-- Page 3 + c (R160). -/
def cavityAddr (c : CavNo) : Nat → Option SettingId
  | 0 => some (.gain c)
  | 1 => some (.rampBand c)
  | 2 => some (.soakBand c)
  | 3 => some (.tripEnables c)
  | 4 => some (.attnMask c)
  | 5 => some (.fanOn c)
  | 6 => some (.fanOff c)
  | _ => none

/-- The setting at an address of pages 0 to 5; every other address is undefined (R160). -/
def settingAddr (page idx : Nat) : Option SettingId :=
  match page with
  | 0 => partAddr idx
  | 1 => if idx < 12 then some (.rating (channelCav idx) (channelPos idx)) else none
  | 2 => limitAddr idx
  | 3 => cavityAddr 0 idx
  | 4 => cavityAddr 1 idx
  | 5 => cavityAddr 2 idx
  | _ => none

/-- Whether an address is defined, on the settings pages or the segment pages (R160). -/
def addrDefined (page idx : Nat) : Bool := (settingAddr page idx).isSome || (segAddr page idx).isSome

/-- The rating of a position replaced. -/
def Ratings.put (r : Ratings) (p : Position) (v : Nat) : Ratings :=
  match p with
  | .cat => { r with cat := v }
  | .top => { r with top := v }
  | .base => { r with base := v }
  | .ring => { r with ring := v }

/-- The value in force of a setting. -/
def Settings.get (f : Settings) : SettingId → Nat
  | .fittedCount => f.part.fittedCount
  | .budgetCeiling => f.part.budgetCeiling
  | .ratedVoltage => f.part.ratedVoltage
  | .mainsLow => f.part.mainsLow
  | .mainsHigh => f.part.mainsHigh
  | .markCount => f.part.markCount
  | .clearMode => f.part.clearMode
  | .partMask => f.part.partMask
  | .travelTimeout => f.part.travelTimeout
  | .rating c p => (f.ratings c).at p
  | .cleanCeiling => f.limits.cleanCeiling
  | .cookCeiling => f.limits.cookCeiling
  | .overtempMargin => f.limits.overtempMargin
  | .unlockLevel => f.limits.unlockLevel
  | .doorWarn => f.limits.doorWarn
  | .doorTrip => f.limits.doorTrip
  | .cycleLimit => f.limits.cycleLimit
  | .holdLimit => f.limits.holdLimit
  | .gain c => (f.page c).gain
  | .rampBand c => (f.page c).rampBand
  | .soakBand c => (f.page c).soakBand
  | .tripEnables c => (f.page c).tripEnables
  | .attnMask c => (f.page c).attnMask
  | .fanOn c => (f.page c).fanOn
  | .fanOff c => (f.page c).fanOff

/-- The settings with the ratings of a cavity replaced. -/
def Settings.setRatings (f : Settings) (c : CavNo) (r : Ratings) : Settings :=
  match c with
  | 0 => { f with ratings0 := r }
  | 1 => { f with ratings1 := r }
  | 2 => { f with ratings2 := r }

/-- The settings with one value stored. -/
def Settings.set (f : Settings) (id : SettingId) (v : Nat) : Settings :=
  match id with
  | .fittedCount => { f with part := { f.part with fittedCount := v } }
  | .budgetCeiling => { f with part := { f.part with budgetCeiling := v } }
  | .ratedVoltage => { f with part := { f.part with ratedVoltage := v } }
  | .mainsLow => { f with part := { f.part with mainsLow := v } }
  | .mainsHigh => { f with part := { f.part with mainsHigh := v } }
  | .markCount => { f with part := { f.part with markCount := v } }
  | .clearMode => { f with part := { f.part with clearMode := v } }
  | .partMask => { f with part := { f.part with partMask := v } }
  | .travelTimeout => { f with part := { f.part with travelTimeout := v } }
  | .rating c p => f.setRatings c ((f.ratings c).put p v)
  | .cleanCeiling => { f with limits := { f.limits with cleanCeiling := v } }
  | .cookCeiling => { f with limits := { f.limits with cookCeiling := v } }
  | .overtempMargin => { f with limits := { f.limits with overtempMargin := v } }
  | .unlockLevel => { f with limits := { f.limits with unlockLevel := v } }
  | .doorWarn => { f with limits := { f.limits with doorWarn := v } }
  | .doorTrip => { f with limits := { f.limits with doorTrip := v } }
  | .cycleLimit => { f with limits := { f.limits with cycleLimit := v } }
  | .holdLimit => { f with limits := { f.limits with holdLimit := v } }
  | .gain c => f.setPage c { f.page c with gain := v }
  | .rampBand c => f.setPage c { f.page c with rampBand := v }
  | .soakBand c => f.setPage c { f.page c with soakBand := v }
  | .tripEnables c => f.setPage c { f.page c with tripEnables := v }
  | .attnMask c => f.setPage c { f.page c with attnMask := v }
  | .fanOn c => f.setPage c { f.page c with fanOn := v }
  | .fanOff c => f.setPage c { f.page c with fanOff := v }

/-- What values a setting takes (R160): a number in a range, the clear mode's two choices, or a set
whose bits are named. -/
inductive Shape where
  | number (lo hi : Nat)
  | mode
  | bits (allowed : Nat)
  deriving DecidableEq, Repr

/-- The shape of each setting (R160). -/
def SettingId.shape : SettingId → Shape
  | .fittedCount => .number 1 3
  | .budgetCeiling => .number 1000 7400
  | .ratedVoltage => .number 100 250
  | .mainsLow => .number 100 250
  | .mainsHigh => .number 200 300
  | .markCount => .number 1 8
  | .clearMode => .mode
  | .partMask => .bits partEventBits
  | .travelTimeout => .number 10 100
  | .rating _ _ => .number 0 4000
  | .cleanCeiling => .number 3000 5200
  | .cookCeiling => .number 500 3000
  | .overtempMargin => .number 50 600
  | .unlockLevel => .number 1000 3000
  | .doorWarn => .number 600 1500
  | .doorTrip => .number 600 1500
  | .cycleLimit => .number 30 300
  | .holdLimit => .number 1 60
  | .gain _ => .number 1 30
  | .rampBand _ => .number 10 500
  | .soakBand _ => .number 10 500
  | .tripEnables _ => .bits enableBits
  | .attnMask _ => .bits cavEventBits
  | .fanOn _ => .number 500 1500
  | .fanOff _ => .number 400 1400

/-- Whether a written value is read as signed: indices 0 to 5 of page 2 and, on pages 3 to 5, the
bands and the fan levels (R160). -/
def SettingId.signed : SettingId → Bool
  | .cleanCeiling => true
  | .cookCeiling => true
  | .overtempMargin => true
  | .unlockLevel => true
  | .doorWarn => true
  | .doorTrip => true
  | .rampBand _ => true
  | .soakBand _ => true
  | .fanOn _ => true
  | .fanOff _ => true
  | _ => false

/-- The safe direction of a protected setting (R160). -/
inductive Safer where
  | lower
  | higher
  deriving DecidableEq, Repr

/-- Which settings are protected, and their safe direction (R160). -/
def SettingId.protection : SettingId → Option Safer
  | .budgetCeiling => some .lower
  | .rating _ _ => some .higher
  | .cleanCeiling => some .lower
  | .cookCeiling => some .lower
  | .overtempMargin => some .lower
  | .unlockLevel => some .lower
  | .doorWarn => some .lower
  | .doorTrip => some .lower
  | .cycleLimit => some .lower
  | .holdLimit => some .lower
  | _ => none

/-- The bounds with the settings in force when replay ends (R164). -/
def Settings.bounds (f : Settings) : Bounds :=
  { budgetCeiling := f.part.budgetCeiling, ratings0 := f.ratings0, ratings1 := f.ratings1,
    ratings2 := f.ratings2, limits := f.limits }

/-- The settings that hold every bound at its protected address (R164). -/
def Bounds.asSettings (b : Bounds) : Settings :=
  { part := { budgetCeiling := b.budgetCeiling }, ratings0 := b.ratings0, ratings1 := b.ratings1,
    ratings2 := b.ratings2, limits := b.limits }

/-- The bound of a protected setting. -/
def Bounds.get (b : Bounds) (id : SettingId) : Nat := b.asSettings.get id

/-- Whether v lies on the safe side of w, or equals it. -/
def Safer.onSafeSide (d : Safer) (v w : Nat) : Bool :=
  match d with
  | .lower => v ≤ w
  | .higher => w ≤ v

/-- A written word as a number, signed for a temperature setting (R160). -/
def SettingId.number (id : SettingId) (w : Word16) : Int := if id.signed then w.toInt else w.toNat

/-- A number held in a range. -/
def holdIn (lo hi : Nat) (v : Int) : Nat := if v < lo then lo else if hi < v then hi else v.toNat

/-- The cross-field orders, with the value as it would be stored and its partner in force
(R163, step 6). -/
def Settings.orderHolds (f : Settings) (id : SettingId) (v : Nat) : Bool :=
  match id with
  | .mainsLow => v < f.part.mainsHigh
  | .mainsHigh => f.part.mainsLow < v
  | .doorWarn => v < f.limits.doorTrip
  | .doorTrip => f.limits.doorWarn < v
  | .fanOff c => v < (f.page c).fanOn
  | .fanOn c => (f.page c).fanOff < v
  | _ => true

/-- How a link write of a word to a setting is decided: refused with a result, or stored as a number
with the result DONE or CLAMPED. -/
inductive Decision where
  | refuse (r : Result)
  | store (v : Nat) (r : Result)
  deriving DecidableEq, Repr

/-- Steps 3 to 6 of R163 for a link write. -/
def decideValue (f : Settings) (b : Bounds) (id : SettingId) (w : Word16) : Decision :=
  match id.shape with
  | .mode => if w.toNat ≤ 1 then .store w.toNat .done else .refuse .badArgument
  | .bits allowed => if withinBits allowed w.toNat then .store w.toNat .done else .refuse .badArgument
  | .number lo hi =>
    let v4 : Nat := holdIn lo hi (id.number w)
    let v5 : Nat :=
      match id.protection with
      | some d => if d.onSafeSide v4 (b.get id) then v4 else b.get id
      | none => v4
    let result : Result := if (v5 : Int) = id.number w then .done else .clamped
    if f.orderHolds id v5 then .store v5 result else .refuse .badArgument

/-- What replay stores for a word at a setting (R169): `none` where a cross-field order breaks, which
ends the patch; the settings unchanged where TIGHTEN passes the value over. -/
def replaySetting (f : Settings) (tighten : Bool) (id : SettingId) (w : Word16) : Option Settings :=
  match id.shape with
  | .mode => some (f.set id (min w.toNat 1))
  | .bits allowed => some (f.set id (w.toNat &&& allowed))
  | .number lo hi =>
    let v := holdIn lo hi (id.number w)
    let passedOver :=
      match id.protection with
      | some d => tighten && !d.onSafeSide v (f.get id)
      | none => false
    if passedOver then some f
    else if f.orderHolds id v then some (f.set id v)
    else none

end Sys2Proof.Machine
end

