-- ==== Sys2Proof/Machine/SettingWrite.lean ====
section
/-! DEFINITION. SETTING READ and WRITE, and what a written value does at once
(09_settings_pages.md R161, R162, R165, R166; the rules of the chapters it names). -/

namespace Sys2Proof.Machine

/-! ## Fitting and unfitting (R4, R60, R123, R131, R147) -/

/-- A cavity whose fitting changes: the records of the controller, the probes, the fan drive and the
conditions return to their start-up values, and the starvation count to 0. The lock of a cavity made
unfitted follows its switches from then on (log entry 12). -/
def Cavity.refit (fittedNow : Bool) (k : Cavity) : Cavity :=
  { k with cc := {}, prb := {}, fan := {}, cond := {}, starve := 0,
           lock := if fittedNow then k.lock else k.lock.fromSwitches }

/-- The fitted count is stored: each cavity whose fitting changes is refitted (R166). -/
def State.storeFitted (s : State) (v : Nat) : State :=
  let s1 : State := { s with cfg := s.cfg.set .fittedCount v }
  let one (t : State) (c : CavNo) : State :=
    if s.fitted c = s1.fitted c then t else t.onCav c fun _ k => k.refit (s1.fitted c)
  one (one (one s1 0) 1) 2

/-! ## Effects at once (R165, R166) -/

/-- A lowered clean ceiling clamps SPeff (R165). -/
def Cavity.clampClean (e : Env) (k : Cavity) : Cavity :=
  { k with cc := { k.cc with speff := min k.cc.speff (e.cfg.limits.cleanCeiling * 10) } }

/-- A lowered cook ceiling clamps the setpoint and SPeff of a COOKING cavity above it (R165). -/
def Cavity.clampCook (e : Env) (k : Cavity) : Cavity :=
  let v := e.cfg.limits.cookCeiling
  if k.cc.state = .cooking && v < k.cc.cookSetpoint then
    { k with cc := { k.cc with cookSetpoint := v, speff := v * 10 } }
  else k

/-- A lowered unlock level stops a motor that runs toward open where the release check fails
(R106, R166). -/
def Cavity.unlockLowered (e : Env) (k : Cavity) : Cavity :=
  if k.releaseOk e then k else k.lockChanged e k.lock.stopOpenDrive

/-- Trip enables turned from off to on are decided at once for the cavity (R138). -/
def Cavity.enablesWritten (old : CavityPage) (e : Env) (k : Cavity) : Cavity :=
  k.decideAmong e fun c => e.page.enabled c && !old.enabled c

/-- A value stored on pages 0 to 5, with its effects (R165, R166). -/
def State.storeSetting (s : State) (id : SettingId) (v : Nat) : State :=
  let t : State := { s with cfg := s.cfg.set id v }
  match id with
  | .fittedCount => s.storeFitted v
  | .budgetCeiling => if v < s.cfg.part.budgetCeiling then t.ceilingLowered else t
  | .cleanCeiling => if v < s.cfg.limits.cleanCeiling then t.onCavs Cavity.clampClean else t
  | .cookCeiling => if v < s.cfg.limits.cookCeiling then t.onCavs Cavity.clampCook else t
  | .unlockLevel => if v < s.cfg.limits.unlockLevel then t.onCavs Cavity.unlockLowered else t
  | .tripEnables c => t.onCav c (Cavity.enablesWritten (s.cfg.page c))
  | _ => t

/-! ## SETTING WRITE (R162, R163) -/

/-- One value addressed to pages 0 to 5 (R163). -/
def State.writeSetting (s : State) (id : SettingId) (w : Word16) : State × Result :=
  if id = .fittedCount && !s.allCav (fun k => k.cc.state = .idle) then (s, .wrongState)
  else
    match decideValue s.cfg s.bounds id w with
    | .refuse r => (s, r)
    | .store v r => (s.storeSetting id v, r)

/-- One value of a write, wherever it is addressed; an address that no page defines is refused with
BAD ARGUMENT (R160, R163; log entry 18). -/
def State.writeValue (s : State) (page idx : Nat) (w : Word16) : State × Result :=
  if 8 ≤ page ∧ page ≤ 15 then writeSegValue s page idx w
  else
    match settingAddr page idx with
    | none => (s, .badArgument)
    | some id => s.writeSetting id w

/-- The values of a write one by one, from an index upward, stopping at the first refusal; with the
worst result met so far and the count applied so far (R162). -/
def State.writeRun (page : Nat) : State → Nat → List Word16 → Result → Nat → State × Result × Nat
  | s, _, [], worst, n => (s, worst, n)
  | s, idx, w :: rest, worst, n =>
    let (s', r) := s.writeValue page idx w
    if r.refusal then (s', r, n)
    else State.writeRun page s' (idx + 1) rest (worst.worse r) (n + 1)

/-! ## SETTING READ (R161) -/

/-- The value at an address, where it is defined (R160, R32). -/
def State.readValue (s : State) (page idx : Nat) : Option Nat :=
  match settingAddr page idx with
  | some id => some (s.cfg.get id)
  | none =>
    match segAddr page idx with
    | some (i, f) => some ((s.segs.at i).field f)
    | none => none

/-- The values of a run of addresses, or nothing if one of them is undefined (R161). -/
def State.readRun (s : State) (page : Nat) : Nat → Nat → Option (List Nat)
  | _, 0 => some []
  | idx, n + 1 =>
    match s.readValue page idx, s.readRun page (idx + 1) n with
    | some v, some vs => some (v :: vs)
    | _, _ => none

end Sys2Proof.Machine
end

