-- ==== Sys2Proof/Machine/StoreOps.lean ====
section
/-! DEFINITION. The one-time store (10_the_one_time_store.md): the index, the patch language, replay,
and the bytes of a burn. -/

namespace Sys2Proof.Machine

/-! ## The index (R167) -/

/-- The offset of entry k's first byte (R167). -/
def entryAt (k : Nat) : Nat := 2042 - 6 * k

/-- An index entry as its bytes stand (08_the_link.md, 8.6). -/
structure IndexEntry where
  tag : Byte
  offset : Nat
  length : Nat
  sum : Byte
  sealByte : Byte
  deriving DecidableEq, Repr

/-- Entry k read from the memory. -/
def Memory.entry (m : Memory) (k : Nat) : IndexEntry :=
  let a := entryAt k
  { tag := m.read a, offset := (word16 (m.read (a + 1)) (m.read (a + 2))).toNat,
    length := (m.read (a + 3)).toNat, sum := m.read (a + 4), sealByte := m.read (a + 5) }

/-- What an index reading finds. -/
structure IndexReading where
  count : Nat
  patchEnd : Nat
  corrupt : Option Nat
  deriving DecidableEq, Repr

/-- The index reading from entry k on, with at most n entries left to examine (R167). The largest sum of
offset and length is kept as the bytes stand, beyond 2048 too (DESIGN CHOICE, log entry 25). -/
def Memory.readIndexFrom (m : Memory) : Nat → Nat → Nat → IndexReading
  | 0, k, pe => ⟨k, pe, none⟩
  | n + 1, k, pe =>
    let en := m.entry k
    if en.tag = 0x00 then ⟨k, pe, none⟩
    else if en.tag = 0xE1 then m.readIndexFrom n (k + 1) (max pe (en.offset + en.length))
    else ⟨k, pe, some k⟩

/-- The index reading (R167). -/
def Memory.readIndex (m : Memory) : IndexReading := m.readIndexFrom Config.maxEntries 0 0

/-- The first offset of the index region. -/
def indexStart (count : Nat) : Nat := Config.storeBytes - 6 * count

/-- The free space as the store computes and reports it (R167). -/
def Store.free (t : Store) : Nat :=
  if t.status = .corrupt then 0 else indexStart t.entryCount - t.patchEnd

/-- The store takes what an index reading found (R167, R172). -/
def Store.takeIndex (t : Store) (r : IndexReading) : Store :=
  let t1 := { t with entryCount := r.count, patchEnd := r.patchEnd }
  match r.corrupt with
  | some k => { t1 with status := .corrupt, errorEntry := some k }
  | none => t1

/-! ## The patch language (R168) -/

/-- One code of a patch. -/
inductive PatchCode where
  | values (ws : List Word16)
  | moveTo (page idx : Nat)
  | modeSet
  | modeTighten
  | skip (n : Nat)
  | finish
  deriving DecidableEq, Repr

/-- The n values that follow a VALUES code, and the bytes after them. -/
def takeWords : Nat → List Byte → Option (List Word16 × List Byte)
  | 0, bs => some ([], bs)
  | n + 1, hi :: lo :: bs =>
    match takeWords n bs with
    | some (ws, rest) => some (word16 hi lo :: ws, rest)
    | none => none
  | _ + 1, _ => none

/-- The code a patch begins with, and the bytes after it; none is a syntax error (R168). Of a VALUES whose
bytes run past the patch's length no value is taken (DESIGN CHOICE, log entry 26). -/
def nextCode : List Byte → Option (PatchCode × List Byte)
  | [] => none
  | b :: rest =>
    let n := b.toNat
    if n = 0xFF then some (.finish, rest)
    else if n = 0x40 then
      match rest with
      | p :: i :: rest' => some (.moveTo p.toNat i.toNat, rest')
      | _ => none
    else if n = 0x41 then some (.modeSet, rest)
    else if n = 0x42 then some (.modeTighten, rest)
    else if 0x60 ≤ n ∧ n ≤ 0x7F then some (.skip (n - 0x5F), rest)
    else if 1 ≤ n ∧ n ≤ 0x20 then
      match takeWords n rest with
      | some (ws, rest') => some (.values ws, rest')
      | none => none
    else none

/-- Where a patch stands: its cursor, its mode, and what it has written. -/
structure PatchRun (σ : Type) where
  cursor : Option (Nat × Nat)
  tighten : Bool
  out : σ

/-- Values written one by one from an index on; a write that fails is an error, with the values before
it kept (R168, R169). -/
def writeValues {σ : Type} (wr : σ → Bool → Nat → Nat → Word16 → Option σ) (tighten : Bool)
    (page : Nat) : σ → Nat → List Word16 → σ × Bool
  | out, _, [] => (out, true)
  | out, idx, w :: ws =>
    match wr out tighten page idx w with
    | some out' => writeValues wr tighten page out' (idx + 1) ws
    | none => (out, false)

/-- A patch is run code by code; `wr` writes one value at an address or fails. Answers what was written
and whether the patch ended without an error: at its first END, with no byte after it (R168). -/
def runPatch {σ : Type} (wr : σ → Bool → Nat → Nat → Word16 → Option σ) :
    Nat → PatchRun σ → List Byte → σ × Bool
  | 0, r, _ => (r.out, false)
  | n + 1, r, bs =>
    match nextCode bs with
    | none => (r.out, false)
    | some (.finish, rest) => (r.out, rest.isEmpty)
    | some (.modeSet, rest) => runPatch wr n { r with tighten := false } rest
    | some (.modeTighten, rest) => runPatch wr n { r with tighten := true } rest
    | some (.moveTo p i, rest) =>
      if addrDefined p i then runPatch wr n { r with cursor := some (p, i) } rest else (r.out, false)
    | some (.skip d, rest) =>
      match r.cursor with
      | some (p, i) => runPatch wr n { r with cursor := some (p, i + d) } rest
      | none => (r.out, false)
    | some (.values ws, rest) =>
      match r.cursor with
      | some (p, i) =>
        match writeValues wr r.tighten p r.out i ws with
        | (out, true) => runPatch wr n { r with out := out, cursor := some (p, i + ws.length) } rest
        | (out, false) => (out, false)
      | none => (r.out, false)

/-- A patch from its first byte, its cursor unset and its mode SET (R168). Every code takes a byte. -/
def startPatch {σ : Type} (wr : σ → Bool → Nat → Nat → Word16 → Option σ) (out : σ)
    (bs : List Byte) : σ × Bool :=
  runPatch wr (bs.length + 1) ⟨none, false, out⟩ bs

/-- The syntax check runs the patch without writing; it judges addresses and no value (R168). -/
def syntaxOk (bs : List Byte) : Bool :=
  (startPatch (fun (_ : Unit) _ p i _ => if addrDefined p i then some () else none) () bs).2

/-! ## Replay (R169) -/

/-- What replay writes. -/
structure Replayed where
  cfg : Settings
  segs : SegStore
  deriving DecidableEq, Repr

/-- Replay writes one value. In entry 0 SET writes every field; in a later patch SET on a protected
setting acts as TIGHTEN; TIGHTEN on an unprotected setting acts as SET (R169, R34). -/
def replayWrite (factory : Bool) (out : Replayed) (tighten : Bool) (page idx : Nat) (w : Word16) :
    Option Replayed :=
  match settingAddr page idx with
  | some id =>
    match replaySetting out.cfg (tighten || !factory) id w with
    | some cfg => some { out with cfg := cfg }
    | none => none
  | none =>
    match segAddr page idx with
    | some (i, f) =>
      some { out with segs := out.segs.put i ((out.segs.at i).setField f (segReplayValue f w)) }
    | none => none

/-- Whether a claimed entry's patch is replayed: sealed, of a length 1 to 64, in place, and with a sum
that matches (R169). -/
def Memory.replayable (m : Memory) (count : Nat) (en : IndexEntry) : Bool :=
  en.sealByte == 0x3C && decide (1 ≤ en.length) && decide (en.length ≤ 64) &&
    decide (en.offset + en.length ≤ indexStart count) &&
    sumBytes (m.bytes en.offset en.length) + en.sum == 0

/-- One entry of the replay, and the first patch error so far (R169). -/
def Memory.replayEntry (m : Memory) (count : Nat) (acc : Replayed × Option Nat) (k : Nat) :
    Replayed × Option Nat :=
  let en := m.entry k
  let (out, ok) :=
    if m.replayable count en then
      startPatch (replayWrite (k = 0)) acc.1 (m.bytes en.offset en.length)
    else (acc.1, false)
  (out, if ok then acc.2 else acc.2.or (some k))

/-- Replay: the claimed entries in index order, from the defaults and blank records (R169). -/
def Memory.replay (m : Memory) (count : Nat) : Replayed × Option Nat :=
  (List.range count).foldl (m.replayEntry count) (⟨{}, Vector.replicate 64 {}⟩, none)

/-- The store at start-up: its memory kept, its index read, its status from the reading and the replay,
no burn, nothing staged (R167, R169, R170, R172). -/
def Store.startUp (t : Store) (firstError : Option Nat) : Store :=
  let t1 : Store :=
    { memory := t.memory, status := if firstError.isSome then .patchError else .ok,
      errorEntry := firstError }
  t1.takeIndex t.memory.readIndex

/-! ## Burning (R171, R172) -/

/-- The cells that hold a run of bytes from an offset on. -/
def cellsFrom : Nat → List Byte → List Host.Cell
  | _, [] => []
  | a, b :: bs => (a, b) :: cellsFrom (a + 1) bs

/-- The bytes a burn programs, in order: tag, offset and length, the patch, its sum, the seal (R171). -/
def Store.burnPlan (t : Store) : List Host.Cell :=
  let a := entryAt t.entryCount
  cellsFrom a ([0xE1] ++ bytesOfNat t.patchEnd ++ [byteOf t.staging.length]) ++
    cellsFrom t.patchEnd t.staging ++ [(a + 4, balance t.staging), (a + 5, 0x3C)]

/-- A burn ends: the burn state, and the index read again (R172). -/
def Store.endBurn (t : Store) (how : BurnState) : Store :=
  { t with burn := how, burnLeft := [] }.takeIndex t.memory.readIndex

/-- One byte of the burn completes and reads back (R172): the store, and whether the burn has ended. -/
def Store.byteDone (t : Store) (readBack : Byte) : Store × Bool :=
  match t.burn, t.burnLeft with
  | .burning, (a, b) :: rest =>
    let m := t.memory.program a readBack
    let t1 := { t with memory := m, burnLeft := rest }
    if m.read a = b then
      if rest.isEmpty then (t1.endBurn .done, true) else (t1, false)
    else (t1.endBurn .failed, true)
  | _, _ => (t, false)

end Sys2Proof.Machine
end

