-- ==== Sys2Proof/Machine/Link.lean ====
section
/-! DEFINITION. The link (08_the_link.md): how each request is served once it is well formed, the
replies, the reception of frames byte by byte, and start-up. -/

namespace Sys2Proof.Machine

/-! ## Orders addressed to cavities (R153) -/

/-- A per-cavity order: an unfitted cavity gives NOT FITTED (R4); each fitted one takes its group and
decides its own result; the reply payload is one result per selected cavity (R153). -/
def perCavityOrder (size : Nat) (order : List Byte → Env → Cavity → Cavity × Result) (r : Request)
    (s : State) : State × List Byte :=
  (groups size r.sel r.payload).foldl
    (fun (acc : State × List Byte) (g : CavNo × List Byte) =>
      if acc.1.fitted g.1 then
        let (k, result) := order g.2 (acc.1.env g.1) (acc.1.cav g.1)
        (acc.1.setCav g.1 k, acc.2 ++ [result.code])
      else (acc.1, acc.2 ++ [Result.notFitted.code]))
    (s, [])

/-- CLEAN START of the selected cavities (R6). -/
def serveCleanStart : Request → State → State × List Byte :=
  perCavityOrder 1 fun g e k => k.cleanStart e (at8 g 0).toNat

/-- CLEAN HOLD of the selected cavities (R8). -/
def serveCleanHold : Request → State → State × List Byte :=
  perCavityOrder 0 fun _ e k => k.cleanHold e

/-- CLEAN RESUME of the selected cavities (R9). -/
def serveCleanResume : Request → State → State × List Byte :=
  perCavityOrder 0 fun _ e k => k.cleanResume e

/-- CLEAN ABANDON of the selected cavities (R10). -/
def serveCleanAbandon : Request → State → State × List Byte :=
  perCavityOrder 0 fun _ e k => k.cleanAbandon e

/-- COOK SET of the selected cavities: a signed setpoint and an element set each (R11). -/
def serveCookSet : Request → State → State × List Byte :=
  perCavityOrder 3 fun g e k => k.cookSet e (at16 g 0).toInt (at8 g 2)

/-- COOK OFF of the selected cavities (R13). -/
def serveCookOff : Request → State → State × List Byte :=
  perCavityOrder 0 fun _ e k => k.cookOff e

/-- FAULT CLEAR of the selected cavities (R143, R144). -/
def serveFaultClear : Request → State → State × List Byte :=
  perCavityOrder 0 fun _ e k => k.faultClear e

/-- EVENTS ACK, as a fitted cavity takes it (R156). -/
def Cavity.eventsAck (mask : Byte) (k : Cavity) : Cavity × Result :=
  if withinBits cavEventBits mask.toNat then
    ({ k with cc := { k.cc with events := maskMinus k.cc.events (BitVec.ofNat 6 mask.toNat) } }, .done)
  else (k, .badArgument)

/-- EVENTS ACK of the selected cavities (R156). -/
def serveEventsAck : Request → State → State × List Byte :=
  perCavityOrder 1 fun g _ k => k.eventsAck (at8 g 0)

/-- CONDITIONS ACK, as a fitted cavity takes it: the named conditions that are not present leave the
conditions seen (R146). -/
def Cavity.conditionsAck (mask : Word16) (k : Cavity) : Cavity × Result :=
  if withinBits conditionBits mask.toNat then
    let named : CondSet := BitVec.ofNat 11 mask.toNat
    ({ k with cond := { k.cond with seen := maskMinus k.cond.seen (maskMinus named k.cond.present) } },
     .done)
  else (k, .badArgument)

/-- CONDITIONS ACK of the selected cavities (R146). -/
def serveConditionsAck : Request → State → State × List Byte :=
  perCavityOrder 2 fun g _ k => k.conditionsAck (at16 g 0)

/-! ## Part-wide orders (R154) -/

/-- BUDGET LEND (R94). -/
def serveBudgetLend (r : Request) (s : State) : State × List Byte :=
  let (s', result) := s.takeLend (at16 r.payload 0).toNat
  (s', [result.code])

/-- PART EVENTS ACK (R156). -/
def servePartEventsAck (r : Request) (s : State) : State × List Byte :=
  let mask := at8 r.payload 0
  if withinBits partEventBits mask.toNat then
    ({ s with link := { s.link with
        partEvents := maskMinus s.link.partEvents (BitVec.ofNat 7 mask.toNat) } }, [Result.done.code])
  else (s, [Result.badArgument.code])

/-- Whether every fitted cavity is IDLE or FAULTED (R159). -/
def State.restartOk (s : State) : Bool :=
  allCavs.all fun c =>
    !s.fitted c || (s.cav c).cc.state = .idle || (s.cav c).cc.state = .faulted

/-- RESTART: taken, it is remembered until its reply ends (R159). -/
def serveRestart (_ : Request) (s : State) : State × List Byte :=
  if s.restartOk then ({ s with link := { s.link with restarting := true } }, [Result.done.code])
  else (s, [Result.wrongState.code])

/-! ## Looks (R155) -/

/-- The flags byte of a CAVITY STATUS group (8.6). -/
def Cavity.statusFlags (k : Cavity) : Byte :=
  byteOfBool k.lock.doorClosed ||| byteOfBool k.prb.cavity.fault <<< 1 |||
    byteOfBool k.prb.door.fault <<< 2 ||| byteOfBool k.prb.doorWarm <<< 3

/-- The CAVITY STATUS group, 26 bytes (8.6). -/
def Cavity.statusGroup (k : Cavity) : List Byte :=
  [k.cc.state.code, k.lock.state.code, k.statusFlags] ++
    bytesOfInt k.prb.cavity.reading ++ bytesOfInt k.prb.door.reading ++
    bytesOfNat (k.cc.speff / 10) ++
    [segIndexCode k.cc.segIndex, byteOf k.cc.stack.length] ++
    bytesOfNat k.cc.elapsed ++ bytesOfNat k.cc.soak ++ bytesOfNat k.cc.cycle ++
    [byteOf k.cc.hold, byteOf k.cc.demand, k.fan.command.code, k.cc.lastEnd.code,
     byteOf k.cc.events.toNat] ++
    bytesOfNat k.cond.present.toNat ++ bytesOfNat k.cond.seen.toNat

/-- The events that a CAVITY STATUS look has reported are removed under READ CLEARS (R155). The look
reports every event of the cavity, so the set becomes empty. -/
def Cavity.clearEvents (k : Cavity) : Cavity := { k with cc := { k.cc with events := 0 } }

/-- CAVITY STATUS (R153, R155): every selected cavity gives DONE and a group. -/
def serveCavityStatus (r : Request) (s : State) : State × List Byte :=
  let cs := selected r.sel
  let reply := cs.map (fun _ => Result.done.code) ++ cs.flatMap fun c => (s.cav c).statusGroup
  if s.cfg.part.clearMode = 0 then
    (cs.foldl (fun t c => t.onCav c fun _ k => k.clearEvents) s, reply)
  else (s, reply)

/-- The TRIP RECORD group, 12 bytes (8.6). -/
def TripRecord.group (t : TripRecord) : List Byte :=
  [byteOf t.first.bit] ++ bytesOfNat t.later.toNat ++ [t.stateBefore.code, segIndexCode t.segIndex] ++
    bytesOfInt t.cavityReading ++ bytesOfInt t.doorReading ++ [t.lockState.code] ++ bytesOfNat t.cycle

/-- What TRIP RECORD answers for one cavity: a result, and a group where it is DONE (R148). -/
def State.tripAnswer (s : State) (c : CavNo) : Result × List Byte :=
  if s.fitted c then
    match (s.cav c).cond.trip with
    | some t => (.done, t.group)
    | none => (.wrongState, [])
  else (.notFitted, [])

/-- TRIP RECORD (R148). -/
def serveTripRecord (r : Request) (s : State) : State × List Byte :=
  let as := (selected r.sel).map s.tripAnswer
  (s, as.map (fun a => a.1.code) ++ as.flatMap fun a => a.2)

/-- WINDOW STATUS (R100; 8.6). -/
def serveWindowStatus (_ : Request) (s : State) : State × List Byte :=
  let perChannel := (List.range 12).flatMap fun n =>
    [byteOf (s.chan n).demand, byteOf (s.chan n).granted, byteOfBool (s.chan n).shed]
  (s, [Result.done.code] ++ bytesOfNat s.sched.budget ++ bytesOfNat s.sched.vw ++
    bytesOfNat s.peakLoad ++ [slotCode s.sched.slot] ++ perChannel)

/-- The mains conditions of PART STATUS (8.6). -/
def Mains.flags (m : Mains) : Byte :=
  byteOfBool m.low ||| byteOfBool m.high <<< 1 ||| byteOfBool (!m.present) <<< 2

/-- PART STATUS (R155; 8.6): the part events reported are removed under READ CLEARS. -/
def servePartStatus (_ : Request) (s : State) : State × List Byte :=
  let entry := match s.store.errorEntry with
    | some k => bytesOfNat k
    | none => [0xFF, 0xFF]
  let reply := [Result.done.code, byteOf s.link.partEvents.toNat, s.mains.flags,
      byteOf s.cfg.part.fittedCount, s.store.status.code] ++ entry ++
    [s.store.burn.code] ++ bytesOfNat s.store.free ++ [byteOf s.store.staging.length]
  if s.cfg.part.clearMode = 0 then ({ s with link := { s.link with partEvents := 0 } }, reply)
  else (s, reply)

/-! ## Setting requests (R161, R162) -/

/-- SETTING READ (R161). -/
def serveSettingRead (r : Request) (s : State) : State × List Byte :=
  let n := (at8 r.payload 2).toNat
  if 1 ≤ n ∧ n ≤ 16 then
    match s.readRun (at8 r.payload 0).toNat (at8 r.payload 1).toNat n with
    | some vs => (s, [Result.done.code, byteOf n] ++ vs.flatMap bytesOfNat)
    | none => (s, [Result.badArgument.code, 0])
  else (s, [Result.badArgument.code, 0])

/-- SETTING WRITE (R162). -/
def serveSettingWrite (r : Request) (s : State) : State × List Byte :=
  let (s', result, n) := s.writeRun (at8 r.payload 0).toNat (at8 r.payload 1).toNat
    (wordsOf (r.payload.drop 2)) .done 0
  (s', [result.code, byteOf n])

/-! ## Store requests (R170, R171, R173) -/

/-- STORE STAGE (R170). -/
def Store.stage (bs : List Byte) (t : Store) : Store × Result :=
  if t.burn = .burning then (t, .busy)
  else if Config.stagingBytes < t.staging.length + bs.length then (t, .badLength)
  else ({ t with staging := t.staging ++ bs }, .done)

/-- STORE STAGE, with the staged byte count whatever the result (R170). -/
def serveStoreStage (r : Request) (s : State) : State × List Byte :=
  let (t, result) := s.store.stage r.payload
  ({ s with store := t }, [result.code, byteOf t.staging.length])

/-- STORE DISCARD (R170). -/
def serveStoreDiscard (_ : Request) (s : State) : State × List Byte :=
  if s.store.burn = .burning then (s, [Result.busy.code])
  else ({ s with store := { s.store with staging := [] } }, [Result.done.code])

/-- The states in which a cavity bars a burn (R171). -/
def CavState.barsBurn : CavState → Bool
  | .locking => true
  | .cleaning => true
  | .held => true
  | .cooldown => true
  | .unlocking => true
  | _ => false

/-- What STORE BURN's checks give (R171). -/
def State.burnResult (s : State) : Result :=
  if s.store.burn = .burning then .busy
  else if s.store.status = .corrupt then .storeFault
  else if s.store.staging.isEmpty then .badLength
  else if s.anyCav (fun k => k.cc.state.barsBurn) then .wrongState
  else if !syntaxOk s.store.staging then .badPatch
  else if s.store.free < s.store.staging.length + 6 then .noSpace
  else .done

/-- STORE BURN (R171). -/
def serveStoreBurn (_ : Request) (s : State) : State × List Byte :=
  let result := s.burnResult
  if result = .done then
    ({ s with store := { s.store with burn := .burning, burnLeft := s.store.burnPlan, staging := [] } },
     [result.code])
  else (s, [result.code])

/-- STORE READ (R173). -/
def serveStoreRead (r : Request) (s : State) : State × List Byte :=
  let offset := (at16 r.payload 0).toNat
  let n := (at8 r.payload 2).toNat
  if 1 ≤ n ∧ n ≤ 64 ∧ offset + n ≤ Config.storeBytes then
    (s, [Result.done.code] ++ s.store.memory.bytes offset n)
  else (s, [Result.badArgument.code])

/-! ## Acceptance and reply (R151, R152) -/

/-- HEAD of a reply: unit address, class, reply bit 1, tag (8.6, Frame). -/
def replyHead (unit cls : BitVec 2) (tag : BitVec 3) : Byte := tag ++ (1#1) ++ cls ++ unit

/-- The bytes of a reply frame from SYNC on (8.6, Frame; R152). -/
def replyFrame (head sel code : Byte) (payload : List Byte) : List Byte :=
  let body := [head, sel, code, byteOf payload.length] ++ payload
  Config.sync :: body ++ [balance body]

/-- The reply is built within the acceptance event and the transmitter is SENDING (R152). -/
def State.sendReply (cls : BitVec 2) (code sel : Byte) (tag : BitVec 3) (payload : List Byte)
    (s : State) : State :=
  { s with link := { s.link with
      reply := replyFrame (replyHead s.link.unit cls tag) sel code payload, tag := tag, sending := true } }

/-- An accepted request whose code is known (R152): the frame-level checks, the owning block, and one
reply. -/
def State.accept (q : ReqKind) (serve : Request → State → State × List Byte) (r : Request) (len : Nat)
    (s : State) : State :=
  match q.frameFault r.sel len with
  | some f => s.sendReply q.cls q.code r.sel r.tag [f.code]
  | none => (serve r s).1.sendReply q.cls q.code r.sel r.tag (serve r s).2

/-- A complete frame with this request reaches LNK. While the link is closed the receiver takes nothing
(R149); while a reply is being sent the frame is discarded with OVERRUN (R151); otherwise it is accepted
(log entry 7). -/
def State.request (q : ReqKind) (serve : Request → State → State × List Byte) (r : Request) (s : State) :
    State :=
  if s.link.rx = .closed then s
  else if s.link.sending then s.setPartEvent .overrun
  else s.accept q serve r r.payload.length

/-- The owning block's part in each request (R152). -/
def ReqKind.serve : ReqKind → Request → State → State × List Byte
  | .cleanStart => serveCleanStart
  | .cleanHold => serveCleanHold
  | .cleanResume => serveCleanResume
  | .cleanAbandon => serveCleanAbandon
  | .cookSet => serveCookSet
  | .cookOff => serveCookOff
  | .eventsAck => serveEventsAck
  | .conditionsAck => serveConditionsAck
  | .faultClear => serveFaultClear
  | .budgetLend => serveBudgetLend
  | .partEventsAck => servePartEventsAck
  | .restart => serveRestart
  | .cavityStatus => serveCavityStatus
  | .tripRecord => serveTripRecord
  | .windowStatus => serveWindowStatus
  | .partStatus => servePartStatus
  | .settingRead => serveSettingRead
  | .settingWrite => serveSettingWrite
  | .storeStage => serveStoreStage
  | .storeDiscard => serveStoreDiscard
  | .storeBurn => serveStoreBurn
  | .storeRead => serveStoreRead

/-! ## Reception (R150, R151) -/

/-- The fields of a HEAD byte (8.6, Frame). -/
def headUnit (h : Byte) : BitVec 2 := h.extractLsb' 0 2
def headClass (h : Byte) : BitVec 2 := h.extractLsb' 2 2
def headReply (h : Byte) : Bool := h.getLsbD 4
def headTag (h : Byte) : BitVec 3 := h.extractLsb' 5 3

/-- A complete frame is judged by the checks of R151 and, accepted, taken whole (R152). -/
def State.judgeFrame (s : State) : State :=
  let buf := s.link.assembly
  let head := at8 buf 0
  let sel := at8 buf 1
  let code := at8 buf 2
  let len := (at8 buf 3).toNat
  let r : Request := ⟨headTag head, sel, (buf.drop 4).take (min len Config.maxPayload)⟩
  if s.link.sum ≠ 0 then s.setPartEvent .badSum
  else if headUnit head ≠ s.link.unit then s
  else if headReply head then s
  else if s.link.sending then s.setPartEvent .overrun
  else
    match ReqKind.find (headClass head) code with
    | none => s.sendReply (headClass head) code sel (headTag head) [Result.unknownCode.code]
    | some q => s.accept q q.serve r len

/-- Whether the byte whose count is n is stored: a header byte, one of the first 48 payload bytes, or
the SUM byte (R150). -/
def storesByte (n len : Nat) : Bool := n ≤ 4 || n - 4 ≤ min len Config.maxPayload || n == len + 5

/-- A byte taken in ASSEMBLING (R150). -/
def State.assembleByte (b : Byte) (s : State) : State :=
  let n := s.link.count + 1
  let len := (at8 s.link.assembly 3).toNat
  let buf := if storesByte n len then s.link.assembly ++ [b] else s.link.assembly
  let done := decide (5 ≤ n) && n == len + 5
  let l := { s.link with assembly := buf, count := n, sum := s.link.sum + b,
                         gap := if done then .halted else .loaded Config.gapMs,
                         rx := if done then .hunting else .assembling }
  let s1 : State := { s with link := l }
  if done then s1.judgeFrame else s1

/-- A byte on RXD (R150). -/
def State.takeByte (b : Byte) (s : State) : State :=
  match s.link.rx with
  | .closed => s
  | .hunting =>
    if b = Config.sync then
      { s with link := { s.link with rx := .assembling, assembly := [], count := 0, sum := 0,
                                     gap := .loaded Config.gapMs } }
    else s
  | .assembling => s.assembleByte b

/-! ## Start-up (00_scope.md, "Start-up"; R159) -/

/-- The record of a cavity when start-up begins: every block at its start-up values, the lock state from
the switches (R102), the recovery of a fitted cavity to come (R29). -/
def cavityAtStart (fitted : Bool) (sw : SwitchPositions) : Cavity :=
  { cc := { recovering := fitted }
    lock := ({ lockedSw := sw.locked, openSw := sw.opened, doorClosed := sw.doorClosed } : Lock).fromSwitches }

/-- Start-up: defaults, replay, bounds, every record at its start-up values, the lock drives from their
switches. The store's memory stays, and a burn in flight ends (R172). The waiting commands stay. -/
def State.startUp (inp : StartInputs) (s : State) : State :=
  let m := s.store.memory
  let (out, firstError) := m.replay m.readIndex.count
  let n := out.cfg.part.fittedCount
  { cfg := out.cfg, bounds := out.cfg.bounds, segs := out.segs,
    c0 := cavityAtStart (0 < n) inp.sw0,
    c1 := cavityAtStart (1 < n) inp.sw1,
    c2 := cavityAtStart (2 < n) inp.sw2,
    sched := { lend := out.cfg.part.budgetCeiling, budget := out.cfg.part.budgetCeiling },
    mains := {}, review := .loaded Config.reviewMs, link := { unit := inp.unit },
    store := s.store.startUp firstError, pending := s.pending }

/-- The last bit of a reply leaves the line: the transmitter is IDLE, and after a taken RESTART the same
start-up begins as at power-on, the straps and the switches read anew (R149, R151, R159; log entry 9). -/
def State.replyEnds (inp : StartInputs) (s : State) : State :=
  if s.link.sending then
    if s.link.restarting then s.startUp inp
    else { s with link := { s.link with sending := false } }
  else s

/-- A probe has given the three samples of start-up (R65). -/
def Probe.sampled (p : Probe) : Bool := Config.probeRun ≤ p.taken

/-- A cavity's part in start-up is complete: both its probes have given their three samples (R65), and its
controller has recovered its state (R29). -/
def Cavity.startDone (k : Cavity) : Bool :=
  k.prb.cavity.sampled && k.prb.door.sampled && !k.cc.recovering

/-- Whether the last step of start-up is due: the receiver is closed, the probe interface and the cavity
controllers have done their steps for every fitted cavity, and the first window has started (R149;
00_scope.md, "Start-up"; log entry 10). -/
def State.linkReady (s : State) : Bool :=
  s.link.rx = .closed && !s.mains.firstReturn &&
    allCavs.all fun c => !s.fitted c || (s.cav c).startDone

/-- The link opens (R149, R157). -/
def State.openLink (s : State) : State :=
  if s.linkReady then
    ({ s with link := { s.link with rx := .hunting } } : State).setPartEvent .restarted
  else s

end Sys2Proof.Machine
end

