-- ==== Sys2Proof/Machine/Clock.lean ====
section
/-! DEFINITION. One millisecond of the part's own timers, and the commands whose time has come. The table
of commands has no row for time: a step on an empty queue lets it pass (log entry 4). -/

namespace Sys2Proof.Machine

/-- One millisecond of a cavity's travel and tach timers. -/
def Cavity.passTime (k : Cavity) : Cavity :=
  { k with lock := { k.lock with timer := k.lock.timer.pass }
           fan := { k.fan with tachLeft := if k.fan.tach = .stopped then k.fan.tachLeft
                                           else k.fan.tachLeft - 1 } }

/-- One millisecond of every timer of the part and of the return run (log entries 4 and 8). -/
def State.passTime (s : State) : State :=
  { s with
    c0 := s.c0.passTime, c1 := s.c1.passTime, c2 := s.c2.passTime,
    sched := { s.sched with timer := s.sched.timer.pass }
    mains := { s.mains with crossing := s.mains.crossing.pass, run := s.mains.run.map (· + 1) }
    review := s.review.pass
    link := { s.link with gap := s.link.gap.pass } }

/-- What the expiry of the window timer brings: the next window after slot 29, the next slot before it
(R75). -/
def State.windowExpiry (s : State) : Instr :=
  if s.sched.slot = some 29 then .windowStart else .slotBoundary

/-- Whether a cavity's tach timer has no time left. -/
def Fan.tachDue (f : Fan) : Bool := f.tach != .stopped && f.tachLeft == 0

/-- The commands of timers that have run out, in the model's order where several meet, and LINK_OPEN
where the last step of start-up is due (log entries 4 and 10). -/
def State.expiries (s : State) : List Instr :=
  (if s.mains.crossing.due then [.dropout] else []) ++
  (if s.link.gap.due then [.frameCut] else []) ++
  (if s.sched.timer.due then [s.windowExpiry] else []) ++
  (allCavs.filter fun c => (s.cav c).lock.timer.due).map Instr.travelTimeout ++
  (allCavs.filter fun c => (s.cav c).fan.tachDue).map Instr.tachTimerExpiry ++
  (if s.review.due then [.levelReview] else []) ++
  (if s.linkReady then [.linkOpen] else [])

/-- A millisecond passes, and what falls due waits to be taken. -/
def State.tick (s : State) : State := { s.passTime with pending := s.passTime.expiries }

end Sys2Proof.Machine
end

