-- ==== Sys2Proof/Machine/Events.lean ====
section
/-! DEFINITION. The meanings of the commands that are not requests: start-up, the bytes and timers of the
link, the store's programming, samples, the window, the mains, the switches, and the fans. Each ends
with ATTN decided (R158). An event that the spec says cannot arise in the state has no effect
(log entry 6). -/

namespace Sys2Proof.Machine

/-! ## Start-up and the link -/

/-- START_UP (R159; 00_scope.md, "Start-up"). -/
def execStartUp (inp : StartInputs) (s : State) : Host.Outcome State Fault Refusal :=
  (s.startUp inp).settled

/-- LINK_OPEN (R149, R157). -/
def execLinkOpen (s : State) : Host.Outcome State Fault Refusal := s.openLink.settled

/-- RECEIVED_BYTE (R150). -/
def execReceivedByte (b : Byte) (s : State) : Host.Outcome State Fault Refusal := (s.takeByte b).settled

/-- The frame being assembled is discarded, FRAME CUT set and the receiver HUNTING (R150). -/
def State.cutFrame (s : State) : State :=
  if s.link.rx = .assembling then
    ({ s with link := { s.link with rx := .hunting, gap := .halted } } : State).setPartEvent .frameCut
  else s

/-- FRAME_CUT (R150). -/
def execFrameCut (s : State) : Host.Outcome State Fault Refusal := s.cutFrame.settled

/-- REPLY_END (R151, R159). -/
def execReplyEnd (inp : StartInputs) (s : State) : Host.Outcome State Fault Refusal :=
  (s.replyEnds inp).settled

/-! ## The one-time store -/

/-- One byte of the burn has been programmed; the end of the burn sets BURN ENDED (R172). -/
def State.byteProgrammed (readBack : Byte) (s : State) : State :=
  let s1 : State := { s with store := (s.store.byteDone readBack).1 }
  if (s.store.byteDone readBack).2 then s1.setPartEvent .burnEnded else s1

/-- BYTE_PROGRAMMING_COMPLETE (R172). -/
def execByteProgrammingComplete (readBack : Byte) (s : State) : Host.Outcome State Fault Refusal :=
  (s.byteProgrammed readBack).settled

/-! ## Samples -/

/-- One cavity's blocks do their part where the cavity is fitted; nothing happens where it is not
(R4, R60). -/
def State.ifFitted (s : State) (c : CavNo) (f : Env → Cavity → Cavity) : State :=
  if s.fitted c then s.onCav c f else s

/-- CAVITY_SAMPLE (R64). -/
def execCavitySample (c : CavNo) (v : Int) (s : State) : Host.Outcome State Fault Refusal :=
  (s.ifFitted c fun e k => k.cavitySample e v).settled

/-- DOOR_SAMPLE (R64). -/
def execDoorSample (c : CavNo) (v : Int) (s : State) : Host.Outcome State Fault Refusal :=
  (s.ifFitted c fun e k => k.doorSample e v).settled

/-! ## The window and the mains -/

/-- WINDOW_START (R75, R76): no window starts in DROPOUT. -/
def execWindowStart (s : State) : Host.Outcome State Fault Refusal :=
  (if s.mains.present then s.windowStart else s).settled

/-- The next slot of the window begins; after slot 29 a window start follows in its place (R75). -/
def State.nextSlot (s : State) : State :=
  match s.sched.slot with
  | some k => if s.mains.present && decide (k + 1 < Config.slots) then s.beginSlot (k + 1) else s
  | none => s

/-- SLOT_BOUNDARY (R77). -/
def execSlotBoundary (s : State) : Host.Outcome State Fault Refusal := s.nextSlot.settled

/-- ZERO_CROSSING (R86, R88). -/
def execZeroCrossing (s : State) : Host.Outcome State Fault Refusal := s.crossing.settled

/-- CYCLE_READING (R86, R88). -/
def execCycleReading (volts : Nat) (s : State) : Host.Outcome State Fault Refusal :=
  (s.takeReading volts).settled

/-- DROPOUT (R87, R88). -/
def execDropout (s : State) : Host.Outcome State Fault Refusal := s.crossingExpired.settled

/-! ## Lock and door switches -/

/-- A fitted cavity's lock takes a change of an end switch (R102, R111, R116, R117). -/
def Cavity.switchChange (sw : EndSwitch) (active : Bool) (e : Env) (k : Cavity) : Cavity :=
  k.lockChanged e (k.lock.switchChange (k.lockEnv e) sw active)

/-- An unfitted cavity's lock follows its switches and reports nothing (R123). -/
def Cavity.followSwitch (sw : EndSwitch) (active : Bool) (k : Cavity) : Cavity :=
  { k with lock := (k.lock.record sw active).fromSwitches }

/-- LOCK_SWITCH_CHANGE (R102, R111, R116, R117, R123). -/
def execLockSwitchChange (c : CavNo) (sw : EndSwitch) (active : Bool) (s : State) :
    Host.Outcome State Fault Refusal :=
  (if s.fitted c then s.onCav c (Cavity.switchChange sw active)
   else s.onCav c fun _ k => k.followSwitch sw active).settled

/-- A fitted cavity's lock takes a change of the door switch (R114, R115). -/
def Cavity.doorChange (closed : Bool) (e : Env) (k : Cavity) : Cavity :=
  k.lockChanged e (k.lock.doorChange (k.lockEnv e) closed)

/-- The door switch of an unfitted cavity is recorded, and nothing is reported (R123). -/
def Cavity.followDoor (closed : Bool) (k : Cavity) : Cavity :=
  { k with lock := { k.lock with doorClosed := closed } }

/-- DOOR_SWITCH_CHANGE (R114, R115, R123). -/
def execDoorSwitchChange (c : CavNo) (closed : Bool) (s : State) : Host.Outcome State Fault Refusal :=
  (if s.fitted c then s.onCav c (Cavity.doorChange closed)
   else s.onCav c fun _ k => k.followDoor closed).settled

/-- A cavity's travel timer expires (R112, R113). -/
def Cavity.travelTimeout (e : Env) (k : Cavity) : Cavity :=
  k.lockChanged e (k.lock.timeout (k.lockEnv e))

/-- TRAVEL_TIMEOUT (R112, R113). -/
def execTravelTimeout (c : CavNo) (s : State) : Host.Outcome State Fault Refusal :=
  (s.ifFitted c Cavity.travelTimeout).settled

/-! ## Fans -/

/-- The level review of every fitted cavity, and the timer runs again (R126). -/
def State.reviewLevels (s : State) : State :=
  { s.onFitted Cavity.levelReview with review := .loaded Config.reviewMs }

/-- LEVEL_REVIEW (R126). -/
def execLevelReview (s : State) : Host.Outcome State Fault Refusal := s.reviewLevels.settled

/-- A tach pulse in WATCHING is seen, and ends a stall (R129). -/
def Cavity.tachPulse (_ : Env) (k : Cavity) : Cavity :=
  if k.fan.tach = .watching then
    let k1 : Cavity := { k with fan := { k.fan with pulseSeen := true, stall := false } }
    if k.fan.stall then k1.absent .fanStall else k1
  else k

/-- TACH_PULSE (R129). -/
def execTachPulse (c : CavNo) (s : State) : Host.Outcome State Fault Refusal :=
  (s.ifFitted c Cavity.tachPulse).settled

/-- The tach timer expires: SETTLING becomes WATCHING; an interval of WATCHING without a pulse is a
stall, and a new interval begins either way (R128). -/
def Cavity.tachExpiry (e : Env) (k : Cavity) : Cavity :=
  match k.fan.tach with
  | .stopped => k
  | .settling =>
    { k with fan := { k.fan with tach := .watching, tachLeft := Config.tachMs, pulseSeen := false } }
  | .watching =>
    let stalls := !k.fan.pulseSeen && !k.fan.stall
    let k1 : Cavity := { k with fan := { k.fan with tachLeft := Config.tachMs, pulseSeen := false,
                                                    stall := k.fan.stall || stalls } }
    if stalls then k1.onset e .fanStall else k1

/-- TACH_TIMER_EXPIRY (R128). -/
def execTachTimerExpiry (c : CavNo) (s : State) : Host.Outcome State Fault Refusal :=
  (s.ifFitted c Cavity.tachExpiry).settled

end Sys2Proof.Machine
end

