-- ==== Sys2Proof/Machine/Requests.lean ====
section
/-! DEFINITION. The meanings of the requests: each is a complete frame reaching LNK (Machine/Link.lean,
State.request; log entry 7), after which ATTN is decided (R158). -/

namespace Sys2Proof.Machine

/-- CLEAN START (R6, R7): each selected fitted cavity makes the checks of R6 and starts; one result each (R153). -/
def execCleanStart (r : Request) (s : State) : Host.Outcome State Fault Refusal :=
  (s.request .cleanStart serveCleanStart r).settled

/-- CLEAN HOLD (R8). -/
def execCleanHold (r : Request) (s : State) : Host.Outcome State Fault Refusal :=
  (s.request .cleanHold serveCleanHold r).settled

/-- CLEAN RESUME (R9). -/
def execCleanResume (r : Request) (s : State) : Host.Outcome State Fault Refusal :=
  (s.request .cleanResume serveCleanResume r).settled

/-- CLEAN ABANDON (R10). -/
def execCleanAbandon (r : Request) (s : State) : Host.Outcome State Fault Refusal :=
  (s.request .cleanAbandon serveCleanAbandon r).settled

/-- COOK SET (R11, R12). -/
def execCookSet (r : Request) (s : State) : Host.Outcome State Fault Refusal :=
  (s.request .cookSet serveCookSet r).settled

/-- COOK OFF (R13). -/
def execCookOff (r : Request) (s : State) : Host.Outcome State Fault Refusal :=
  (s.request .cookOff serveCookOff r).settled

/-- EVENTS ACK (R156). -/
def execEventsAck (r : Request) (s : State) : Host.Outcome State Fault Refusal :=
  (s.request .eventsAck serveEventsAck r).settled

/-- CONDITIONS ACK (R146). -/
def execConditionsAck (r : Request) (s : State) : Host.Outcome State Fault Refusal :=
  (s.request .conditionsAck serveConditionsAck r).settled

/-- FAULT CLEAR (R143, R144). -/
def execFaultClear (r : Request) (s : State) : Host.Outcome State Fault Refusal :=
  (s.request .faultClear serveFaultClear r).settled

/-- BUDGET LEND (R94). -/
def execBudgetLend (r : Request) (s : State) : Host.Outcome State Fault Refusal :=
  (s.request .budgetLend serveBudgetLend r).settled

/-- PART EVENTS ACK (R156). -/
def execPartEventsAck (r : Request) (s : State) : Host.Outcome State Fault Refusal :=
  (s.request .partEventsAck servePartEventsAck r).settled

/-- RESTART (R159). -/
def execRestart (r : Request) (s : State) : Host.Outcome State Fault Refusal :=
  (s.request .restart serveRestart r).settled

/-- CAVITY STATUS (R155). -/
def execCavityStatus (r : Request) (s : State) : Host.Outcome State Fault Refusal :=
  (s.request .cavityStatus serveCavityStatus r).settled

/-- TRIP RECORD (R148). -/
def execTripRecord (r : Request) (s : State) : Host.Outcome State Fault Refusal :=
  (s.request .tripRecord serveTripRecord r).settled

/-- WINDOW STATUS (R100). -/
def execWindowStatus (r : Request) (s : State) : Host.Outcome State Fault Refusal :=
  (s.request .windowStatus serveWindowStatus r).settled

/-- PART STATUS (R155). -/
def execPartStatus (r : Request) (s : State) : Host.Outcome State Fault Refusal :=
  (s.request .partStatus servePartStatus r).settled

/-- SETTING READ (R161). -/
def execSettingRead (r : Request) (s : State) : Host.Outcome State Fault Refusal :=
  (s.request .settingRead serveSettingRead r).settled

/-- SETTING WRITE (R162, R163). -/
def execSettingWrite (r : Request) (s : State) : Host.Outcome State Fault Refusal :=
  (s.request .settingWrite serveSettingWrite r).settled

/-- STORE STAGE (R170). -/
def execStoreStage (r : Request) (s : State) : Host.Outcome State Fault Refusal :=
  (s.request .storeStage serveStoreStage r).settled

/-- STORE DISCARD (R170). -/
def execStoreDiscard (r : Request) (s : State) : Host.Outcome State Fault Refusal :=
  (s.request .storeDiscard serveStoreDiscard r).settled

/-- STORE BURN (R171). -/
def execStoreBurn (r : Request) (s : State) : Host.Outcome State Fault Refusal :=
  (s.request .storeBurn serveStoreBurn r).settled

/-- STORE READ (R173). -/
def execStoreRead (r : Request) (s : State) : Host.Outcome State Fault Refusal :=
  (s.request .storeRead serveStoreRead r).settled

end Sys2Proof.Machine
end

