-- ==== Sys2Proof/Machine/Dispatch.lean ====
section
/-! DEFINITION. One arm per command: a direct call of its meaning. -/

namespace Sys2Proof.Machine

def exec (i : Instr) (s : State) : Host.Outcome State Fault Refusal :=
  match i with
  | .startUp inp => Sys2Proof.Machine.execStartUp inp s
  | .linkOpen => Sys2Proof.Machine.execLinkOpen s
  | .receivedByte b => Sys2Proof.Machine.execReceivedByte b s
  | .frameCut => Sys2Proof.Machine.execFrameCut s
  | .replyEnd inp => Sys2Proof.Machine.execReplyEnd inp s
  | .cleanStart r => Sys2Proof.Machine.execCleanStart r s
  | .cleanHold r => Sys2Proof.Machine.execCleanHold r s
  | .cleanResume r => Sys2Proof.Machine.execCleanResume r s
  | .cleanAbandon r => Sys2Proof.Machine.execCleanAbandon r s
  | .cookSet r => Sys2Proof.Machine.execCookSet r s
  | .cookOff r => Sys2Proof.Machine.execCookOff r s
  | .eventsAck r => Sys2Proof.Machine.execEventsAck r s
  | .conditionsAck r => Sys2Proof.Machine.execConditionsAck r s
  | .faultClear r => Sys2Proof.Machine.execFaultClear r s
  | .budgetLend r => Sys2Proof.Machine.execBudgetLend r s
  | .partEventsAck r => Sys2Proof.Machine.execPartEventsAck r s
  | .restart r => Sys2Proof.Machine.execRestart r s
  | .cavityStatus r => Sys2Proof.Machine.execCavityStatus r s
  | .tripRecord r => Sys2Proof.Machine.execTripRecord r s
  | .windowStatus r => Sys2Proof.Machine.execWindowStatus r s
  | .partStatus r => Sys2Proof.Machine.execPartStatus r s
  | .settingRead r => Sys2Proof.Machine.execSettingRead r s
  | .settingWrite r => Sys2Proof.Machine.execSettingWrite r s
  | .storeStage r => Sys2Proof.Machine.execStoreStage r s
  | .storeDiscard r => Sys2Proof.Machine.execStoreDiscard r s
  | .storeBurn r => Sys2Proof.Machine.execStoreBurn r s
  | .storeRead r => Sys2Proof.Machine.execStoreRead r s
  | .byteProgrammingComplete readBack => Sys2Proof.Machine.execByteProgrammingComplete readBack s
  | .cavitySample c value => Sys2Proof.Machine.execCavitySample c value s
  | .doorSample c value => Sys2Proof.Machine.execDoorSample c value s
  | .windowStart => Sys2Proof.Machine.execWindowStart s
  | .slotBoundary => Sys2Proof.Machine.execSlotBoundary s
  | .zeroCrossing => Sys2Proof.Machine.execZeroCrossing s
  | .cycleReading volts => Sys2Proof.Machine.execCycleReading volts s
  | .dropout => Sys2Proof.Machine.execDropout s
  | .lockSwitchChange c sw active => Sys2Proof.Machine.execLockSwitchChange c sw active s
  | .doorSwitchChange c closed => Sys2Proof.Machine.execDoorSwitchChange c closed s
  | .travelTimeout c => Sys2Proof.Machine.execTravelTimeout c s
  | .levelReview => Sys2Proof.Machine.execLevelReview s
  | .tachPulse c => Sys2Proof.Machine.execTachPulse c s
  | .tachTimerExpiry c => Sys2Proof.Machine.execTachTimerExpiry c s

end Sys2Proof.Machine
end

