-- ==== Sys2Proof/Safety.lean ====
section
/-! DEFINITION. What counts as a lawful state: the laws the chapters state over every state of the part,
each as a predicate of the state that one step is to keep. -/

namespace Sys2Proof.Machine

/-! ## Unfitted cavities (R4, R60, R123, R124, R147) -/

/-- The record of an unfitted cavity: every block but the lock drive and the scheduler at its start-up
values, and the lock at rest in the state its switches give, with no motor command. -/
@[reducible] def Cavity.atStartUp (k : Cavity) : Prop :=
  k.cc = {} ∧ k.prb = {} ∧ k.fan = {} ∧ k.cond = {} ∧ k.starve = 0 ∧ k.lock = k.lock.fromSwitches

/-- Every unfitted cavity stands at its start-up values. -/
@[reducible] def State.UnfittedLaw (s : State) : Prop :=
  ∀ c : CavNo, s.fitted c = false → (s.cav c).atStartUp

/-! ## The lock drive (R101, R103, R104, R105) -/

/-- The record of a lock drive as R101 describes it: at rest with motor STOP, no goal, the timer stopped
and attempt 1; in travel with a goal, attempt 1 or 2, and the motor and the timer running while mains is
present and standing while it is absent. At rest in LOCKED or OPEN the bolt's switches say so (R116,
R117). -/
@[reducible] def Lock.shaped (l : Lock) : Prop :=
  (if l.state.travelling then
    l.goal ≠ none ∧ (l.attempt = 1 ∨ l.attempt = 2) ∧
      l.motor = (if l.mains then l.state.motor else .stop) ∧
      l.timer.status = (if l.mains then .running else .paused)
   else l.goal = none ∧ l.attempt = 1 ∧ l.motor = .stop ∧ l.timer = .halted) ∧
    (l.state = .locked → l.lockedSw = true ∧ l.openSw = false) ∧
    (l.state = .opened → l.openSw = true ∧ l.lockedSw = false)

/-- The release law: a motor that runs toward open runs with the probe good and the reading below the
unlock level (R105). -/
@[reducible] def Cavity.releaseLawful (unlock : Nat) (k : Cavity) : Prop :=
  k.lock.motor = .towardOpen → k.prb.cavity.fault = false ∧ k.prb.cavity.reading < unlock

/-- Every lock drive's record has its shape, and obeys the release law. -/
@[reducible] def State.LockLaw (s : State) : Prop :=
  ∀ c : CavNo, (s.cav c).lock.shaped ∧ (s.cav c).releaseLawful s.cfg.limits.unlockLevel

/-- A cavity in CLEANING or HELD has its lock in state LOCKED (R19); in LOCKING its lock is driven, with
goal LOCKED, and its start segment held (R2, R7); and in FAULTED its lock is at rest (R139, R141). -/
@[reducible] def State.DoorLaw (s : State) : Prop :=
  ∀ c : CavNo,
    ((s.cav c).cc.state = .cleaning ∨ (s.cav c).cc.state = .held → (s.cav c).lock.state = .locked) ∧
    ((s.cav c).cc.state = .locking →
      (s.cav c).lock.state.travelling = true ∧ (s.cav c).lock.goal = some .locked ∧
        (s.cav c).cc.startSeg ≠ none) ∧
    ((s.cav c).cc.state = .faulted → (s.cav c).lock.state.travelling = false)

/-! ## Heat (R2, R77, R130) -/

/-- What a channel's relay and placements may be in a slot for the state of its cavity: a closed relay
is placed in the current slot, and a channel that holds a placement in the current or a later slot is
one that the state allows. -/
@[reducible] def Channel.lawful (slot : Option Nat) (allowed : Bool) (ch : Channel) : Prop :=
  (ch.relay = true → ∃ k ∈ slot, ch.placements.contains k = true) ∧
    (ch.holdsFrom slot = true → allowed = true)

/-- The heat law: every channel lawful, so that a heating relay is closed only in COOKING or CLEANING
and a CAT relay only in CLEANING (R77), and the catalyst command on only in CLEANING (R130). -/
@[reducible] def State.HeatLaw (s : State) : Prop :=
  ∀ c : CavNo,
    (∀ p : Position,
      ((s.cav c).channel p).lawful s.sched.slot ((s.cav c).cc.state.allows p) ∧
      (((s.cav c).channel p).relay = true → (s.cav c).cc.state.allows p = true)) ∧
    ((s.cav c).fan.catalyst = true → (s.cav c).cc.state = .cleaning)

/-! ## The budget (R74, R92, R95) -/

/-- What the channels with closed relays draw. -/
def State.drawn (s : State) : Nat :=
  ((List.range 12).map fun n => if (s.chan n).relay then (s.chan n).power else 0).sum

/-- The budget law: the remaining slots' loads and the power drawn within B, the lend and B within the
ceiling, granted ≤ demand ≤ 30 on every channel, every channel with a remaining placement ranked, no
channel ranked twice, and a closed relay only on a channel placed in the current slot. -/
@[reducible] def State.BudgetLaw (s : State) : Prop :=
  (∀ j ∈ remainingSlots s.sched.slot, s.slotLoad j ≤ s.sched.budget) ∧
    s.drawn ≤ s.sched.budget ∧
    s.sched.lend ≤ s.cfg.part.budgetCeiling ∧ s.sched.budget ≤ s.cfg.part.budgetCeiling ∧
    (∀ k ∈ s.sched.slot, k < 30) ∧ s.sched.ranking.Nodup ∧ (∀ n ∈ s.sched.ranking, n < 12) ∧
    (∀ n : Fin 12,
      (s.chan n).granted ≤ (s.chan n).demand ∧ (s.chan n).demand ≤ 30 ∧
      ((s.chan n).holdsFrom s.sched.slot = true → n.val ∈ s.sched.ranking) ∧
      ((s.chan n).relay = true → ∃ k ∈ s.sched.slot, (s.chan n).placements.contains k = true)) ∧
    (∀ c : CavNo, (s.cav c).cc.demand ≤ 30)

/-! ## Trips (R132) -/

/-- The trip record is present while the cavity is FAULTED and absent in every other state. -/
@[reducible] def State.TripLaw (s : State) : Prop :=
  ∀ c : CavNo, (s.cav c).cond.trip.isSome = true ↔ (s.cav c).cc.state = .faulted

/-! ## The place in the program (R1, R36, R66, R81, R99) -/

/-- The cavity is in a cleaning cycle's program: CLEANING or HELD. -/
@[reducible] def CavState.inProgram (st : CavState) : Prop := st = .cleaning ∨ st = .held

/-- The timed kinds that arm a mark (R66). -/
@[reducible] def SegKind.marks (g : SegKind) : Prop := g = .ramp ∨ g = .coast

/-- The timed kinds. -/
@[reducible] def SegKind.timed (g : SegKind) : Prop := g = .ramp ∨ g = .soak ∨ g = .dwell ∨ g = .coast

/-- The record of a cavity controller: in CLEANING and HELD it stands in a complete timed segment with
at most three return indices 1 to 64, a direction exactly in a RAMP, and a detector armed only in a RAMP
or COAST whose mark is not held; outside them the program fields stand at their start-up values. The
start segment stands only in LOCKING, the cook fields only in COOKING, demand only in COOKING and
CLEANING, SPeff not in the states of R3, and a starvation count only in CLEANING and HELD. -/
@[reducible] def Cavity.placed (g : SegStore) (k : Cavity) : Prop :=
  (if k.cc.state.inProgram then
      (∃ i ∈ k.cc.segIndex, i < 64 ∧ (g.at i).kind.timed ∧ (g.at i).complete = true ∧
        (k.cc.direction ≠ none ↔ (g.at i).kind = .ramp) ∧
        (k.prb.mark ≠ none → k.cc.markHeld = false ∧ (g.at i).kind.marks)) ∧
      k.cc.stack.length ≤ 3 ∧ (∀ j ∈ k.cc.stack, 1 ≤ j ∧ j ≤ 64)
    else k.cc.segIndex = none ∧ k.cc.stack = [] ∧ k.cc.elapsed = 0 ∧ k.cc.soak = 0 ∧
      k.cc.direction = none ∧ k.cc.arrived = false ∧ k.cc.markHeld = false ∧ k.prb.mark = none ∧
      k.starve = 0) ∧
    (k.cc.startSeg ≠ none → k.cc.state = .locking) ∧
    (k.cc.state ≠ .cooking → k.cc.cookSetpoint = 0 ∧ k.cc.cookSet = 0) ∧
    (k.cc.state.heats = false → k.cc.demand = 0) ∧
    (k.cc.state.zeroSpeff = true → k.cc.speff = 0)

/-- Every cavity controller's record has its shape, and a cavity whose recovery is still to come stands
IDLE or FAULTED behind a closed link (R29). -/
@[reducible] def State.ProgramLaw (s : State) : Prop :=
  ∀ c : CavNo, (s.cav c).placed s.segs ∧
    ((s.cav c).cc.recovering = true →
      s.link.rx = .closed ∧ ((s.cav c).cc.state = .idle ∨ (s.cav c).cc.state = .faulted))

/-- The catalyst command is on exactly in CLEANING in a segment with the CATALYST flag (R130), and the
segment fan flag is set exactly in CLEANING and HELD in a segment with the FAN HIGH flag (R124). -/
@[reducible] def State.SegmentFlagLaw (s : State) : Prop :=
  ∀ c : CavNo, let k := s.cav c
    let flag (n : Nat) : Bool := k.cc.segIndex.any fun i => (s.segs.at i).flags.getLsbD n
    k.fan.catalyst = (decide (k.cc.state = .cleaning) && flag 1) ∧
      k.fan.segFlag = (decide (k.cc.state = .cleaning ∨ k.cc.state = .held) && flag 0)

/-! ## Settings (R160, R163, R164) and the effective setpoint (R78) -/

/-- Whether a value is one that a setting takes (R160). -/
def SettingId.admits (id : SettingId) (v : Nat) : Bool :=
  match id.shape with
  | .number lo hi => decide (lo ≤ v ∧ v ≤ hi)
  | .mode => decide (v ≤ 1)
  | .bits allowed => withinBits allowed v

/-- The settings law: every setting within its range, every protected setting on the safe side of its
bound or equal to it, the bound within the range too, and the pairs of R163 in order. -/
@[reducible] def State.SettingsLaw (s : State) : Prop :=
  (∀ id : SettingId, id.admits (s.cfg.get id) = true ∧
    (∀ d ∈ id.protection, d.onSafeSide (s.cfg.get id) (s.bounds.get id) = true ∧
      id.admits (s.bounds.get id) = true)) ∧
    s.cfg.part.mainsLow < s.cfg.part.mainsHigh ∧ s.cfg.limits.doorWarn < s.cfg.limits.doorTrip ∧
    (∀ c : CavNo, (s.cfg.page c).fanOff < (s.cfg.page c).fanOn)

/-- SPeff never exceeds the clean ceiling times 10, and in COOKING it is the cook setpoint times 10,
which never exceeds the cook ceiling times 10 (R78). -/
@[reducible] def State.SetpointLaw (s : State) : Prop :=
  ∀ c : CavNo, (s.cav c).cc.speff ≤ s.cfg.limits.cleanCeiling * 10 ∧
    ((s.cav c).cc.state = .cooking →
      (s.cav c).cc.cookSetpoint ≤ s.cfg.limits.cookCeiling ∧
      (s.cav c).cc.speff = (s.cav c).cc.cookSetpoint * 10)

/-! ## Fans (R125, R128, R133) -/

/-- The fan policy of R125, row by row, with its table's words. -/
def fanPolicy (st : CavState) (probeView warmView segFlag idleLow : Bool) : FanSpeed :=
  if st = .faulted ∨ st = .cooldown then .high
  else if probeView then .high
  else if st = .cleaning ∨ st = .held then (if segFlag || warmView then .high else .low)
  else if st = .cooking then (if warmView then .high else .low)
  else if st = .locking ∨ st = .unlocking then .low
  else if idleLow then .low else .off

/-- The fan command is the policy's, the tach timer is STOPPED exactly while the command is OFF, and a
fan stalls only in WATCHING. -/
@[reducible] def State.FanLaw (s : State) : Prop :=
  ∀ c : CavNo, let k := s.cav c
    k.fan.command = fanPolicy k.cc.state k.fan.probeView k.fan.warmView k.fan.segFlag k.fan.idleLow ∧
    (k.fan.tach = .stopped ↔ k.fan.command = .off) ∧ (k.fan.stall = true → k.fan.tach = .watching)

/-! ## The window and the mains (R75, R85, R87, R89) -/

/-- A window stands exactly while mains is PRESENT, its timer stopped in DROPOUT; the ring holds at most
eight readings of at most 300 volts, and at least one in PRESENT; every lock drive holds what the mains
monitor told it; and before the first return mains is in DROPOUT. -/
@[reducible] def State.MainsLaw (s : State) : Prop :=
  (s.mains.present = true ↔ s.sched.slot ≠ none) ∧
    (s.mains.present = false → s.sched.timer.status = .stopped) ∧
    (∀ k ∈ s.sched.slot, k < 30) ∧
    s.mains.ring.length ≤ 8 ∧ (∀ v ∈ s.mains.ring, v ≤ 300) ∧
    (s.mains.present = true → s.mains.ring ≠ [] ∧ s.mains.firstReturn = false) ∧
    (∀ c : CavNo, (s.cav c).lock.mains = s.mains.present)

/-! ## Conditions and their owners (R65, R133, R134) -/

/-- A probe that has not given three samples stands in fault, with no more good samples than samples. -/
@[reducible] def Probe.starting (p : Probe) : Prop :=
  p.taken ≤ 3 ∧ (p.taken < 3 → p.fault = true ∧ p.good ≤ p.taken)

/-- The conditions present are those whose owner holds their cause, and no momentary one is among them. -/
@[reducible] def Cavity.conditionsFollow (k : Cavity) : Prop :=
  k.prb.cavity.starting ∧ k.prb.door.starting ∧
    k.cond.present.has .overtemp = k.prb.overtemp ∧
    k.cond.present.has .sensor = (k.prb.cavity.fault && decide (k.prb.cavity.taken = 3)) ∧
    k.fan.probeView = k.cond.present.has .sensor ∧
    k.cond.present.has .doorHot = k.prb.doorHot ∧
    k.cond.present.has .doorProbe = (k.prb.door.fault && decide (k.prb.door.taken = 3)) ∧
    k.cond.present.has .doorWarm = k.prb.doorWarm ∧
    k.fan.warmView = k.prb.doorWarm ∧
    k.cond.present.has .lockJam = decide (k.lock.state = .jammed) ∧
    k.cond.present.has .fanStall = k.fan.stall ∧
    k.cond.present.has .starved = decide (40 ≤ k.starve) ∧
    k.cond.present.has .lockLost = false ∧ k.cond.present.has .doorForced = false ∧
    k.cond.present.has .program = false

/-- Every condition present has been seen (R132, R146). -/
@[reducible] def Cavity.presentSeen (k : Cavity) : Prop :=
  ∀ x ∈ allConditions, k.cond.present.has x = true → k.cond.seen.has x = true

/-- Every cavity's conditions follow their owners, and every condition present has been seen. -/
@[reducible] def State.ConditionLaw (s : State) : Prop :=
  ∀ c : CavNo, (s.cav c).conditionsFollow ∧ (s.cav c).presentSeen

/-! ## ATTN (R158) -/

/-- When ATTN is asserted (R158): the link is open, and a fitted cavity's events or the part events have
a member in common with their mask. -/
@[reducible] def State.watched (s : State) : Prop :=
  s.link.rx ≠ .closed ∧
    ((∃ c : CavNo, s.fitted c = true ∧ ∃ i : Fin 6,
        maskHas (s.cav c).cc.events i = true ∧ (s.cfg.page c).attnMask.testBit i = true) ∨
      ∃ i : Fin 7, maskHas s.link.partEvents i = true ∧ s.cfg.part.partMask.testBit i = true)

/-- ATTN is asserted exactly while something watched has happened. -/
@[reducible] def State.AttnLaw (s : State) : Prop := s.link.attn = true ↔ s.watched

/-! ## The link (R149, R150, R159) -/

/-- The link's record: in ASSEMBLING the buffer holds the stored bytes of the bytes counted, short of the
frame's end, with the gap timer running; otherwise the gap timer is stopped. A closed link sends nothing,
and a RESTART is remembered only while its reply is sent. -/
@[reducible] def Link.shaped (l : Link) : Prop :=
  (if l.rx = .assembling then
    l.gap.status = .running ∧
      (if l.count ≤ 4 then l.assembly.length = l.count
       else l.assembly.length = 4 + min 48 (l.count - 4) ∧ l.count ≤ (at8 l.assembly 3).toNat + 4)
   else l.gap.status = .stopped) ∧
    (l.rx = .closed → l.sending = false) ∧ (l.restarting = true → l.sending = true)

/-- The link's record has its shape. -/
@[reducible] def State.LinkLaw (s : State) : Prop := s.link.shaped

/-! ## The one-time store (R167) -/

/-- A programmed byte never returns to blank. -/
def Memory.keepsProgrammed (m m' : Memory) : Prop := ∀ a : Nat, m.read a ≠ 0 → m'.read a ≠ 0

end Sys2Proof.Machine
end

