-- ==== Sys2Proof/Effects/Common.lean ====
section
/-! DEFINITION. Words in which the obligations say what a command does: what it leaves alone, the reply it
sends, the entry of a state, a trip, and a lock drive under way or at rest. -/

namespace Sys2Proof.Machine

/-! ## Frames -/

/-- What only commands of other kinds change: the settings, the stores, the scheduler's own record, the
mains monitor, the review timer and the waiting commands. -/
@[reducible] def State.partKept (s t : State) : Prop :=
  t.cfg = s.cfg ∧ t.bounds = s.bounds ∧ t.segs = s.segs ∧ t.sched = s.sched ∧ t.mains = s.mains ∧
    t.review = s.review ∧ t.store = s.store ∧ t.pending = s.pending

/-- No cavity's record changes. -/
@[reducible] def State.cavitiesKept (s t : State) : Prop := ∀ c : CavNo, t.cav c = s.cav c

/-- The link's record is the given one but for ATTN, which is decided afresh (R158). -/
@[reducible] def State.linkIs (t : State) (l : Link) : Prop :=
  t.link = { l with attn := t.link.attn } ∧ t.AttnLaw

/-! ## Requests and replies (R151 to R154) -/

/-- LNK listens: the link is open and no reply is leaving the line. -/
@[reducible] def State.listening (s : State) : Prop := s.link.rx ≠ .closed ∧ s.link.sending = false

/-- The frame-level answer of R152 to a request whose code is known: BAD SELECT where SEL does not fit the
scope, then BAD LENGTH where LEN is not what the code requires for the selection. -/
def ReqKind.answerTo (q : ReqKind) (r : Request) : Option Result :=
  let n := r.payload.length
  let m := (selected r.sel).length
  let perCavity : Option Nat := match q with
    | .cleanStart => some 1
    | .eventsAck => some 1
    | .conditionsAck => some 2
    | .cookSet => some 3
    | .cleanHold => some 0
    | .cleanResume => some 0
    | .cleanAbandon => some 0
    | .cookOff => some 0
    | .faultClear => some 0
    | .cavityStatus => some 0
    | .tripRecord => some 0
    | _ => none
  let partOk : Bool := match q with
    | .budgetLend => n = 2
    | .partEventsAck => n = 1
    | .settingRead => n = 3
    | .settingWrite => 4 ≤ n && n ≤ 34 && n % 2 = 0
    | .storeStage => 1 ≤ n && n ≤ 48
    | .storeRead => n = 3
    | _ => n = 0
  match perCavity with
  | some size =>
    if 8 ≤ r.sel.toNat ∨ r.sel = 0 then some .badSelect
    else if n ≠ size * m then some .badLength else none
  | none =>
    if r.sel ≠ 0 then some .badSelect
    else if partOk = false then some .badLength else none

/-- A request reaches its owning block: LNK listens and the frame-level checks pass (R151, R152). -/
@[reducible] def State.takes (s : State) (q : ReqKind) (r : Request) : Prop :=
  s.listening ∧ q.answerTo r = none

/-- The link's record with the one reply of a request: the HEAD with the unit, class, tag and the reply
bit, SEL and CODE as received, the payload with its length, and the SUM that makes the sum 0 (R152). -/
@[reducible] def Link.answered (l : Link) (q : ReqKind) (r : Request) (payload : List Byte) : Link :=
  let head : Byte := r.tag ++ (1#1) ++ q.cls ++ l.unit
  let body := [head, r.sel, q.code, BitVec.ofNat 8 payload.length] ++ payload
  { l with reply := [0xC5] ++ body ++ [0 - body.foldl (· + ·) 0], tag := r.tag, sending := true }

/-- The payload group of a selected cavity: groups stand in ascending cavity order (R153). -/
def groupOf (r : Request) (size : Nat) (c : CavNo) : List Byte :=
  (r.payload.drop (size * ((selected r.sel).filter (· < c)).length)).take size

/-- A per-cavity order taken: one result per selected cavity in ascending order, and each selected cavity
whose result is no refusal takes its effect; every other cavity, and the rest of the part, is left as it
was (R153, R154). -/
def State.ordersTaken (s : State) (q : ReqKind) (r : Request) (result : CavNo → Result)
    (effect : CavNo → Cavity → Prop) (t : State) : Prop :=
  s.partKept t ∧ t.linkIs (s.link.answered q r ((selected r.sel).map fun c => (result c).code)) ∧
    ∀ c : CavNo,
      if c ∈ selected r.sel ∧ (result c).refusal = false then effect c (t.cav c) else t.cav c = s.cav c

/-- The fitted check that comes before every other check of a cavity order (R4). -/
def State.ifFittedResult (s : State) (c : CavNo) (result : Result) : Result :=
  if c.val < s.cfg.part.fittedCount then result else .notFitted

/-! ## Conditions that trip (R136, R137, R139, R140) -/

/-- A cell of the table of R136. -/
inductive TripCell where
  | yes | no | enable
  deriving DecidableEq, Repr

/-- The table of R136, with its dashes and FAULTED as no. -/
def tripCell : Condition → CavState → TripCell
  | _, .faulted => .no
  | .overtemp, _ => .yes
  | .sensor, .cooking => .yes
  | .sensor, .locking => .yes
  | .sensor, .cleaning => .yes
  | .sensor, .held => .yes
  | .sensor, _ => .no
  | .doorHot, _ => .yes
  | .doorProbe, _ => .enable
  | .doorWarm, _ => .no
  | .lockJam, .idle => .no
  | .lockJam, .cooking => .no
  | .lockJam, .locking => .enable
  | .lockJam, _ => .yes
  | .lockLost, .locking => .yes
  | .lockLost, .cleaning => .yes
  | .lockLost, .held => .yes
  | .lockLost, .cooldown => .yes
  | .lockLost, _ => .no
  | .doorForced, _ => .yes
  | .fanStall, _ => .enable
  | .program, .cleaning => .enable
  | .program, _ => .no
  | .starved, .cleaning => .enable
  | .starved, _ => .no

/-- Whether a condition trips in a state, with the enables of a page (R136). -/
def tripsIn (p : CavityPage) (st : CavState) (c : Condition) : Bool :=
  match tripCell c st with
  | .yes => true
  | .no => false
  | .enable => p.tripEnables.testBit c.bit

/-- The conditions present that trip in a state, in the order of the table (R137). -/
def causesIn (p : CavityPage) (st : CavState) (present : CondSet) : List Condition :=
  allConditions.filter fun c => present.has c && tripsIn p st c

/-- The cavity has been tripped with these causes: the first and the later causes in its record, FAULTED,
TRIPPED set, no demand, no setpoint, no channel with a remaining slot, the catalyst command off and the
fan HIGH (R137, R139). -/
def Cavity.trippedBy (slot : Option Nat) (causes : List Condition) (k' : Cavity) : Prop :=
  k'.cc.state = .faulted ∧
    k'.cond.trip.map (·.first) = causes.head? ∧
    (∀ x ∈ k'.cond.trip, ∀ c ∈ allConditions, x.later.has c = causes.tail.contains c) ∧
    maskHas k'.cc.events CavEvent.tripped.bit = true ∧ k'.cc.demand = 0 ∧ k'.cc.speff = 0 ∧
    (∀ p ∈ allPositions, (k'.channel p).holdsFrom slot = false) ∧
    k'.fan.catalyst = false ∧ k'.fan.command = .high

/-! ## Entering a state (R2, R3, R99, R125, R126, R128, R130) -/

/-- The fan after a command decided afresh: the policy's command, and the tach timer as R128 moves it.
The views and flags are the new record's own. -/
def Fan.decided (st : CavState) (f f' : Fan) : Prop :=
  f'.command = fanPolicy st f'.probeView f'.warmView f'.segFlag f'.idleLow ∧
    f'.pulseSeen = f.pulseSeen ∧
    (if f'.command = f.command ∨ (f'.command ≠ .off ∧ f.command ≠ .off) then
        f'.tach = f.tach ∧ f'.tachLeft = f.tachLeft ∧ f'.stall = f.stall
      else if f'.command = .off then f'.tach = .stopped ∧ f'.stall = false
      else f'.tach = .settling ∧ f'.tachLeft = 2000 ∧ f'.stall = f.stall)

/-- What the entry of a state does outside the controller's own record: the channels that may not be on
are shed, the starvation count and STARVED end outside CLEANING and HELD, the catalyst command is off
outside CLEANING, the idle speed is set on entry to IDLE, and the fan is decided. -/
def Cavity.enters (e : Env) (st : CavState) (k k' : Cavity) : Prop :=
  (∀ p ∈ allPositions, k'.channel p =
      if st = .cleaning ∨ (st = .cooking ∧ p ≠ .cat) then k.channel p
      else (k.channel p).shedFrom e.slot) ∧
    (if st = .cleaning ∨ st = .held then k'.starve = k.starve ∧ k'.cond = k.cond
     else k'.starve = 0 ∧
      k'.cond = { k.cond with present := k.cond.present.del .starved }) ∧
    (st ≠ .cleaning → k'.fan.catalyst = false) ∧
    k'.fan.idleLow = (if st = .idle then decide (k.fan.command ≠ .off) else k.fan.idleLow) ∧
    k'.fan.probeView = k.fan.probeView ∧ k'.fan.warmView = k.fan.warmView ∧ k.fan.decided st k'.fan

/-- The entry is made where no condition present trips in the new state; otherwise the cavity trips
(R137). -/
def Cavity.entersUnless (e : Env) (st : CavState) (present : CondSet) (entered : Prop)
    (k' : Cavity) : Prop :=
  if causesIn e.page st present = [] then entered
  else k'.trippedBy e.slot (causesIn e.page st present)

/-! ## The lock drive (R101, R103, R104, R105) -/

/-- The release check: the cavity probe is not in fault and the reading is below the unlock level. -/
def Cavity.checkPasses (e : Env) (k : Cavity) : Bool :=
  !k.prb.cavity.fault && decide (k.prb.cavity.reading < e.cfg.limits.unlockLevel)

/-- A lock drive under way on a leg, its timer loaded with the travel timeout (tenths of a second, held in
milliseconds); with mains absent the motor stands and the timer is paused (R103, R104, R121). -/
def Lock.underway (e : Env) (st : LockState) (goal : Goal) (attempt : Nat) (motor : Motor) (l : Lock) :
    Lock :=
  { l with state := st, goal := some goal, attempt := attempt,
           motor := if l.mains then motor else .stop,
           timer := ⟨if l.mains then .running else .paused, e.cfg.part.travelTimeout * 100⟩ }

/-- A lock at rest in a state (R101). -/
def Lock.resting (st : LockState) (l : Lock) : Lock :=
  { l with state := st, goal := none, attempt := 1, motor := .stop, timer := ⟨.stopped, 0⟩ }

/-- The bolt stands at the open end: the open switch active and the locked switch inactive. -/
@[reducible] def Lock.standsOpen (l : Lock) : Prop := l.openSw = true ∧ l.lockedSw = false

/-- The bolt stands at the locked end. -/
@[reducible] def Lock.standsLocked (l : Lock) : Prop := l.lockedSw = true ∧ l.openSw = false

/-- SPeff from a reading: the reading times 10, held between 0 and the clean ceiling times 10. -/
def Env.heldReading (e : Env) (reading : Int) : Nat :=
  if reading ≤ 0 then 0
  else if (e.cfg.limits.cleanCeiling : Int) ≤ reading then e.cfg.limits.cleanCeiling * 10
  else reading.toNat * 10

end Sys2Proof.Machine
end

