-- ==== Sys2Proof/Effects/Orders.lean ====
section
/-! DEFINITION. The results and effects of the nine per-cavity orders, from the tables and rules R5 to R13,
R143, R144, R146 and R156. Each result is what a fitted cavity decides; each effect relates the cavity
before and after an order that was taken. -/

namespace Sys2Proof.Machine

/-! ## CLEAN START (R6, R7) -/

/-- The checks of R6 in order; `index` is the payload byte. -/
def startResult (e : Env) (index : Nat) (k : Cavity) : Result :=
  if k.cc.state ≠ .idle then .wrongState
  else if k.prb.cavity.fault = true then .sensor
  else if (e.cfg.limits.unlockLevel : Int) ≤ k.prb.cavity.reading then .tooHot
  else if k.lock.doorClosed = false then .doorOpen
  else if 64 ≤ index ∨ (e.segs.at index).kind = .empty then .badArgument
  else if k.lock.state ≠ .opened then .wrongState
  else .done

/-- The cavity enters LOCKING with the index as its start segment, and its lock begins a LOCK drive from
OPEN. The cycle and hold counters and the last end stay. Said where the bolt does not stand at the locked
end already. -/
def startEffect (e : Env) (index : Nat) (k k' : Cavity) : Prop :=
  ¬ k.lock.standsLocked →
    k'.entersUnless e .locking k.cond.present
      (k'.cc = { k.cc with state := .locking, startSeg := some index, speff := 0, demand := 0,
                           cookSetpoint := 0, cookSet := 0 } ∧
        k'.prb = k.prb ∧ k'.lock = k.lock.underway e .closing .locked 1 .towardClosed ∧
        k.enters e .locking k' ∧ k'.fan.segFlag = k.fan.segFlag)

/-! ## CLEAN HOLD (R8) -/

/-- The row CLEAN HOLD of R5. -/
def holdResult (k : Cavity) : Result :=
  if k.cc.state = .cleaning ∨ k.cc.state = .held then .done else .wrongState

/-- HELD stays as it is; CLEANING becomes HELD with every channel shed and nothing else of the cycle
moved. -/
def holdEffect (e : Env) (k k' : Cavity) : Prop :=
  if k.cc.state = .held then k' = k
  else k'.entersUnless e .held k.cond.present
    (k'.cc = { k.cc with state := .held, demand := 0, cookSetpoint := 0, cookSet := 0, startSeg := none } ∧
      k'.prb = k.prb ∧ k'.lock = k.lock ∧ k.enters e .held k' ∧ k'.fan.segFlag = k.fan.segFlag)

/-! ## CLEAN RESUME (R9) -/

/-- The row CLEAN RESUME of R5. -/
def resumeResult (k : Cavity) : Result := if k.cc.state = .held then .done else .wrongState

/-- The cavity is CLEANING again in the same segment, SPeff from the reading and arrived no; its counters,
stack, detector and held mark stay, no channel gains a slot, and the catalyst command follows the
segment's CATALYST flag. -/
def resumeEffect (e : Env) (k k' : Cavity) : Prop :=
  k'.entersUnless e .cleaning k.cond.present
    (k'.cc = { k.cc with state := .cleaning, speff := e.heldReading k.prb.cavity.reading,
                         arrived := false, cookSetpoint := 0, cookSet := 0, startSeg := none } ∧
      k'.prb = k.prb ∧ k'.lock = k.lock ∧ k.enters e .cleaning k' ∧ k'.fan.segFlag = k.fan.segFlag ∧
      (∀ i ∈ k.cc.segIndex, k'.fan.catalyst = maskHas (e.segs.at i).flags 1))

/-! ## CLEAN ABANDON (R10, R23) -/

/-- The row CLEAN ABANDON of R5. -/
def abandonResult (k : Cavity) : Result :=
  if k.cc.state = .locking ∨ k.cc.state = .cleaning ∨ k.cc.state = .held ∨ k.cc.state = .cooldown ∨
    k.cc.state = .unlocking then .done else .wrongState

/-- Entry to COOLDOWN with its end cause: the channels shed, SPeff 0, the program cleared, the counters of
the cycle and the lock kept (R23, R38). -/
def Cavity.intoCooldown (e : Env) (why : LastEnd) (k k' : Cavity) : Prop :=
  k'.entersUnless e .cooldown k.cond.present
    (k'.cc = { k.cc with state := .cooldown, lastEnd := why, speff := 0, demand := 0, cookSetpoint := 0,
                         cookSet := 0, startSeg := none, segIndex := none, stack := [], elapsed := 0,
                         soak := 0, direction := none, arrived := false, markHeld := false } ∧
      k'.prb = { k.prb with mark := none } ∧ k'.lock = k.lock ∧ k.enters e .cooldown k' ∧
      k'.fan.segFlag = false)

/-- The controller's record on entry to UNLOCKING with an end cause. -/
def Controller.unlockingWith (why : LastEnd) (c : Controller) : Controller :=
  { c with state := .unlocking, lastEnd := why, speff := 0, demand := 0, cookSetpoint := 0, cookSet := 0,
           startSeg := none }

/-- A cavity enters UNLOCKING with a lock record and the conditions that stand then. -/
def Cavity.intoUnlocking (e : Env) (cc : Controller) (lock : Lock) (present : CondSet)
    (trip : Option TripRecord) (k k' : Cavity) : Prop :=
  k'.entersUnless e .unlocking present
    (k'.cc = cc ∧ k'.prb = k.prb ∧ k'.lock = lock ∧
      ({ k with cond := { k.cond with present := present, trip := trip } } : Cavity).enters e .unlocking k' ∧
      k'.fan.segFlag = k.fan.segFlag)

/-- A cavity whose lock comes to rest at OPEN on the RELEASE ends in IDLE with CYCLE ENDED. -/
def Cavity.endsIdle (e : Env) (lastEnd : LastEnd) (present : CondSet) (k k' : Cavity) : Prop :=
  k'.entersUnless e .idle present
    (k'.cc.state = .idle ∧ k'.cc.lastEnd = lastEnd ∧
      k'.cc.events = maskAdd k.cc.events CavEvent.cycleEnded.bit ∧
      k'.cc.cycle = k.cc.cycle ∧ k'.cc.hold = k.cc.hold ∧ k'.cc.speff = 0 ∧ k'.cc.demand = 0 ∧
      k'.cc.startSeg = none ∧ k'.prb = k.prb)

/-- COOLDOWN and UNLOCKING stay as they are; CLEANING and HELD enter COOLDOWN with ABANDONED; LOCKING
enters UNLOCKING with ABANDONED and RELEASE: a LOCK drive in CLOSING turns toward open if the check
passes (or comes to rest at OPEN where the bolt stands there still) and goes on if it fails, and a retry
leg in OPENING becomes the first leg of a RELEASE drive (R109). -/
def abandonEffect (e : Env) (k k' : Cavity) : Prop :=
  let cc := k.cc.unlockingWith .abandoned
  if k.cc.state = .cleaning ∨ k.cc.state = .held then k.intoCooldown e .abandoned k'
  else if k.cc.state = .locking then
    (k.lock.state = .closing ∧ k.lock.goal = some .locked →
      if k.checkPasses e = false then k.intoUnlocking e cc k.lock k.cond.present k.cond.trip k'
      else if k.lock.standsOpen then
        k.endsIdle e .abandoned k.cond.present k' ∧ k'.lock = k.lock.resting .opened
      else k.intoUnlocking e cc (k.lock.underway e .opening .opened 1 .towardOpen) k.cond.present
        k.cond.trip k') ∧
    (k.lock.state = .opening ∧ k.lock.goal = some .locked →
      k.intoUnlocking e cc
        { k.lock.underway e .opening .opened 1 .towardOpen with motor := k.lock.motor } k.cond.present
        k.cond.trip k')
  else k' = k

/-! ## COOK SET and COOK OFF (R11, R12, R13) -/

/-- The row COOK SET of R5, the checks of R11 in order, and the setpoint held in range. -/
def cookResult (e : Env) (setpoint : Int) (elems : Nat) (k : Cavity) : Result :=
  if k.cc.state ≠ .idle ∧ k.cc.state ≠ .cooking then .wrongState
  else if elems = 0 ∨ 7 < elems then .badArgument
  else if k.prb.cavity.fault = true then .sensor
  else if setpoint < 0 ∨ (e.cfg.limits.cookCeiling : Int) < setpoint then .clamped
  else .done

/-- The setpoint as R11 holds it in range. -/
def heldSetpoint (e : Env) (setpoint : Int) : Nat :=
  if setpoint < 0 then 0 else min setpoint.toNat e.cfg.limits.cookCeiling

/-- From IDLE the cavity enters COOKING; in COOKING the setpoint and the set are replaced, and a channel
that leaves the set is shed. SPeff is the setpoint times 10 at once (R12). -/
def cookEffect (e : Env) (setpoint : Int) (elems : Nat) (k k' : Cavity) : Prop :=
  let v := heldSetpoint e setpoint
  let set : ElemSet := BitVec.ofNat 3 elems
  if k.cc.state = .cooking then
    k'.cc = { k.cc with cookSetpoint := v, cookSet := set, speff := v * 10 } ∧ k'.prb = k.prb ∧
      k'.lock = k.lock ∧ k'.fan = k.fan ∧ k'.cond = k.cond ∧ k'.starve = k.starve ∧
      (∀ p ∈ allPositions, k'.channel p =
        if k.cc.cookSet.hasPos p = true ∧ set.hasPos p = false then (k.channel p).shedFrom e.slot
        else k.channel p)
  else k'.entersUnless e .cooking k.cond.present
    (k'.cc = { k.cc with state := .cooking, cookSetpoint := v, cookSet := set, speff := v * 10,
                         startSeg := none } ∧
      k'.prb = k.prb ∧ k'.lock = k.lock ∧ k.enters e .cooking k' ∧ k'.fan.segFlag = k.fan.segFlag)

/-- The row COOK OFF of R5. -/
def offResult (k : Cavity) : Result :=
  if k.cc.state = .idle ∨ k.cc.state = .cooking then .done else .wrongState

/-- IDLE stays as it is; COOKING enters IDLE with its channels shed, and no event or end cause. -/
def offEffect (e : Env) (k k' : Cavity) : Prop :=
  if k.cc.state = .idle then k' = k
  else k'.entersUnless e .idle k.cond.present
    (k'.cc = { k.cc with state := .idle, speff := 0, demand := 0, cookSetpoint := 0, cookSet := 0,
                         startSeg := none } ∧
      k'.prb = k.prb ∧ k'.lock = k.lock ∧ k.enters e .idle k' ∧ k'.fan.segFlag = k.fan.segFlag)

/-! ## EVENTS ACK and CONDITIONS ACK (R156, R146) -/

/-- A mask with a bit that names no cavity event is a BAD ARGUMENT. -/
def eventsAckResult (mask : Byte) : Result := if 64 ≤ mask.toNat then .badArgument else .done

/-- The named events leave the cavity's events, and nothing else moves. -/
def eventsAckEffect (mask : Byte) (k k' : Cavity) : Prop :=
  k' = { k with cc := { k.cc with events := k'.cc.events } } ∧
    ∀ i : Fin 6, maskHas k'.cc.events i = (maskHas k.cc.events i && !mask.getLsbD i)

/-- A mask with a bit that names no condition is a BAD ARGUMENT. -/
def conditionsAckResult (mask : Word16) : Result := if 2048 ≤ mask.toNat then .badArgument else .done

/-- A named condition leaves the conditions seen unless it is present, and nothing else moves. -/
def conditionsAckEffect (mask : Word16) (k k' : Cavity) : Prop :=
  k' = { k with cond := { k.cond with seen := k'.cond.seen } } ∧
    ∀ c ∈ allConditions,
      k'.cond.seen.has c = (k.cond.seen.has c && (!mask.getLsbD c.bit || k.cond.present.has c))

/-! ## FAULT CLEAR (R143, R144) -/

/-- A standing trip condition is present (R143). -/
def standing (e : Env) (present : CondSet) : Bool :=
  present.has .overtemp || present.has .doorHot ||
    (present.has .doorProbe && e.page.tripEnables.testBit 3) ||
    (present.has .fanStall && e.page.tripEnables.testBit 8)

/-- The checks of R143 in order. -/
def clearResult (e : Env) (k : Cavity) : Result :=
  if k.cc.state ≠ .faulted then .wrongState
  else if k.checkPasses e = false then .tooHot
  else if standing e k.cond.present = true then .wrongState
  else .done

/-- The trip record is removed. With the lock OPEN the cavity enters IDLE with CYCLE ENDED; with the lock
LOCKED, UNKNOWN or JAMMED it enters UNLOCKING and a fresh RELEASE drive begins, which takes a JAMMED lock
and LOCK JAM away; a bolt that stands at the open end comes to rest there, and the cavity ends in IDLE.
The last end, the conditions seen and the cycle's counters are kept. -/
def clearEffect (e : Env) (k k' : Cavity) : Prop :=
  let present := if k.lock.state = .jammed then k.cond.present.del .lockJam else k.cond.present
  (k.lock.state = .opened →
    k.endsIdle e k.cc.lastEnd k.cond.present k' ∧ k'.lock = k.lock ∧
      (causesIn e.page .idle k.cond.present = [] → k'.cond.trip = none ∧ k'.cond.seen = k.cond.seen)) ∧
  (k.lock.state = .locked ∨ k.lock.state = .unknown ∨ k.lock.state = .jammed →
    if k.lock.standsOpen then
      k.endsIdle e k.cc.lastEnd present k' ∧ k'.lock = k.lock.resting .opened ∧
        (causesIn e.page .idle present = [] → k'.cond.trip = none ∧ k'.cond.seen = k.cond.seen)
    else
      k.intoUnlocking e (k.cc.unlockingWith k.cc.lastEnd)
        (k.lock.underway e .opening .opened 1 .towardOpen) present none k')

end Sys2Proof.Machine
end

