-- ==== Sys2Proof/Effects/Program.lean ====
section
/-! DEFINITION. The walk through a cleaning program as R39 to R44 describe it, pass by pass, and what a
cavity becomes when its program moves on (R37, R45 to R47, R49). -/

namespace Sys2Proof.Machine

/-! ## The resolution (R39 to R44) -/

/-- What one resolution makes of an index and a call stack after a number of passes. Each line is one row
of the rules: the seventh pass is refused before it acts; an index 64, an EMPTY record or an incomplete
timed one is an INVALID ENTRY; END finishes; a complete timed record is entered; LINK, CALL and RETURN are
passes that move on, a CALL with three return indices held is STACK FULL and a RETURN with none is STACK
EMPTY. -/
inductive Walk (g : SegStore) : Nat → Nat → List Nat → Resolution → Prop
  | beyond (n i : Nat) (st : List Nat) : 64 ≤ i → Walk g n i st (.failed .invalidEntry none st)
  | blank (n i : Nat) (st : List Nat) : i < 64 → (g.at i).kind = .empty →
      Walk g n i st (.failed .invalidEntry (some i) st)
  | incomplete (n i : Nat) (st : List Nat) : i < 64 → (g.at i).kind.timed → (g.at i).complete = false →
      Walk g n i st (.failed .invalidEntry (some i) st)
  | entry (n i : Nat) (st : List Nat) : i < 64 → (g.at i).kind.timed → (g.at i).complete = true →
      Walk g n i st (.entered i st)
  | done (n i : Nat) (st : List Nat) : i < 64 → (g.at i).kind = .finish → Walk g n i st (.finished i st)
  | tooLong (i : Nat) (st : List Nat) : i < 64 →
      ((g.at i).kind = .link ∨ (g.at i).kind = .call ∨ (g.at i).kind = .ret) →
      Walk g 6 i st (.failed .chainTooLong (some i) st)
  | link (n i : Nat) (st : List Nat) (r : Resolution) : n < 6 → i < 64 → (g.at i).kind = .link →
      Walk g (n + 1) (if (g.at i).next = 255 then i + 1 else (g.at i).next) st r → Walk g n i st r
  | call (n i : Nat) (st : List Nat) (r : Resolution) : n < 6 → i < 64 → (g.at i).kind = .call →
      st.length < 3 →
      Walk g (n + 1) (if (g.at i).next = 255 then i + 1 else (g.at i).next) (st ++ [i + 1]) r →
      Walk g n i st r
  | full (n i : Nat) (st : List Nat) : n < 6 → i < 64 → (g.at i).kind = .call → 3 ≤ st.length →
      Walk g n i st (.failed .stackFull (some i) st)
  | ret (n i j : Nat) (st : List Nat) (r : Resolution) : n < 6 → i < 64 → (g.at i).kind = .ret →
      Walk g (n + 1) j st r → Walk g n i (st ++ [j]) r
  | bare (n i : Nat) : n < 6 → i < 64 → (g.at i).kind = .ret →
      Walk g n i [] (.failed .stackEmpty (some i) [])

/-! ## Entry of a timed segment (R46, R47, R49, R66) -/

/-- The level of a record held to the clean ceiling (R35). -/
def Env.level (e : Env) (r : Segment) : Nat := min r.level e.cfg.limits.cleanCeiling

/-- The controller's record as it enters a timed segment: a RAMP fixes its direction, up where SPeff is
at or below the level. -/
def Controller.entering (e : Env) (i : Nat) (stack : List Nat) (c : Controller) : Controller :=
  let r := e.segs.at i
  { c with segIndex := some i, stack := stack, elapsed := 0, soak := 0, arrived := false,
           markHeld := false, events := maskAdd c.events 1,
           direction := if r.kind = .ramp then
               some (if c.speff ≤ e.level r * 10 then .up else .down) else none }

/-- The detector a segment arms: a RAMP its level less or plus the ramp band, a COAST its level. -/
def Env.detector (e : Env) (r : Segment) (dir : Option RampDir) : Option Detector :=
  if r.kind = .coast then some ⟨.fall, e.level r, 0⟩
  else match dir with
    | some .up => some ⟨.rise, (e.level r : Int) - e.page.rampBand, 0⟩
    | some .down => some ⟨.fall, (e.level r : Int) + e.page.rampBand, 0⟩
    | none => none

/-- The positions that a segment lets take heat (R47). -/
def Segment.heats (r : Segment) (p : Position) : Bool :=
  match p with
  | .cat => r.flags.getLsbD 1
  | .top => decide (r.kind = .ramp ∨ r.kind = .soak) && r.heatSet.getLsbD 0
  | .base => decide (r.kind = .ramp ∨ r.kind = .soak) && r.heatSet.getLsbD 1
  | .ring => decide (r.kind = .ramp ∨ r.kind = .soak) && r.heatSet.getLsbD 2

/-- The cavity enters a timed segment: the controller's record, the armed detector, the channels that may
take no heat shed, and the fan and catalyst flags followed. -/
def Cavity.entersSegment (e : Env) (i : Nat) (stack : List Nat) (k k' : Cavity) : Prop :=
  let r := e.segs.at i
  k'.cc = k.cc.entering e i stack ∧
    k'.prb = { k.prb with mark := e.detector r (k.cc.entering e i stack).direction } ∧
    k'.lock = k.lock ∧ k'.starve = k.starve ∧
    (∀ p ∈ allPositions, k'.channel p =
      if r.heats p then k.channel p else (k.channel p).shedFrom e.slot) ∧
    k'.fan.segFlag = r.flags.getLsbD 0 ∧ k'.fan.catalyst = r.flags.getLsbD 1 ∧
    k'.fan.idleLow = k.fan.idleLow ∧ k'.fan.probeView = k.fan.probeView ∧
    k'.fan.warmView = k.fan.warmView ∧ k.fan.decided k.cc.state k'.fan

/-- The program of a CLEANING cavity moves to an index (R37, R45): a timed segment is entered, END ends
the cycle with COMPLETED, and a failure is seen as PROGRAM, which trips where its enable is on and
otherwise ends the cycle with PROGRAM FAULT and its sub-cause. -/
def Cavity.movesOn (e : Env) (i : Nat) (k k' : Cavity) : Prop :=
  match resolve e.segs 6 i k.cc.stack with
  | .entered j stack => k.entersSegment e j stack k' ∧ k'.cond = k.cond
  | .finished _ _ => k.intoCooldown e .completed k'
  | .failed sub j _ =>
    if e.page.tripEnables.testBit 9 then
      k'.trippedBy e.slot [.program] ∧ k'.cond.trip.bind (·.segIndex) = j ∧ k'.cond.seen.has .program = true
    else
      ({ k with cond := { k.cond with seen := k.cond.seen.add .program } } : Cavity).intoCooldown e
        (.programFault sub) k'

/-- Entry to CLEANING from LOCKING in the event of the LOCKED report (R16): both counters 0, CYCLE BEGUN,
SPeff from the reading, and the program at the start segment. Said where no condition present trips in
CLEANING. -/
def Cavity.beginsCleaning (e : Env) (start : Nat) (k k' : Cavity) : Prop :=
  ({ k with cc := { k.cc with state := .cleaning, startSeg := none, cookSetpoint := 0, cookSet := 0,
                              cycle := 0, hold := 0, stack := [],
                              speff := e.heldReading k.prb.cavity.reading,
                              events := maskAdd k.cc.events 0 } } : Cavity).movesOn e start k'

end Sys2Proof.Machine
end

