-- ==== Sys2Proof/Effects/Samples.lean ====
section
/-! DEFINITION. The effects of the two sample commands (03_probes_and_marks.md), the recovery of a cavity
(R29) and what the controller does on a good sample (R24 to R26). -/

namespace Sys2Proof.Machine

/-! ## What a command about one cavity leaves alone -/

/-- A command about cavity `c`: no other cavity moves, nor any other block's record. -/
def State.onlyCavity (s : State) (c : CavNo) (t : State) : Prop :=
  s.partKept t ∧ t.linkIs s.link ∧ ∀ c' : CavNo, c' ≠ c → t.cav c' = s.cav c'

/-- A command that comes to nothing. -/
def State.nothingMoves (s t : State) : Prop :=
  s.partKept t ∧ t.linkIs s.link ∧ s.cavitiesKept t

/-! ## The probe (R61 to R65) -/

/-- A sample is good: in range, with the probe out of fault or in fault with two good samples counted. -/
def Probe.goodSample (lo hi v : Int) (p : Probe) : Bool :=
  decide (lo ≤ v ∧ v ≤ hi) && (!p.fault || decide (2 ≤ p.good))

/-- A sample makes the fault reported as present: the third bad sample in a row of a sound probe, or the
third sample of start-up that leaves the starting fault. -/
def Probe.faultReported (lo hi v : Int) (p : Probe) : Bool :=
  if p.fault then decide (p.taken = 2) && !p.goodSample lo hi v
  else !decide (lo ≤ v ∧ v ≤ hi) && decide (2 ≤ p.bad)

/-- The probe after a sample. -/
def Probe.after (lo hi v : Int) (p : Probe) : Probe :=
  let taken := min 3 (p.taken + 1)
  if p.fault then
    if lo ≤ v ∧ v ≤ hi then
      if 2 ≤ p.good then { reading := v, fault := false, bad := 0, good := 0, taken := taken }
      else { p with good := p.good + 1, taken := taken }
    else { p with good := 0, taken := taken }
  else if lo ≤ v ∧ v ≤ hi then { p with reading := v, bad := 0, taken := taken }
  else if 2 ≤ p.bad then { p with fault := true, bad := 0, good := 0, taken := taken }
  else { p with bad := p.bad + 1, taken := taken }

/-- A cavity sample at the probe interface: the probe, and overtemperature on a good sample (R71). -/
def Cavity.cavitySampled (e : Env) (v : Int) (k k' : Cavity) : Prop :=
  k'.prb.cavity = k.prb.cavity.after (-400) 6000 v ∧ k'.prb.door = k.prb.door ∧
    k'.prb.doorWarm = k.prb.doorWarm ∧ k'.prb.doorHot = k.prb.doorHot ∧
    k'.prb.overtemp =
      (if k.prb.cavity.goodSample (-400) 6000 v then
        decide ((e.cfg.limits.cleanCeiling : Int) + e.cfg.limits.overtempMargin < v)
       else k.prb.overtemp)

/-- A door sample at the probe interface: the probe, and on a good sample door hot (R70) and door warm
with its hysteresis (R69). -/
def Cavity.doorSampled (e : Env) (v : Int) (k k' : Cavity) : Prop :=
  k'.prb.door = k.prb.door.after (-400) 2500 v ∧ k'.prb.cavity = k.prb.cavity ∧
    k'.prb.overtemp = k.prb.overtemp ∧
    (if k.prb.door.goodSample (-400) 2500 v then
      k'.prb.doorHot = decide ((e.cfg.limits.doorTrip : Int) ≤ v) ∧
      k'.prb.doorWarm = (if k.prb.doorWarm then decide ((e.cfg.limits.doorWarn : Int) - 50 ≤ v)
                         else decide ((e.cfg.limits.doorWarn : Int) ≤ v))
     else k'.prb.doorHot = k.prb.doorHot ∧ k'.prb.doorWarm = k.prb.doorWarm)

/-! ## Onsets that trip (R62, R70, R71, R136, R137) -/

/-- The condition that a cavity sample raises: SENSOR with a reported fault, OVERTEMP where a good sample
rises above the clean ceiling and its margin. -/
def Cavity.raisedByCavity (e : Env) (v : Int) (k : Cavity) : Option Condition :=
  if k.prb.cavity.faultReported (-400) 6000 v then some .sensor
  else if k.prb.cavity.goodSample (-400) 6000 v = true ∧ k.prb.overtemp = false ∧
      (e.cfg.limits.cleanCeiling : Int) + e.cfg.limits.overtempMargin < v then some .overtemp
  else none

/-- The condition that a door sample raises and that can trip: DOOR PROBE or DOOR HOT. -/
def Cavity.raisedByDoor (e : Env) (v : Int) (k : Cavity) : Option Condition :=
  if k.prb.door.faultReported (-400) 2500 v then some .doorProbe
  else if k.prb.door.goodSample (-400) 2500 v = true ∧ k.prb.doorHot = false ∧
      (e.cfg.limits.doorTrip : Int) ≤ v then some .doorHot
  else none

/-- A condition raised in an event: present and seen, and the cavity tripped by it where the table of
R136 gives a trip for its state. -/
def Cavity.raised (e : Env) (cond : Condition) (k k' : Cavity) : Prop :=
  k'.cond.present.has cond = true ∧ k'.cond.seen.has cond = true ∧
    (tripsIn e.page k.cc.state cond = true → k'.trippedBy e.slot [cond] ∧
      ∀ x ∈ k'.cond.trip, x.stateBefore = k.cc.state)

/-! ## The mark detector (R57, R67, R68) -/

/-- A cavity whose detector confirms a mark: the event of its direction, mark held and the detector
disarmed; an arrived RAMP or a COAST in CLEANING moves on to what its next field names. -/
def Cavity.confirms (e : Env) (d : Detector) (k k' : Cavity) : Prop :=
  let held : Cavity := { k with
    cc := { k.cc with markHeld := true,
                      events := maskAdd k.cc.events (if d.dir = .rise then 2 else 3) }
    prb := { k.prb with mark := none } }
  match k.cc.segIndex with
  | none => k' = held
  | some i =>
    let r := e.segs.at i
    if k.cc.state = .cleaning ∧ ((r.kind = .ramp ∧ k.cc.arrived = true) ∨ r.kind = .coast) then
      held.movesOn e (if r.next = 255 then i + 1 else r.next) k'
    else k' = held

/-- The fan drive with a probe fault view: the command decided afresh from it (R125), and the tach timer as
that change of command moves it (R128, R129). -/
def Fan.viewing (st : CavState) (fault : Bool) (f : Fan) : Fan :=
  let cmd := fanPolicy st fault f.warmView f.segFlag f.idleLow
  let g : Fan := { f with probeView := fault, command := cmd }
  if cmd = f.command then g
  else if cmd = .off then { g with tach := .stopped, tachLeft := 0, stall := false }
  else if f.command = .off then { g with tach := .settling, tachLeft := 2000 }
  else g

/-- A cavity after stages 1 and 2 of a good sample that is not above the OVERTEMP level (R63, R64, R71): its
probe moved and out of fault, SENSOR and OVERTEMP absent, and the fan drive told that a fault has ended,
which ends FAN STALL where it takes the fan OFF. -/
def Cavity.heard (v : Int) (k : Cavity) : Cavity :=
  let fan := if k.prb.cavity.fault then k.fan.viewing k.cc.state false else k.fan
  let sound := if k.prb.cavity.fault then k.cond.present.del .sensor else k.cond.present
  let turning := if k.fan.stall = true ∧ fan.stall = false then sound.del .fanStall else sound
  { k with
    prb := { k.prb with cavity := k.prb.cavity.after (-400) 6000 v, overtemp := false }
    fan := fan
    cond := { k.cond with present := if k.prb.overtemp then turning.del .overtemp else turning } }

/-- An armed detector takes a good sample: the near side empties its count, the far side adds to it, and
the mark is confirmed at the mark count in force. -/
def Cavity.markCounts (e : Env) (v : Int) (d : Detector) (k k' : Cavity) : Prop :=
  let far : Bool := if d.dir = .rise then decide (d.level ≤ v) else decide (v < d.level)
  let k1 := k.heard v
  if far = false then k' = { k1 with prb := { k1.prb with mark := some { d with count := 0 } } }
  else if d.count + 1 < e.cfg.part.markCount then
    k' = { k1 with prb := { k1.prb with mark := some { d with count := d.count + 1 } } }
  else k1.confirms e d k'

/-- An armed detector takes a sample that is not good: its far-side count is emptied, and nothing but the
probe moves besides; where the sample begins a probe fault, SENSOR trips the cavity and the program is
cleared with its detector. -/
def Cavity.markPutBack (e : Env) (v : Int) (d : Detector) (k k' : Cavity) : Prop :=
  if k.prb.cavity.faultReported (-400) 6000 v then
    k'.trippedBy e.slot [.sensor] ∧ k'.prb.mark = none
  else k' = { k with prb := { k.prb with cavity := k.prb.cavity.after (-400) 6000 v
                                         mark := some { d with count := 0 } } }

/-- A good cavity sample that neither raises OVERTEMP nor stops a motor that runs open. It may end a probe
fault or an overtemperature. -/
@[reducible] def State.quietSample (s : State) (c : CavNo) (v : Int) : Prop :=
  let k := s.cav c
  s.fitted c = true ∧ k.prb.cavity.goodSample (-400) 6000 v = true ∧
    v ≤ (s.cfg.limits.cleanCeiling : Int) + s.cfg.limits.overtempMargin ∧ k.cc.recovering = false ∧
    (k.lock.motor = .towardOpen → v < s.cfg.limits.unlockLevel)

/-! ## Good samples at the controller (R24 to R26) -/

/-- A RELEASE sent at a good sample below the unlock level, the check passing: the first leg of a drive
toward open from attempt 1, or rest at OPEN where the bolt stands there. -/
def Lock.released (e : Env) (l : Lock) : Lock :=
  if l.openSw = true ∧ l.lockedSw = false then l.resting .opened
  else l.underway e .opening .opened 1 .towardOpen

/-- What a good sample brings in COOLDOWN, UNLOCKING and IDLE with no detector armed; `k` is the cavity
with its probe as the sample leaves it. -/
def Cavity.goodSampleTaken (e : Env) (v : Int) (k k' : Cavity) : Prop :=
  let halted : Prop := k.lock.state = .locked ∨ k.lock.state = .unknown
  if (e.cfg.limits.unlockLevel : Int) ≤ v then k' = k
  else if k.cc.state = .cooldown then
    if k.lock.state = .opened then k.endsIdle e k.cc.lastEnd k.cond.present k' ∧ k'.lock = k.lock
    else if halted then
      if k.lock.standsOpen then
        k.endsIdle e k.cc.lastEnd k.cond.present k' ∧ k'.lock = k.lock.resting .opened
      else k.intoUnlocking e (k.cc.unlockingWith k.cc.lastEnd) (k.lock.released e) k.cond.present
        k.cond.trip k'
    else k' = k
  else if k.cc.state = .unlocking ∧ halted ∧ k.lock.standsOpen then
    k.endsIdle e k.cc.lastEnd k.cond.present k' ∧ k'.lock = k.lock.resting .opened
  else if halted then k' = { k with lock := k.lock.released e }
  else k' = k

/-- A good sample with a detector armed: the detector first, and a cavity that it leaves in COOLDOWN takes
the good sample there in the same event (R64). -/
def Cavity.markThenSample (e : Env) (v : Int) (d : Detector) (k k' : Cavity) : Prop :=
  ∃ m : Cavity, k.markCounts e v d m ∧
    if m.cc.state = .cooldown then m.goodSampleTaken e v k' else k' = m

/-! ## Recovery (R29) -/

/-- Recovery in the third sample of a cavity that stands IDLE with no condition present: OPEN stays IDLE
with the idle speed from the reading (R131), a lock not OPEN goes to UNLOCKING with RELEASE where the
check passes and to COOLDOWN where it fails, both with RECOVERED. -/
def Cavity.recovers (e : Env) (v : Int) (k k' : Cavity) : Prop :=
  let good := k.prb.cavity.goodSample (-400) 6000 v
  let reading := (k.prb.cavity.after (-400) 6000 v).reading
  k'.cc.recovering = false ∧
    (if k.lock.state = .opened then
      k'.cc = { k.cc with recovering := false } ∧ k'.lock = k.lock ∧
        k'.fan.idleLow = decide ((e.page.fanOff : Int) ≤ reading)
    else if good = true ∧ v < e.cfg.limits.unlockLevel then
      k'.cc.lastEnd = .recovered ∧ k'.lock = k.lock.released e ∧
        k'.cc.state = (if k.lock.standsOpen then .idle else .unlocking)
    else k'.cc.lastEnd = .recovered ∧ k'.lock = k.lock ∧ k'.cc.state = .cooldown ∧
      k'.fan.command = .high)

end Sys2Proof.Machine
end

