-- ==== Sys2Proof/Effects/Events.lean ====
section
/-! DEFINITION. The effects of the lock, door, timeout, fan and link events (05_door_lock.md,
06_cooling_fans_and_catalyst.md, 08_the_link.md). -/

namespace Sys2Proof.Machine

/-! ## RELEASE from rest, and what the controller does on a report (R14 to R18, R25, R109) -/

/-- RELEASE taken with the lock at rest in LOCKED, UNKNOWN or JAMMED: at rest at OPEN where the bolt stands
there, which needs no check (R105, R118; log entry 13), and otherwise a drive toward open begun, or refused
by the check. -/
def Cavity.releasedLock (e : Env) (k : Cavity) : Lock :=
  if k.lock.standsOpen ∨ k.checkPasses e = true then k.lock.released e else k.lock

/-- The controller sends RELEASE in UNLOCKING: a bolt that stands at the open end ends the cycle. -/
def Cavity.releasesAgain (e : Env) (k k' : Cavity) : Prop :=
  if k.lock.standsOpen then
    k.endsIdle e k.cc.lastEnd k.cond.present k' ∧ k'.lock = k.lock.resting .opened
  else k' = { k with lock := k.releasedLock e }

/-- A start fails into UNLOCKING with its sub-cause, and the controller sends RELEASE there; a bolt that
stands at the open end ends the cycle. -/
def Cavity.startFails (e : Env) (why : StartFault) (k k' : Cavity) : Prop :=
  if k.lock.standsOpen then
    k.endsIdle e (.startFailed why) k.cond.present k' ∧ k'.lock = k.lock.resting .opened
  else k.intoUnlocking e (k.cc.unlockingWith (.startFailed why)) (k.releasedLock e) k.cond.present
    k.cond.trip k'

/-- The controller takes a report of UNKNOWN; `k` has its lock at rest in UNKNOWN already. -/
def Cavity.hearsUnknown (e : Env) (k k' : Cavity) : Prop :=
  if k.cc.state = .locking then k.startFails e .lockJam k'
  else if k.cc.state = .unlocking then k.releasesAgain e k'
  else k' = k

/-- The controller takes a report of LOCKED. In LOCKING the cavity begins to clean, where no condition
present trips in CLEANING. -/
def Cavity.hearsLocked (e : Env) (k k' : Cavity) : Prop :=
  if k.cc.state = .locking then
    causesIn e.page .cleaning k.cond.present = [] → ∀ i ∈ k.cc.startSeg, k.beginsCleaning e i k'
  else if k.cc.state = .unlocking then k.releasesAgain e k'
  else k' = k

/-- The controller takes a report of OPEN. -/
def Cavity.hearsOpen (e : Env) (k k' : Cavity) : Prop :=
  if k.cc.state = .unlocking then k.endsIdle e k.cc.lastEnd k.cond.present k' ∧ k'.lock = k.lock
  else k' = k

/-- The controller takes a report of LOCK REFUSED at the open end. -/
def Cavity.hearsRefused (e : Env) (k k' : Cavity) : Prop :=
  if k.cc.state = .locking then
    k.endsIdle e (.startFailed .doorOpen) k.cond.present k' ∧ k'.lock = k.lock
  else k.hearsOpen e k'

/-- A cavity sample stops a motor that runs toward open (R64 stage 3, R106): the lock is at rest in UNKNOWN.
A probe fault that begins makes SENSOR present first, which trips the cavity where the table says so; where
it does not, and where a good sample at or above the unlock level stops the motor, the controller hears the
lock's report. A bolt that stands at the open end, the motor running all the same, comes to rest at OPEN on
a RELEASE that the report brings (log entry 13). A sample that raises OVERTEMP trips besides
(SampleOnsetsTripTheCavity). -/
def Cavity.openMotorStopped (e : Env) (v : Int) (k k' : Cavity) : Prop :=
  (¬ k.lock.standsOpen → k'.lock = k.lock.resting .unknown) ∧
    if k.prb.cavity.faultReported (-400) 6000 v then
      if tripsIn e.page k.cc.state .sensor then
        k'.trippedBy e.slot [.sensor] ∧ k'.lock = k.lock.resting .unknown
      else ({ k with
        prb := { k.prb with cavity := k.prb.cavity.after (-400) 6000 v }
        fan := k.fan.viewing k.cc.state true
        cond := { k.cond with present := k.cond.present.add .sensor, seen := k.cond.seen.add .sensor }
        lock := k.lock.resting .unknown } : Cavity).hearsUnknown e k'
    else v ≤ (e.cfg.limits.cleanCeiling : Int) + e.cfg.limits.overtempMargin →
      ({ k.heard v with lock := k.lock.resting .unknown } : Cavity).hearsUnknown e k'

/-- A later cause joins the trip record of a FAULTED cavity (R142). -/
def Cavity.laterCause (c : Condition) (k k' : Cavity) : Prop :=
  k' = { k with cond := { k.cond with trip := k.cond.trip.map fun x => { x with later := x.later.add c } } }

/-- A momentary condition from the lock: seen, a later cause in FAULTED, a trip where the table gives
one, and otherwise what the controller does. -/
def Cavity.momentaryTaken (e : Env) (c : Condition) (rest : Cavity → Cavity → Prop)
    (k k' : Cavity) : Prop :=
  let seen : Cavity := { k with cond := { k.cond with seen := k.cond.seen.add c } }
  if k.cc.state = .faulted then seen.laterCause c k'
  else if tripsIn e.page k.cc.state c then k'.trippedBy e.slot [c] ∧ k'.lock = k.lock ∧ k'.cond.seen = seen.cond.seen
  else rest seen k'

/-- The lock has jammed (R17, R119, R136): LOCK JAM present and seen; a later cause in FAULTED, a trip
where the table gives one; in LOCKING with the enable off the start fails, its RELEASE taking LOCK JAM
away where the check passes or the bolt stands at the open end, and leaving it to trip the cavity in
UNLOCKING where the check fails. -/
def Cavity.jams (e : Env) (k k' : Cavity) : Prop :=
  let jammed : Cavity := { k with
    lock := k.lock.resting .jammed
    cond := { k.cond with present := k.cond.present.add .lockJam, seen := k.cond.seen.add .lockJam } }
  if k.cc.state = .faulted then jammed.laterCause .lockJam k'
  else if tripsIn e.page k.cc.state .lockJam then k'.trippedBy e.slot [.lockJam] ∧ k'.lock = jammed.lock
  else if k.cc.state = .locking then
    if k.lock.standsOpen ∨ k.checkPasses e = true then
      ({ jammed with cond := { jammed.cond with present := k.cond.present.del .lockJam } } : Cavity).startFails
        e .lockJam k'
    else jammed.startFails e .lockJam k'
  else k' = jammed

/-! ## LOCK SWITCH CHANGE (R102, R111, R116, R117) -/

/-- The end of a leg at its switch: LOCKED, OPEN, or a turning point. -/
def Cavity.legEnds (e : Env) (k k' : Cavity) : Prop :=
  let l := k.lock
  if l.state = .closing then
    if l.goal = some .opened then
      if k.checkPasses e then k' = { k with lock := l.underway e .opening .opened 2 .towardOpen }
      else k.jams e k'
    else ({ k with lock := l.resting .locked } : Cavity).hearsLocked e k'
  else
    if l.goal = some .locked then
      if l.doorClosed then k' = { k with lock := l.underway e .closing .locked 2 .towardClosed }
      else ({ k with lock := l.resting .opened } : Cavity).hearsRefused e k'
    else ({ k with lock := l.resting .opened } : Cavity).hearsOpen e k'

/-- A change of an end switch of a fitted cavity's lock. -/
def Cavity.switchTaken (e : Env) (sw : EndSwitch) (active : Bool) (k k' : Cavity) : Prop :=
  let l : Lock := match sw with
    | .locked => { k.lock with lockedSw := active }
    | .opened => { k.lock with openSw := active }
  let recorded : Cavity := { k with lock := l }
  let unknown : Cavity := { k with lock := l.resting .unknown }
  if l = k.lock then k' = k
  else if l.lockedSw = true ∧ l.openSw = true then
    if l.state = .unknown ∨ l.state = .jammed then k' = recorded
    else if l.state = .locked then unknown.momentaryTaken e .lockLost (Cavity.hearsUnknown e) k'
    else unknown.hearsUnknown e k'
  else if active = true ∧ ((l.state = .closing ∧ sw = .locked) ∨ (l.state = .opening ∧ sw = .opened)) then
    recorded.legEnds e k'
  else if active = false ∧ l.state = .locked ∧ sw = .locked then
    unknown.momentaryTaken e .lockLost (Cavity.hearsUnknown e) k'
  else if active = false ∧ l.state = .opened ∧ sw = .opened then unknown.hearsUnknown e k'
  else k' = recorded

/-- A change of an end switch of an unfitted cavity's lock: the lock follows its switches, at rest and
without a report (R123). -/
def Cavity.switchFollowed (sw : EndSwitch) (active : Bool) (k : Cavity) : Cavity :=
  let lockedSw := if sw = .locked then active else k.lock.lockedSw
  let openSw := if sw = .opened then active else k.lock.openSw
  { k with lock := { k.lock with lockedSw := lockedSw, openSw := openSw, state := lockStateOf lockedSw openSw,
                                 goal := none, attempt := 1, motor := .stop, timer := ⟨.stopped, 0⟩ } }

/-! ## DOOR SWITCH CHANGE (R114, R115) -/

/-- A change of the door switch of a fitted cavity. Opening in CLOSING, the drive turns toward open with
its attempt, or jams; in LOCKING the start then fails with DOOR OPEN (R18). Opening in LOCKED is DOOR
FORCED. Every other change is recorded. A bolt that stands at the open end still comes to rest there
(log entry 14). -/
def Cavity.doorTaken (e : Env) (closed : Bool) (k k' : Cavity) : Prop :=
  let recorded : Cavity := { k with lock := { k.lock with doorClosed := closed } }
  let l := recorded.lock
  if k.lock.doorClosed = closed ∨ closed = true then k' = recorded
  else if l.state = .locked then recorded.momentaryTaken e .doorForced (fun seen k' => k' = seen) k'
  else if l.state = .closing then
    if k.checkPasses e then
      let turned := if l.standsOpen then l.resting .opened
        else l.underway e .opening .opened l.attempt .towardOpen
      if k.cc.state = .locking then
        k.intoUnlocking e (k.cc.unlockingWith (.startFailed .doorOpen)) turned k.cond.present k.cond.trip k'
      else if k.cc.state = .unlocking ∧ l.standsOpen then
        k.endsIdle e k.cc.lastEnd k.cond.present k' ∧ k'.lock = turned
      else k' = { k with lock := turned }
    else recorded.jams e k'
  else k' = recorded

/-! ## TRAVEL TIMEOUT (R112, R113) -/

/-- The travel timer of a fitted cavity's running drive expires. The first leg's timeout begins the retry
leg, which turns at once where its end switch is active already; any other timeout jams the lock. -/
def Cavity.timedOut (e : Env) (k k' : Cavity) : Prop :=
  let l := k.lock
  if l.timer.status ≠ .running ∨ (l.state ≠ .closing ∧ l.state ≠ .opening) then k' = k
  else if l.attempt ≠ 1 then k.jams e k'
  else if l.goal = some .opened then
    if l.doorClosed = false then k.jams e k'
    else if l.standsLocked then
      if k.checkPasses e then k' = { k with lock := l.underway e .opening .opened 2 .towardOpen }
      else k.jams e k'
    else k' = { k with lock := l.underway e .closing .opened 2 .towardClosed }
  else if k.checkPasses e = false then k.jams e k'
  else if l.standsOpen then
    if l.doorClosed then k' = { k with lock := l.underway e .closing .locked 2 .towardClosed }
    else ({ k with lock := l.resting .opened } : Cavity).hearsRefused e k'
  else k' = { k with lock := l.underway e .opening .locked 2 .towardOpen }

/-! ## Fans (R126, R128, R129) -/

/-- The level review of one cavity: in IDLE with no probe fault the idle speed follows the reading with
its hysteresis, and the fan with it. -/
def Cavity.reviewed (e : Env) (k k' : Cavity) : Prop :=
  k'.cc = k.cc ∧ k'.prb = k.prb ∧ k'.lock = k.lock ∧ k'.starve = k.starve ∧
    (∀ p ∈ allPositions, k'.channel p = k.channel p) ∧ k'.fan.segFlag = k.fan.segFlag ∧
    k'.fan.catalyst = k.fan.catalyst ∧ k'.fan.probeView = k.fan.probeView ∧
    k'.fan.warmView = k.fan.warmView ∧
    (if k.cc.state = .idle ∧ k.fan.probeView = false then
      k'.fan.idleLow = (if (e.page.fanOn : Int) ≤ k.prb.cavity.reading then true
        else if k.prb.cavity.reading < e.page.fanOff then false else k.fan.idleLow) ∧
      k.fan.decided .idle k'.fan ∧
      k'.cond = { k.cond with present :=
        if k.fan.stall = true ∧ k'.fan.stall = false then k.cond.present.del .fanStall
        else k.cond.present }
    else k'.fan = k.fan ∧ k'.cond = k.cond)

/-- A tach pulse: in WATCHING it is seen and ends a stall; in the other states it is ignored. -/
def Cavity.pulsed (k k' : Cavity) : Prop :=
  k' = if k.fan.tach = .watching then
      { k with fan := { k.fan with pulseSeen := true, stall := false },
               cond := { k.cond with present :=
                 if k.fan.stall then k.cond.present.del .fanStall else k.cond.present } }
    else k

/-- The tach timer expires: SETTLING becomes WATCHING; a WATCHING interval without a pulse makes FAN STALL
present, which trips where its enable is on, and the next interval begins either way. -/
def Cavity.tachExpired (e : Env) (k k' : Cavity) : Prop :=
  if k.fan.tach = .stopped then k' = k
  else if k.fan.tach = .settling then
    k' = { k with fan := { k.fan with tach := .watching, tachLeft := 2000, pulseSeen := false } }
  else
    let next : Fan := { k.fan with tachLeft := 2000, pulseSeen := false }
    if k.fan.pulseSeen = true ∨ k.fan.stall = true then k' = { k with fan := next }
    else
      let stalled : Cavity := { k with
        fan := { next with stall := true }
        cond := { k.cond with present := k.cond.present.add .fanStall,
                              seen := k.cond.seen.add .fanStall } }
      if k.cc.state = .faulted then
        if e.page.tripEnables.testBit 8 then stalled.laterCause .fanStall k' else k' = stalled
      else if e.page.tripEnables.testBit 8 then
        k'.trippedBy e.slot [.fanStall] ∧ k'.cond.seen = stalled.cond.seen
      else k' = stalled

/-! ## Bytes on RXD (R149, R150) -/

/-- A byte at the receiver that does not complete a frame: lost while it is CLOSED; in HUNTING only SYNC
begins a frame; in ASSEMBLING it is summed and counted, and stored as a header byte or as one of the
first 48 payload bytes. -/
def Link.byteTaken (b : Byte) (l l' : Link) : Prop :=
  match l.rx with
  | .closed => l' = l
  | .hunting =>
    l' = if b = 0xC5 then { l with rx := .assembling, assembly := [], count := 0, sum := 0,
                                   gap := ⟨.running, 20⟩ } else l
  | .assembling =>
    l' = { l with count := l.count + 1, sum := l.sum + b, gap := ⟨.running, 20⟩,
                  assembly := if l.count < 4 ∨ l.count < 4 + min 48 (at8 l.assembly 3).toNat
                    then l.assembly ++ [b] else l.assembly }

/-- The byte that comes next completes the frame: the byte whose count is LEN + 5. -/
def Link.completes (l : Link) : Prop :=
  l.rx = .assembling ∧ 4 ≤ l.count ∧ l.count = (at8 l.assembly 3).toNat + 4

/-- The bytes of a request frame for a part: SYNC, HEAD with the unit, class, reply bit 0 and tag, SEL,
CODE, LEN, the payload, and the SUM that makes the sum 0 (8.6, Frame). -/
def ReqKind.frame (q : ReqKind) (unit : BitVec 2) (r : Request) : List Byte :=
  let head : Byte := r.tag ++ (0#1) ++ q.cls ++ unit
  let body := [head, r.sel, q.code, BitVec.ofNat 8 r.payload.length] ++ r.payload
  [0xC5] ++ body ++ [0 - body.foldl (· + ·) 0]

/-- The command that carries a request. -/
def ReqKind.command : ReqKind → Request → Instr
  | .cleanStart => .cleanStart
  | .cleanHold => .cleanHold
  | .cleanResume => .cleanResume
  | .cleanAbandon => .cleanAbandon
  | .cookSet => .cookSet
  | .cookOff => .cookOff
  | .eventsAck => .eventsAck
  | .conditionsAck => .conditionsAck
  | .faultClear => .faultClear
  | .budgetLend => .budgetLend
  | .partEventsAck => .partEventsAck
  | .restart => .restart
  | .cavityStatus => .cavityStatus
  | .tripRecord => .tripRecord
  | .windowStatus => .windowStatus
  | .partStatus => .partStatus
  | .settingRead => .settingRead
  | .settingWrite => .settingWrite
  | .storeStage => .storeStage
  | .storeDiscard => .storeDiscard
  | .storeBurn => .storeBurn
  | .storeRead => .storeRead

/-- The link's record as the byte that completes a frame leaves it: the byte stored, counted and summed,
the gap timer stopped, the receiver back in HUNTING (R150). -/
def Link.completed (b : Byte) (l : Link) : Link :=
  { l with assembly := l.assembly ++ [b], count := l.count + 1, sum := l.sum + b, rx := .hunting,
           gap := ⟨.stopped, 0⟩ }

/-- Only the link's record moves. -/
def State.onlyLink (s : State) (l : Link) (t : State) : Prop :=
  s.partKept t ∧ s.cavitiesKept t ∧ t.linkIs l

/-- A complete frame is judged in the order of R151: a sum that is not 0 is BAD SUM, another unit's frame
and a reply are discarded without a flag, a frame that completes while a reply is sent is OVERRUN. A frame
that passes is accepted: a code that its class does not know is answered UNKNOWN CODE, a LEN above 48 is
answered BAD SELECT or BAD LENGTH, and every other frame is the request's own command, taken whole with
the receiver in HUNTING (R152). -/
def State.frameJudged (s : State) (b : Byte) (t : State) : Prop :=
  let l := s.link.completed b
  let head := at8 l.assembly 0
  let code := at8 l.assembly 2
  let len := (at8 l.assembly 3).toNat
  let r : Request := ⟨head.extractLsb' 5 3, at8 l.assembly 1, (l.assembly.drop 4).take len⟩
  if l.sum ≠ 0 then s.onlyLink { l with partEvents := maskAdd l.partEvents 5 } t
  else if head.extractLsb' 0 2 ≠ l.unit ∨ head.getLsbD 4 = true then s.onlyLink l t
  else if l.sending then s.onlyLink { l with partEvents := maskAdd l.partEvents 6 } t
  else if ∀ q ∈ allKinds, ¬ (q.cls = head.extractLsb' 2 2 ∧ q.code = code) then
    let newHead : Byte := head ||| 0x10
    let body := [newHead, r.sel, code, 1, Result.unknownCode.code]
    s.onlyLink { l with reply := [0xC5] ++ body ++ [0 - body.foldl (· + ·) 0], tag := r.tag,
                        sending := true } t
  else ∃ q : ReqKind, q.cls = head.extractLsb' 2 2 ∧ q.code = code ∧
    if len ≤ 48 then exec (q.command r) { s with link := l } = .next t
    else s.onlyLink (l.answered q r
      [(if q.answerTo { r with payload := [] } = some .badSelect then Result.badSelect
        else Result.badLength).code]) t

/-- The state after a run of bytes on RXD, taken one by one. -/
def State.afterBytes (s : State) : List Byte → State
  | [] => s
  | b :: rest =>
    match exec (.receivedByte b) s with
    | .next t => t.afterBytes rest
    | _ => s

/-! ## A millisecond with no command waiting (log entry 4) -/

/-- One millisecond of a timer: a running one has one less to go. -/
def Timer.oneMs (x : Timer) : Timer := ⟨x.status, if x.status = .running then x.left - 1 else x.left⟩

/-- A timer has run out. -/
def Timer.ranOut (x : Timer) : Prop := x.status = .running ∧ x.left = 0

/-- The link opens next: it is closed, the first return of mains has started the first window, and every
fitted cavity has recovered and has three samples of each of its probes (R149, R29, R65). -/
@[reducible] def State.mayOpenLink (s : State) : Prop :=
  s.link.rx = .closed ∧ s.mains.firstReturn = false ∧ ∀ c : CavNo, s.fitted c = true →
    (s.cav c).cc.recovering = false ∧ 3 ≤ (s.cav c).prb.cavity.taken ∧ 3 ≤ (s.cav c).prb.door.taken

/-- The commands whose time has come in a state. -/
def State.timeFor (t : State) : Instr → Prop
  | .dropout => t.mains.crossing.ranOut
  | .frameCut => t.link.gap.ranOut
  | .windowStart => t.sched.timer.ranOut ∧ t.sched.slot = some 29
  | .slotBoundary => t.sched.timer.ranOut ∧ t.sched.slot ≠ some 29
  | .travelTimeout c => (t.cav c).lock.timer.ranOut
  | .tachTimerExpiry c => (t.cav c).fan.tach ≠ .stopped ∧ (t.cav c).fan.tachLeft = 0
  | .levelReview => t.review.ranOut
  | .linkOpen => t.mayOpenLink
  | _ => False

/-- A millisecond passes: every running timer has one less to go, a return run has lasted one more,
nothing else moves, and exactly the commands whose time has come wait, each once. -/
def State.idled (s t : State) : Prop :=
  t.cfg = s.cfg ∧ t.bounds = s.bounds ∧ t.segs = s.segs ∧ t.store = s.store ∧
    t.link = { s.link with gap := s.link.gap.oneMs } ∧
    t.mains = { s.mains with crossing := s.mains.crossing.oneMs, run := s.mains.run.map (· + 1) } ∧
    t.sched = { s.sched with timer := s.sched.timer.oneMs } ∧ t.review = s.review.oneMs ∧
    (∀ c : CavNo, t.cav c =
      { s.cav c with
        lock := { (s.cav c).lock with timer := (s.cav c).lock.timer.oneMs }
        fan := { (s.cav c).fan with tachLeft :=
          if (s.cav c).fan.tach = .stopped then (s.cav c).fan.tachLeft
          else (s.cav c).fan.tachLeft - 1 } }) ∧
    t.pending.Nodup ∧ ∀ i : Instr, i ∈ t.pending ↔ t.timeFor i

end Sys2Proof.Machine
end

