-- ==== Sys2Proof/Effects/Looks.lean ====
section
/-! DEFINITION. The effects of the looks and of the part-wide orders: the bytes of their replies by the
layouts of 08_the_link.md section 8.6, and what they change. -/

namespace Sys2Proof.Machine

/-! ## Replies byte by byte -/

/-- The payload of the reply that stands in the reply buffer: all but the five bytes before it and the
SUM (8.6, Frame). -/
def Link.payloadSent (l : Link) : List Byte := (l.reply.drop 5).dropLast

/-- The reply buffer holds a well-formed reply to the request, of the given payload length, and the
transmitter is SENDING. -/
def State.repliedWith (s : State) (q : ReqKind) (r : Request) (n : Nat) (t : State) : Prop :=
  t.linkIs (s.link.answered q r t.link.payloadSent) ∧ t.link.payloadSent.length = n

/-- Byte `i` and word `i` of a payload carry a natural number. -/
def carries8 (bs : List Byte) (i v : Nat) : Prop := at8 bs i = BitVec.ofNat 8 v
def carries16 (bs : List Byte) (i v : Nat) : Prop := at16 bs i = BitVec.ofNat 16 v

/-- Word `i` of a payload carries a signed temperature in tenths of a degree. -/
def carriesTemp (bs : List Byte) (i : Nat) (v : Int) : Prop := at16 bs i = BitVec.ofInt 16 v

/-! ## CAVITY STATUS (R153, R155) -/

/-- The 26 bytes of a CAVITY STATUS group, field by field. -/
def Cavity.reportedIn (k : Cavity) (g : List Byte) : Prop :=
  g.length = 26 ∧ at8 g 0 = k.cc.state.code ∧ at8 g 1 = k.lock.state.code ∧
    ((at8 g 2).getLsbD 0 = k.lock.doorClosed ∧ (at8 g 2).getLsbD 1 = k.prb.cavity.fault ∧
      (at8 g 2).getLsbD 2 = k.prb.door.fault ∧ (at8 g 2).getLsbD 3 = k.prb.doorWarm ∧
      (at8 g 2).toNat < 16) ∧
    carriesTemp g 3 k.prb.cavity.reading ∧ carriesTemp g 5 k.prb.door.reading ∧
    carries16 g 7 (k.cc.speff / 10) ∧ carries8 g 9 (k.cc.segIndex.getD 255) ∧
    carries8 g 10 k.cc.stack.length ∧ carries16 g 11 k.cc.elapsed ∧ carries16 g 13 k.cc.soak ∧
    carries16 g 15 k.cc.cycle ∧ carries8 g 17 k.cc.hold ∧ carries8 g 18 k.cc.demand ∧
    at8 g 19 = k.fan.command.code ∧ at8 g 20 = k.cc.lastEnd.code ∧ carries8 g 21 k.cc.events.toNat ∧
    carries16 g 22 k.cond.present.toNat ∧ carries16 g 24 k.cond.seen.toNat

/-- The events a look has reported are gone under READ CLEARS (R155). -/
def Cavity.eventsRead (clears : Bool) (k k' : Cavity) : Prop :=
  k' = if clears then { k with cc := { k.cc with events := 0 } } else k

/-- CAVITY STATUS: DONE for each selected cavity, then a group for each in the same order; the events
reported are removed under READ CLEARS, and nothing else moves. -/
def State.cavityStatusTaken (s : State) (r : Request) (t : State) : Prop :=
  let cs := selected r.sel
  let n := cs.length
  let p := t.link.payloadSent
  s.partKept t ∧ s.repliedWith .cavityStatus r (27 * n) t ∧
    (∀ c ∈ cs, at8 p (cs.filter (· < c)).length = 0 ∧
      (s.cav c).reportedIn ((p.drop (n + 26 * (cs.filter (· < c)).length)).take 26)) ∧
    ∀ c : CavNo, (s.cav c).eventsRead (decide (c ∈ cs ∧ s.cfg.part.clearMode = 0)) (t.cav c)

/-! ## TRIP RECORD (R148) -/

/-- The result of a TRIP RECORD look for one cavity. -/
def State.tripRecordResult (s : State) (c : CavNo) : Result :=
  if c.val < s.cfg.part.fittedCount then
    if (s.cav c).cond.trip = none then .wrongState else .done
  else .notFitted

/-- The 12 bytes of a TRIP RECORD group, field by field. -/
def TripRecord.reportedIn (x : TripRecord) (g : List Byte) : Prop :=
  g.length = 12 ∧ carries8 g 0 x.first.bit ∧ carries16 g 1 x.later.toNat ∧
    at8 g 3 = x.stateBefore.code ∧ carries8 g 4 (x.segIndex.getD 255) ∧
    carriesTemp g 5 x.cavityReading ∧ carriesTemp g 7 x.doorReading ∧ at8 g 9 = x.lockState.code ∧
    carries16 g 10 x.cycle

/-- TRIP RECORD: the results of the selected cavities, then a group for each whose result is DONE.
Nothing is removed or changed. -/
def State.tripRecordTaken (s : State) (r : Request) (t : State) : Prop :=
  let cs := selected r.sel
  let n := cs.length
  let told := cs.filter fun c => s.tripRecordResult c = .done
  let p := t.link.payloadSent
  s.partKept t ∧ s.cavitiesKept t ∧ s.repliedWith .tripRecord r (n + 12 * told.length) t ∧
    (∀ c ∈ cs, at8 p (cs.filter (· < c)).length = (s.tripRecordResult c).code) ∧
    ∀ c ∈ told, ∀ x ∈ (s.cav c).cond.trip,
      x.reportedIn ((p.drop (n + 12 * (told.filter (· < c)).length)).take 12)

/-! ## WINDOW STATUS (R100) -/

/-- WINDOW STATUS: DONE and 43 bytes; the peak is the greatest load over all thirty slots. -/
def State.windowStatusTaken (s : State) (r : Request) (t : State) : Prop :=
  let p := t.link.payloadSent
  s.partKept t ∧ s.cavitiesKept t ∧ s.repliedWith .windowStatus r 44 t ∧
    carries8 p 0 0 ∧ carries16 p 1 s.sched.budget ∧ carries16 p 3 s.sched.vw ∧
    carries16 p 5 s.peakLoad ∧ (∀ j : Fin 30, s.slotLoad j ≤ s.peakLoad) ∧
    (∃ j : Fin 30, s.slotLoad j = s.peakLoad) ∧ carries8 p 7 (s.sched.slot.getD 255) ∧
    ∀ n : Fin 12, carries8 p (8 + 3 * n) (s.chan n).demand ∧
      carries8 p (9 + 3 * n) (s.chan n).granted ∧
      carries8 p (10 + 3 * n) (if (s.chan n).shed then 1 else 0)

/-! ## PART STATUS (R155) -/

/-- PART STATUS: DONE and 10 bytes; the part events reported are removed under READ CLEARS. -/
def State.partStatusTaken (s : State) (r : Request) (t : State) : Prop :=
  let p := t.link.payloadSent
  s.partKept t ∧ s.cavitiesKept t ∧ p.length = 11 ∧
    t.linkIs { s.link.answered .partStatus r p with
      partEvents := if s.cfg.part.clearMode = 0 then 0 else s.link.partEvents } ∧
    carries8 p 0 0 ∧ carries8 p 1 s.link.partEvents.toNat ∧
    ((at8 p 2).getLsbD 0 = s.mains.low ∧ (at8 p 2).getLsbD 1 = s.mains.high ∧
      (at8 p 2).getLsbD 2 = !s.mains.present ∧ (at8 p 2).toNat < 8) ∧
    carries8 p 3 s.cfg.part.fittedCount ∧ at8 p 4 = s.store.status.code ∧
    carries16 p 5 (s.store.errorEntry.getD 0xFFFF) ∧ at8 p 7 = s.store.burn.code ∧
    carries16 p 8 s.store.free ∧ carries8 p 10 s.store.staging.length

/-! ## PART EVENTS ACK and RESTART (R156, R159) -/

/-- PART EVENTS ACK: a bit that names no part event is a BAD ARGUMENT; otherwise the named part events
are removed. -/
def State.partEventsAckTaken (s : State) (r : Request) (t : State) : Prop :=
  let mask := at8 r.payload 0
  s.partKept t ∧ s.cavitiesKept t ∧
    (if mask.getLsbD 7 then
      t.linkIs (s.link.answered .partEventsAck r [Result.badArgument.code])
    else t.linkIs { s.link.answered .partEventsAck r [Result.done.code] with
        partEvents := t.link.partEvents } ∧
      ∀ i : Fin 7, maskHas t.link.partEvents i = (maskHas s.link.partEvents i && !mask.getLsbD i))

/-- RESTART: taken while every fitted cavity is IDLE or FAULTED, and then remembered until its reply
ends; nothing else changes in the acceptance event. -/
def State.restartTaken (s : State) (r : Request) (t : State) : Prop :=
  s.partKept t ∧ s.cavitiesKept t ∧
    (if ∀ c : CavNo, c.val < s.cfg.part.fittedCount →
          ((s.cav c).cc.state = .idle ∨ (s.cav c).cc.state = .faulted) then
      t.linkIs { s.link.answered .restart r [Result.done.code] with restarting := true }
    else t.linkIs (s.link.answered .restart r [Result.wrongState.code]))

/-! ## BUDGET LEND (R94, R95) -/

/-- The load of a slot at the turn of channel `n` in a walk along a ranking: the channels ranked after it
have had their turn, it and the channels ranked before it have not. -/
def loadAtTurn (s t : State) (ranking : List Nat) (n slot : Nat) : Nat :=
  ((List.range 12).map fun m =>
    if n ∈ ranking.takeWhile (· ≠ m) then (t.chan m).loadIn slot else (s.chan m).loadIn slot).sum

/-- The window has been brought within a budget by the walk from the last ranked channel toward the
first: a ranked channel is shed exactly where, at its turn, it is placed in a remaining slot whose load
exceeds the budget; every other channel is as it was (R95). -/
def State.walkedTo (s : State) (b : Nat) (t : State) : Prop :=
  ∀ n : Fin 12, t.chan n =
    if n.val ∈ s.sched.ranking ∧ ∃ j ∈ remainingSlots s.sched.slot,
        (s.chan n).placements.contains j = true ∧ b < loadAtTurn s t s.sched.ranking n j
      then (s.chan n).shedFrom s.sched.slot else s.chan n

/-- Nothing of a cavity but its channels moves. -/
def Cavity.butChannels (k k' : Cavity) : Prop :=
  k' = { k with cat := k'.cat, top := k'.top, base := k'.base, ring := k'.ring }

/-- A budget brought down to a value where it stands above it, with the walk; the lend and the settings
are said elsewhere. -/
def State.budgetFalls (s : State) (v : Nat) (t : State) : Prop :=
  (∀ c : CavNo, (s.cav c).butChannels (t.cav c)) ∧
    t.sched = { s.sched with lend := t.sched.lend, budget := min v s.sched.budget } ∧
    (if v < s.sched.budget then
      s.walkedTo v t ∧ ∀ j ∈ remainingSlots t.sched.slot, t.slotLoad j ≤ v
    else ∀ n : Fin 12, t.chan n = s.chan n)

/-- BUDGET LEND: the watts held to the ceiling become the lend, CLAMPED where that changed them, and a
lend below B brings B down to it at once. A lend above B waits for the next window start. -/
def State.budgetLendTaken (s : State) (r : Request) (t : State) : Prop :=
  let watts := (at16 r.payload 0).toNat
  let v := min watts s.cfg.part.budgetCeiling
  let result : Result := if s.cfg.part.budgetCeiling < watts then .clamped else .done
  t.cfg = s.cfg ∧ t.bounds = s.bounds ∧ t.segs = s.segs ∧ t.mains = s.mains ∧ t.review = s.review ∧
    t.store = s.store ∧ t.pending = s.pending ∧
    t.linkIs (s.link.answered .budgetLend r [result.code]) ∧ t.sched.lend = v ∧ s.budgetFalls v t

end Sys2Proof.Machine
end

