-- ==== Sys2Proof/Effects/Settings.lean ====
section
/-! DEFINITION. The effects of SETTING READ and SETTING WRITE (09_settings_pages.md; 02_cleaning_programs.md
R32, R33). -/

namespace Sys2Proof.Machine

/-! ## SETTING READ (R161) -/

/-- SETTING READ: with a count of 1 to 16 and every address of the run defined, the count and the values
in force; otherwise BAD ARGUMENT with a count of 0. -/
def State.settingReadTaken (s : State) (r : Request) (t : State) : Prop :=
  let page := (at8 r.payload 0).toNat
  let idx := (at8 r.payload 1).toNat
  let n := (at8 r.payload 2).toNat
  let p := t.link.payloadSent
  s.partKept t ∧ s.cavitiesKept t ∧
    (if 1 ≤ n ∧ n ≤ 16 ∧ ∀ i < n, addrDefined page (idx + i) = true then
      s.repliedWith .settingRead r (2 + 2 * n) t ∧ at8 p 0 = Result.done.code ∧ carries8 p 1 n ∧
        ∀ i < n, ∀ v ∈ s.readValue page (idx + i), carries16 p (2 + 2 * i) v
    else t.linkIs (s.link.answered .settingRead r [Result.badArgument.code, 0]))

/-! ## One value of pages 0 to 5 (R163, R164) -/

/-- A written word as steps 4 and 5 leave it: a number held in its range, then on the safe side of its
bound. -/
def State.heldValue (s : State) (id : SettingId) (w : Word16) : Nat :=
  match id.shape with
  | .number lo hi =>
    let v := (max (lo : Int) (min (if id.signed then w.toInt else w.toNat) hi)).toNat
    match id.protection with
    | some .lower => min v (s.bounds.get id)
    | some .higher => max v (s.bounds.get id)
    | none => v
  | _ => w.toNat

/-- Step 3: a choice that the table does not allow. -/
def SettingId.choiceRefused (id : SettingId) (w : Word16) : Bool :=
  match id.shape with
  | .number _ _ => false
  | .mode => decide (1 < w.toNat)
  | .bits allowed => w.toNat &&& allowed != w.toNat

/-- Step 6: the value breaks its cross-field order with its partner in force. -/
def Settings.orderBroken (f : Settings) (id : SettingId) (v : Nat) : Bool :=
  match id with
  | .mainsLow => decide (f.part.mainsHigh ≤ v)
  | .mainsHigh => decide (v ≤ f.part.mainsLow)
  | .doorWarn => decide (f.limits.doorTrip ≤ v)
  | .doorTrip => decide (v ≤ f.limits.doorWarn)
  | .fanOff c => decide ((f.page c).fanOn ≤ v)
  | .fanOn c => decide (v ≤ (f.page c).fanOff)
  | _ => false

/-- The result of a value (R163), its address defined. -/
def State.valueResult (s : State) (id : SettingId) (w : Word16) : Result :=
  if id = .fittedCount ∧ (∃ c : CavNo, (s.cav c).cc.state ≠ .idle) then .wrongState
  else if id.choiceRefused w || s.cfg.orderBroken id (s.heldValue id w) then .badArgument
  else if (s.heldValue id w : Int) = (if id.signed then w.toInt else (w.toNat : Int)) then .done
  else .clamped

/-- A SETTING WRITE of one value to pages 0 to 5: its result with the count applied, the settings with
the value stored at the address unless it is refused, and neither bounds, segments, store nor mains
touched. A refused value changes nothing else at all. -/
def State.valueWritten (s : State) (r : Request) (id : SettingId) (w : Word16) (t : State) :
    Prop :=
  let result := s.valueResult id w
  t.bounds = s.bounds ∧ t.segs = s.segs ∧ t.mains = s.mains ∧ t.review = s.review ∧
    t.store = s.store ∧ t.pending = s.pending ∧
    t.linkIs (s.link.answered .settingWrite r [result.code, if result.refusal then 0 else 1]) ∧
    (if result.refusal then t.cfg = s.cfg ∧ t.sched = s.sched ∧ s.cavitiesKept t
     else t.cfg = s.cfg.set id (s.heldValue id w))

/-! ## What a stored value does at once (R4, R97, R106, R138, R165, R166) -/

/-- A cavity whose fitting changes: every block's record but the lock drive and the schedule at its
start-up values; the lock of a cavity made unfitted at rest in the state of its switches. -/
def Cavity.refitted (fittedNow : Bool) (k k' : Cavity) : Prop :=
  k'.cc = {} ∧ k'.prb = {} ∧ k'.fan = {} ∧ k'.cond = {} ∧ k'.starve = 0 ∧
    k'.lock = (if fittedNow then k.lock else k.lock.resting (lockStateOf k.lock.lockedSw k.lock.openSw)) ∧
    ∀ p ∈ allPositions, k'.channel p = k.channel p

/-- A lowered unlock level at a cavity: a motor that runs toward open where the check now fails stops in
UNKNOWN, and the controller hears it. In LOCKING the start fails with LOCK JAM; there and in UNLOCKING
the controller sends RELEASE, which the same check refuses unless the bolt stands at the open end. -/
def Cavity.openDriveStopped (e : Env) (k k' : Cavity) : Prop :=
  if k.lock.motor = .towardOpen ∧ k.checkPasses e = false then
    ({ k with lock := k.lock.resting .unknown } : Cavity).hearsUnknown e k'
  else k' = k

/-- The conditions whose enables a write turned on and that now trip, in the order of the table. -/
def newlyTripping (old new : CavityPage) (k : Cavity) : List Condition :=
  (causesIn new k.cc.state k.cond.present).filter fun c =>
    new.tripEnables.testBit c.bit && !old.tripEnables.testBit c.bit

/-- What a stored value does beside being stored, setting by setting. -/
def State.actsAtOnce (s : State) (id : SettingId) (t : State) : Prop :=
  match id with
  | .fittedCount =>
    t.sched = s.sched ∧ ∀ c : CavNo,
      if s.fitted c = t.fitted c then t.cav c = s.cav c else (s.cav c).refitted (t.fitted c) (t.cav c)
  | .budgetCeiling =>
    if t.cfg.part.budgetCeiling < s.cfg.part.budgetCeiling then
      t.sched.lend = min s.sched.lend t.cfg.part.budgetCeiling ∧
        s.budgetFalls t.cfg.part.budgetCeiling t
    else t.sched = s.sched ∧ s.cavitiesKept t
  | .cleanCeiling =>
    t.sched = s.sched ∧ ∀ c : CavNo, t.cav c =
      if t.cfg.limits.cleanCeiling < s.cfg.limits.cleanCeiling ∧
          t.cfg.limits.cleanCeiling * 10 < (s.cav c).cc.speff then
        { s.cav c with cc := { (s.cav c).cc with speff := t.cfg.limits.cleanCeiling * 10 } }
      else s.cav c
  | .cookCeiling =>
    t.sched = s.sched ∧ ∀ c : CavNo, t.cav c =
      if t.cfg.limits.cookCeiling < s.cfg.limits.cookCeiling ∧ (s.cav c).cc.state = .cooking ∧
          t.cfg.limits.cookCeiling < (s.cav c).cc.cookSetpoint then
        { s.cav c with cc := { (s.cav c).cc with
            cookSetpoint := t.cfg.limits.cookCeiling, speff := t.cfg.limits.cookCeiling * 10 } }
      else s.cav c
  | .unlockLevel =>
    t.sched = s.sched ∧ ∀ c : CavNo,
      if t.cfg.limits.unlockLevel < s.cfg.limits.unlockLevel then
        (s.cav c).openDriveStopped (t.env c) (t.cav c)
      else t.cav c = s.cav c
  | .tripEnables c =>
    t.sched = s.sched ∧ ∀ c' : CavNo,
      if c' = c ∧ newlyTripping (s.cfg.page c) (t.cfg.page c) (s.cav c) ≠ [] then
        (t.cav c').trippedBy s.sched.slot (newlyTripping (s.cfg.page c) (t.cfg.page c) (s.cav c))
      else t.cav c' = s.cav c'
  | _ => t.sched = s.sched ∧ s.cavitiesKept t

/-! ## Segment pages (R32, R33) -/

/-- The range of a segment field (R30). -/
@[reducible] def segmentRange (f v : Nat) : Prop :=
  (f = 0 ∧ v ≤ 8) ∨ (f = 1 ∧ v ≤ 6000) ∨ (f = 2 ∧ 1 ≤ v ∧ v ≤ 30) ∨ (f = 3 ∧ 1 ≤ v ∧ v ≤ 600) ∨
    (f = 4 ∧ v ≤ 600) ∨ (f = 5 ∧ v ≤ 7) ∨ (f = 6 ∧ v ≤ 7) ∨ (f = 7 ∧ (v ≤ 63 ∨ v = 255))

/-- The result of a value written to field `f` of segment `i` (R33). -/
def State.segmentResult (s : State) (i f v : Nat) : Result :=
  if i < 16 then .isProtected
  else if ∃ c : CavNo, (s.cav c).cc.state = .locking ∨ (s.cav c).cc.state = .cleaning ∨
      (s.cav c).cc.state = .held then .busy
  else if segmentRange f v then .done else .badArgument

/-- A SETTING WRITE of one value to a segment page: the field holds the value when the result is DONE,
and no other field, segment or part of the state moves. -/
def State.segmentWritten (s : State) (r : Request) (i f v : Nat) (t : State) : Prop :=
  let result := s.segmentResult i f v
  t.cfg = s.cfg ∧ t.bounds = s.bounds ∧ t.sched = s.sched ∧ t.mains = s.mains ∧ t.review = s.review ∧
    t.store = s.store ∧ t.pending = s.pending ∧ s.cavitiesKept t ∧
    t.linkIs (s.link.answered .settingWrite r [result.code, if result = .done then 1 else 0]) ∧
    ∀ i' < 64, ∀ f' < 8, (t.segs.at i').field f' =
      if result = .done ∧ i' = i ∧ f' = f then v else (s.segs.at i').field f'

end Sys2Proof.Machine
end

