-- ==== Sys2Proof/Effects/Store.lean ====
section
/-! DEFINITION. The effects of the store requests, of programming and of start-up
(10_the_one_time_store.md), the grammar of the patch language (R168), and what a replay comes to (R169). -/

namespace Sys2Proof.Machine

/-! ## STORE STAGE, DISCARD, READ (R170, R173) -/

/-- The result of STORE STAGE. -/
def Store.stageResult (t : Store) (n : Nat) : Result :=
  if t.burn = .burning then .busy else if 64 < t.staging.length + n then .badLength else .done

/-- What a store request leaves alone: everything but the link and the store. -/
def State.storeOnly (s t : State) : Prop :=
  t.cfg = s.cfg ∧ t.bounds = s.bounds ∧ t.segs = s.segs ∧ t.sched = s.sched ∧ t.mains = s.mains ∧
    t.review = s.review ∧ t.pending = s.pending ∧ s.cavitiesKept t

/-- STORE STAGE: DONE appends the payload to the staging buffer; the reply carries the staged byte count
whatever the result. -/
def State.stageTaken (s : State) (r : Request) (t : State) : Prop :=
  let result := s.store.stageResult r.payload.length
  s.storeOnly t ∧
    t.store = (if result = .done then { s.store with staging := s.store.staging ++ r.payload }
               else s.store) ∧
    t.linkIs (s.link.answered .storeStage r [result.code, BitVec.ofNat 8 t.store.staging.length])

/-- STORE DISCARD: BUSY during a burn; otherwise the buffer is emptied. -/
def State.discardTaken (s : State) (r : Request) (t : State) : Prop :=
  s.storeOnly t ∧
    (if s.store.burn = .burning then
      t.store = s.store ∧ t.linkIs (s.link.answered .storeDiscard r [Result.busy.code])
    else t.store = { s.store with staging := [] } ∧
      t.linkIs (s.link.answered .storeDiscard r [Result.done.code]))

/-- STORE READ: the bytes from the offset upward with DONE, or BAD ARGUMENT without data; nothing of the
store or of any other block moves. -/
def State.storeReadTaken (s : State) (r : Request) (t : State) : Prop :=
  let offset := (at16 r.payload 0).toNat
  let n := (at8 r.payload 2).toNat
  let p := t.link.payloadSent
  s.storeOnly t ∧ t.store = s.store ∧
    (if n < 1 ∨ 64 < n ∨ 2048 < offset + n then
      t.linkIs (s.link.answered .storeRead r [Result.badArgument.code])
    else s.repliedWith .storeRead r (1 + n) t ∧ at8 p 0 = Result.done.code ∧
      ∀ i < n, at8 p (1 + i) = s.store.memory.read (offset + i))

/-! ## The grammar of the patch language (R168) -/

/-- The bytes of one code. -/
def PatchCode.bytes : PatchCode → List Byte
  | .values ws => BitVec.ofNat 8 ws.length :: ws.flatMap fun w => [w.extractLsb' 8 8, w.extractLsb' 0 8]
  | .moveTo p i => [0x40, BitVec.ofNat 8 p, BitVec.ofNat 8 i]
  | .modeSet => [0x41]
  | .modeTighten => [0x42]
  | .skip n => [BitVec.ofNat 8 (n + 0x5F)]
  | .finish => [0xFF]

/-- A run of codes is free of syntax errors from a cursor on: it ends at its first END, values are
written at defined addresses, AT names one, and VALUES and SKIP find the cursor set. -/
def legalFrom : Option (Nat × Nat) → List PatchCode → Prop
  | _, [] => False
  | _, .finish :: rest => rest = []
  | cur, .modeSet :: rest => legalFrom cur rest
  | cur, .modeTighten :: rest => legalFrom cur rest
  | _, .moveTo p i :: rest => p < 256 ∧ i < 256 ∧ addrDefined p i = true ∧ legalFrom (some (p, i)) rest
  | none, .skip _ :: _ => False
  | some (p, i), .skip n :: rest => 1 ≤ n ∧ n ≤ 32 ∧ legalFrom (some (p, i + n)) rest
  | none, .values _ :: _ => False
  | some (p, i), .values ws :: rest =>
    1 ≤ ws.length ∧ ws.length ≤ 32 ∧ (∀ j < ws.length, addrDefined p (i + j) = true) ∧
      legalFrom (some (p, i + ws.length)) rest

/-! ## STORE BURN (R171) -/

/-- The result of STORE BURN: the checks of R171 in order, the free space as R167 gives it. -/
def State.burnAnswer (s : State) : Result :=
  if s.store.burn = .burning then .busy
  else if s.store.status = .corrupt then .storeFault
  else if s.store.staging = [] then .badLength
  else if ∃ c : CavNo, (s.cav c).cc.state = .locking ∨ (s.cav c).cc.state = .cleaning ∨
      (s.cav c).cc.state = .held ∨ (s.cav c).cc.state = .cooldown ∨ (s.cav c).cc.state = .unlocking then
    .wrongState
  else if syntaxOk s.store.staging = false then .badPatch
  else if 2048 - 6 * s.store.entryCount - s.store.patchEnd < s.store.staging.length + 6 then .noSpace
  else .done

/-- The bytes a burn programs, each with its offset, in order: the entry's tag, offset and length, the
patch from the patch end on, its sum and the seal. -/
def Store.plan (t : Store) : List Host.Cell :=
  let a := 2042 - 6 * t.entryCount
  [(a, 0xE1), (a + 1, BitVec.ofNat 8 (t.patchEnd / 256)), (a + 2, BitVec.ofNat 8 t.patchEnd),
    (a + 3, BitVec.ofNat 8 t.staging.length)] ++
  t.staging.mapIdx (fun i b => (t.patchEnd + i, b)) ++
  [(a + 4, 0 - t.staging.foldl (· + ·) 0), (a + 5, 0x3C)]

/-- STORE BURN: DONE begins the burn with the staged bytes and empties the buffer; a refusal leaves the
buffer and the store unchanged. -/
def State.burnTaken (s : State) (r : Request) (t : State) : Prop :=
  s.storeOnly t ∧ t.linkIs (s.link.answered .storeBurn r [s.burnAnswer.code]) ∧
    t.store = (if s.burnAnswer = .done then
        { s.store with burn := .burning, staging := [], burnLeft := s.store.plan }
      else s.store)

/-! ## The index reading and programming (R167, R172) -/

/-- The sum of offset and length of entry `k` as its bytes stand. -/
def Memory.entryEnd (m : Memory) (k : Nat) : Nat :=
  let a := 2042 - 6 * k
  256 * (m.read (a + 1)).toNat + (m.read (a + 2)).toNat + (m.read (a + 3)).toNat

/-- The store's record follows its index: the entry count is the run of claimed tags, the patch end the
largest of their sums, and a tag that is neither blank nor claimed makes the store CORRUPT there. The
status and the error entry are otherwise the given ones. -/
def Store.follows (t : Store) (status : StoreStatus) (errorEntry : Option Nat) : Prop :=
  let n := t.entryCount
  let stop := t.memory.read (2042 - 6 * n)
  n ≤ 341 ∧ (∀ k < n, t.memory.read (2042 - 6 * k) = 0xE1) ∧ (n < 341 → stop ≠ 0xE1) ∧
    (∀ k < n, t.memory.entryEnd k ≤ t.patchEnd) ∧
    (t.patchEnd = 0 ∨ ∃ k < n, t.memory.entryEnd k = t.patchEnd) ∧
    (if n < 341 ∧ stop ≠ 0 then t.status = .corrupt ∧ t.errorEntry = some n
     else t.status = status ∧ t.errorEntry = errorEntry)

/-- A byte of the burn in flight completes and reads back: only that byte of the memory changes, and
never back to blank. A match goes on to the next byte or, at the seal, ends the burn DONE; a mismatch
ends it FAILED; an end sets BURN ENDED and reads the index again. -/
def State.byteTaken (s : State) (readBack : Byte) (a : Nat) (want : Byte)
    (rest : List Host.Cell) (t : State) : Prop :=
  let b : Byte := if readBack = 0 then s.store.memory.read a else readBack
  s.storeOnly t ∧
    (∀ x : Nat, t.store.memory.read x = if x = a then b else s.store.memory.read x) ∧
    t.store.staging = s.store.staging ∧
    (if b = want ∧ rest ≠ [] then
      t.store = { s.store with memory := t.store.memory, burnLeft := rest } ∧ t.linkIs s.link
    else
      t.store.burn = (if b = want then .done else .failed) ∧ t.store.burnLeft = [] ∧
        t.store.follows s.store.status s.store.errorEntry ∧
        t.linkIs { s.link with partEvents := maskAdd s.link.partEvents 3 })

/-! ## Replay (R34, R168, R169) -/

/-- A word that replay takes for a setting (R169): a number held in its range, a clear mode of 0 or 1, a
set without its undefined bits. -/
def SettingId.replayed (id : SettingId) (w : Word16) : Nat :=
  match id.shape with
  | .number lo hi => (max (lo : Int) (min (if id.signed then w.toInt else w.toNat) hi)).toNat
  | .mode => if w = 0 then 0 else 1
  | .bits allowed => w.toNat &&& allowed

/-- A word that replay takes for segment field `f`, held in its range by the table of R34. -/
def heldField (f : Nat) (w : Word16) : Nat :=
  if f = 0 then (if 8 < w.toNat then 8 else w.toNat)
  else if f = 1 then (if w.toInt < 0 then 0 else if 6000 < w.toInt then 6000 else w.toNat)
  else if f = 2 then (if w = 0 then 1 else if 30 < w.toNat then 30 else w.toNat)
  else if f = 3 then (if w = 0 then 1 else if 600 < w.toNat then 600 else w.toNat)
  else if f = 4 then (if 600 < w.toNat then 600 else w.toNat)
  else if f = 5 ∨ f = 6 then (if 7 < w.toNat then 7 else w.toNat)
  else if 63 < w.toNat then 255 else w.toNat

/-- One value of a patch written at an address. The factory patch in mode SET writes every setting; else a
protected setting takes the value only on the safe side of the value in force, or equal to it, and passes
any other over. A value that breaks its cross-field order, or at an undefined address, ends the patch:
`none`. A segment field takes its held value whatever the mode. -/
def Replayed.wrote (factory tighten : Bool) (page idx : Nat) (w : Word16) (out : Replayed) :
    Option Replayed :=
  match settingAddr page idx with
  | some id =>
    let v := id.replayed w
    let unsafer : Bool := match id.protection with
      | some .lower => decide (out.cfg.get id < v)
      | some .higher => decide (v < out.cfg.get id)
      | none => false
    if unsafer = true ∧ (tighten = true ∨ factory = false) then some out
    else if out.cfg.orderBroken id v then none
    else some { out with cfg := out.cfg.set id v }
  | none =>
    if 8 ≤ page ∧ page ≤ 15 ∧ idx ≤ 63 then
      let i := 8 * (page - 8) + idx / 8
      some { out with segs := out.segs.put i ((out.segs.at i).setField (idx % 8) (heldField (idx % 8) w)) }
    else none

/-- Values written one after the other from an index on, up to the first that ends the patch, and whether none
did. -/
def valuesWritten (factory tighten : Bool) (page : Nat) :
    Nat → List Word16 → Replayed → Replayed × Bool
  | _, [], out => (out, true)
  | idx, w :: ws, out =>
    match out.wrote factory tighten page idx w with
    | some out' => valuesWritten factory tighten page (idx + 1) ws out'
    | none => (out, false)

/-- A patch from where it stands, with its cursor and its mode TIGHTEN or not: what it leaves written, and
whether it ends without an error. Each line is a code of R168, or an error of R168 or R169, which keeps what
is written already. The n values of a VALUES whose bytes are all there are written in order up to the first
that ends the patch; of one that is cut short none is (log entry 26). -/
inductive PatchRuns (factory : Bool) :
    Option (Nat × Nat) → Bool → Replayed → List Byte → Replayed → Bool → Prop
  | missing (cur m out) : PatchRuns factory cur m out [] out false
  | unknown (cur m out) (b : Byte) (bs : List Byte) :
      ¬ (b = 0xFF ∨ b = 0x40 ∨ b = 0x41 ∨ b = 0x42 ∨ (0x60 ≤ b.toNat ∧ b.toNat ≤ 0x7F) ∨
        (1 ≤ b.toNat ∧ b.toNat ≤ 0x20)) → PatchRuns factory cur m out (b :: bs) out false
  | ends (cur m out) : PatchRuns factory cur m out [0xFF] out true
  | follows (cur m out) (bs : List Byte) : bs ≠ [] → PatchRuns factory cur m out (0xFF :: bs) out false
  | toSet (cur m out bs o ok) : PatchRuns factory cur false out bs o ok →
      PatchRuns factory cur m out (0x41 :: bs) o ok
  | toTighten (cur m out bs o ok) : PatchRuns factory cur true out bs o ok →
      PatchRuns factory cur m out (0x42 :: bs) o ok
  | moves (cur m out) (p i : Byte) (bs o ok) : addrDefined p.toNat i.toNat = true →
      PatchRuns factory (some (p.toNat, i.toNat)) m out bs o ok →
      PatchRuns factory cur m out (0x40 :: p :: i :: bs) o ok
  | nowhere (cur m out) (p i : Byte) (bs : List Byte) : addrDefined p.toNat i.toNat = false →
      PatchRuns factory cur m out (0x40 :: p :: i :: bs) out false
  | cutMove (cur m out) (bs : List Byte) : bs.length < 2 →
      PatchRuns factory cur m out (0x40 :: bs) out false
  | skips (p i m out) (b : Byte) (bs o ok) : 0x60 ≤ b.toNat → b.toNat ≤ 0x7F →
      PatchRuns factory (some (p, i + (b.toNat - 0x5F))) m out bs o ok →
      PatchRuns factory (some (p, i)) m out (b :: bs) o ok
  | unset (m out) (b : Byte) (bs : List Byte) :
      (0x60 ≤ b.toNat ∧ b.toNat ≤ 0x7F) ∨ (1 ≤ b.toNat ∧ b.toNat ≤ 0x20) →
      PatchRuns factory none m out (b :: bs) out false
  | cutValues (p i m out) (b : Byte) (bs : List Byte) : 1 ≤ b.toNat → b.toNat ≤ 0x20 →
      bs.length < 2 * b.toNat → PatchRuns factory (some (p, i)) m out (b :: bs) out false
  | values (p i m out out') (ws : List Word16) (bs o ok) : 1 ≤ ws.length → ws.length ≤ 32 →
      valuesWritten factory m p i ws out = (out', true) →
      PatchRuns factory (some (p, i + ws.length)) m out' bs o ok →
      PatchRuns factory (some (p, i)) m out ((PatchCode.values ws).bytes ++ bs) o ok
  | stopped (p i m out out') (ws : List Word16) (bs : List Byte) : 1 ≤ ws.length → ws.length ≤ 32 →
      valuesWritten factory m p i ws out = (out', false) →
      PatchRuns factory (some (p, i)) m out ((PatchCode.values ws).bytes ++ bs) out' false

/-- An entry is replayed: sealed, of a length from 1 to 64, clear of the index, its patch and sum adding up
to 0. -/
def Memory.sound (m : Memory) (count k : Nat) : Prop :=
  let a := 2042 - 6 * k
  let offset := 256 * (m.read (a + 1)).toNat + (m.read (a + 2)).toNat
  let len := (m.read (a + 3)).toNat
  m.read (a + 5) = 0x3C ∧ 1 ≤ len ∧ len ≤ 64 ∧ offset + len ≤ 2048 - 6 * count ∧
    ((m.bytes offset len).foldl (· + ·) 0 + m.read (a + 4) : Byte) = 0

/-- The patch bytes of an entry. -/
def Memory.patch (m : Memory) (k : Nat) : List Byte :=
  let a := 2042 - 6 * k
  m.bytes (256 * (m.read (a + 1)).toNat + (m.read (a + 2)).toNat) (m.read (a + 3)).toNat

/-- What the first `n` entries of a store with `count` claimed entries write, from the default settings and
blank segment records on, and the first patch error: a skipped entry, or one whose patch has an error. -/
inductive Memory.ReplaysTo (m : Memory) (count : Nat) : Nat → Replayed → Option Nat → Prop
  | start : m.ReplaysTo count 0 ⟨{}, Vector.replicate 64 {}⟩ none
  | skipped (k out err) : m.ReplaysTo count k out err → ¬ m.sound count k →
      m.ReplaysTo count (k + 1) out (err.or (some k))
  | replayed (k out err o ok) : m.ReplaysTo count k out err → m.sound count k →
      PatchRuns (decide (k = 0)) none false out (m.patch k) o ok →
      m.ReplaysTo count (k + 1) o (if ok = true then err else err.or (some k))

/-! ## Start-up (R1, R29, R75, R85, R102, R126, R149, R167) -/

/-- A cavity's record at start-up: every block at its start-up values, the lock at rest in the state its
switches give, and the recovery of a fitted cavity to come. -/
def Cavity.startsUp (fitted : Bool) (sw : SwitchPositions) (k : Cavity) : Prop :=
  k = { cc := { recovering := fitted },
        lock := { state := lockStateOf sw.locked sw.opened, lockedSw := sw.locked, openSw := sw.opened,
                  doorClosed := sw.doorClosed } }

/-- Start-up with its inputs: the link closed, mains not yet returned, no window, every cavity's record
at its start-up values, the settings and segments as the replay of the store leaves them, the bounds the
protected values then in force, the lend and B at the budget ceiling, nothing staged and no burn, the
memory as programmed and its index read. The waiting commands stay. -/
def State.startedUp (s : State) (inp : StartInputs) (t : State) : Prop :=
  let n := t.cfg.part.fittedCount
  let replayed := s.store.memory.replay t.store.entryCount
  t.link = { unit := inp.unit } ∧ t.mains = {} ∧ t.review = ⟨.running, 1000⟩ ∧
    t.sched = { lend := t.cfg.part.budgetCeiling, budget := t.cfg.part.budgetCeiling } ∧
    t.c0.startsUp (decide (0 < n)) inp.sw0 ∧ t.c1.startsUp (decide (1 < n)) inp.sw1 ∧
    t.c2.startsUp (decide (2 < n)) inp.sw2 ∧
    t.cfg = replayed.1.cfg ∧ t.segs = replayed.1.segs ∧
    (∀ id : SettingId, id.protection ≠ none → t.bounds.get id = t.cfg.get id) ∧
    t.store.memory = s.store.memory ∧ t.store.staging = [] ∧ t.store.burn = .idle ∧
    t.store.burnLeft = [] ∧
    t.store.follows (if replayed.2 = none then .ok else .patchError) replayed.2 ∧
    t.pending = s.pending

end Sys2Proof.Machine
end

