-- ==== Sys2Proof/Effects/Trips.lean ====
section
/-! DEFINITION. What a trip leaves, whatever command brought it (07_conditions_and_trips.md R136, R139,
R140), and what stands until the trip record is removed. -/

namespace Sys2Proof.Machine

/-- A cavity that an event has tripped: its record's first cause is one that the table of R136 lets trip
the state before, the record holds the readings, the cycle windows and the lock state as they stand, the
start segment, SPeff, D and the cook fields are at rest, no channel holds a remaining slot, the catalyst
command is off, the fan HIGH, no lock is in travel, TRIPPED is set, a trip out of a cycle or a start has
written the last end TRIPPED, and a trip out of CLEANING or HELD has cleared the program. -/
def Cavity.toldByTrip (p : CavityPage) (slot : Option Nat) (k : Cavity) : Prop :=
  ∃ x ∈ k.cond.trip,
    tripsIn p x.stateBefore x.first = true ∧ x.cavityReading = k.prb.cavity.reading ∧
      x.doorReading = k.prb.door.reading ∧ x.cycle = k.cc.cycle ∧ x.lockState = k.lock.state ∧
      k.cond.seen.has x.first = true ∧
      k.cc.startSeg = none ∧ k.cc.speff = 0 ∧ k.cc.demand = 0 ∧ k.cc.cookSetpoint = 0 ∧
      k.cc.cookSet = 0 ∧ (∀ p ∈ allPositions, (k.channel p).holdsFrom slot = false) ∧
      k.fan.catalyst = false ∧ k.fan.command = .high ∧ k.starve = 0 ∧
      k.lock.state ≠ .closing ∧ k.lock.state ≠ .opening ∧
      maskHas k.cc.events 5 = true ∧
      (x.stateBefore ≠ .idle ∧ x.stateBefore ≠ .cooking → k.cc.lastEnd = .tripped) ∧
      (x.stateBefore = .cleaning ∨ x.stateBefore = .held →
        k.cc.segIndex = none ∧ k.cc.stack = [] ∧ k.cc.elapsed = 0 ∧ k.cc.soak = 0 ∧ k.prb.mark = none) ∧
      (x.stateBefore ≠ .cleaning ∧ x.stateBefore ≠ .held → x.segIndex = none)

/-- What a trip leaves as it was where the command that brought it is neither a sample nor a switch change
of the cavity: the probes, the switches, the views of the fan drive, and the conditions seen but for those
added. -/
def Cavity.tripSpares (k k' : Cavity) : Prop :=
  k'.prb = { k.prb with mark := k'.prb.mark } ∧ k'.lock.lockedSw = k.lock.lockedSw ∧
    k'.lock.openSw = k.lock.openSw ∧ k'.lock.doorClosed = k.lock.doorClosed ∧
    k'.fan.probeView = k.fan.probeView ∧ k'.fan.warmView = k.fan.warmView ∧
    ∀ c ∈ allConditions, k.cond.seen.has c = true → k'.cond.seen.has c = true

/-- A cavity stays FAULTED with its trip record, whose later causes alone may grow. -/
def Cavity.faultStands (k k' : Cavity) : Prop :=
  k'.cc.state = .faulted ∧ ∃ x ∈ k.cond.trip, ∃ y ∈ k'.cond.trip,
    y = { x with later := y.later } ∧ ∀ c ∈ allConditions, x.later.has c = true → y.later.has c = true

end Sys2Proof.Machine
end

