-- ==== Sys2Proof/Effects/Window.lean ====
section
/-! DEFINITION. The effects of the window and mains commands (04_heat_demand_and_the_firing_window.md;
01_the_cavity_and_its_cleaning_cycle.md R20 to R22). -/

namespace Sys2Proof.Machine

/-! ## The cavity work of a window start (R20 to R22, R48 to R56, R78 to R81) -/

/-- SPeff of a CLEANING cavity after stage 2, by the kind of its segment (R48). -/
def Env.cleaningSetpoint (e : Env) (r : Segment) (k : Cavity) : Nat :=
  let target := e.level r * 10
  if r.kind = .ramp then
    if k.cc.direction = some .down then max (k.cc.speff - r.rate * 25) target
    else min (k.cc.speff + r.rate * 25) target
  else if r.kind = .soak then target
  else e.heldReading k.prb.cavity.reading

/-- A CLEANING cavity in segment record `r` after stages 1 and 2 and the RAMP's decision of arrived: the
cycle and elapsed counters one up, the soak counter in a SOAK near its target, SPeff brought up to
date. -/
def Cavity.counted (e : Env) (r : Segment) (k : Cavity) : Cavity :=
  let near : Bool := decide (r.kind = .soak) && !k.prb.cavity.fault &&
    decide ((e.level r : Int) - e.page.soakBand ≤ k.prb.cavity.reading)
  let v := e.cleaningSetpoint r k
  { k with cc := { k.cc with
      cycle := k.cc.cycle + 1, elapsed := k.cc.elapsed + 1,
      soak := if near then k.cc.soak + 1 else k.cc.soak, speff := v,
      arrived := if r.kind = .ramp then decide (v = e.level r * 10) else k.cc.arrived } }

/-- The segment's own ending falls due (R51 to R54). -/
def Cavity.ownEnding (r : Segment) (k : Cavity) : Bool :=
  decide ((r.kind = .ramp ∧ k.cc.arrived = true ∧ k.cc.markHeld = true) ∨
    (r.kind = .soak ∧ r.duration * 4 ≤ k.cc.soak) ∨ (r.kind = .dwell ∧ r.duration * 4 ≤ k.cc.elapsed) ∨
    (r.kind = .coast ∧ k.cc.markHeld = true))

/-- The cavity after stages 1 to 3. A limit reached ends the cycle before anything else counts; a
segment's own ending comes before its timeout. -/
def Cavity.afterStages (e : Env) (k m : Cavity) : Prop :=
  match k.cc.state, k.cc.segIndex with
  | .cleaning, some i =>
    let r := e.segs.at i
    let k2 := k.counted e r
    if e.cfg.limits.cycleLimit * 4 ≤ k.cc.cycle + 1 then
      ({ k with cc := { k.cc with cycle := k.cc.cycle + 1 } } : Cavity).intoCooldown e .cycleTime m
    else if k2.ownEnding r then k2.movesOn e (if r.next = 255 then i + 1 else r.next) m
    else if r.timeout ≠ 0 ∧ r.timeout * 4 ≤ k2.cc.elapsed then
      if r.flags.getLsbD 2 then k2.intoCooldown e .segmentTimeout m
      else k2.movesOn e (if r.next = 255 then i + 1 else r.next) m
    else m = k2
  | .cleaning, none => True
  | .held, _ =>
    if e.cfg.limits.holdLimit * 4 ≤ k.cc.hold + 1 then
      ({ k with cc := { k.cc with hold := k.cc.hold + 1 } } : Cavity).intoCooldown e .holdExpired m
    else m = { k with cc := { k.cc with hold := k.cc.hold + 1,
                                        speff := e.heldReading k.prb.cavity.reading } }
  | .cooking, _ => m = { k with cc := { k.cc with speff := k.cc.cookSetpoint * 10 } }
  | _, _ => m = { k with cc := { k.cc with speff := 0 } }

/-- The demand D of a cavity as stages 1 to 3 leave it (R79, R80). -/
def Cavity.wantedSlots (e : Env) (m : Cavity) : Nat :=
  let formula : Prop := m.cc.state = .cooking ∨ (m.cc.state = .cleaning ∧ ∃ i ∈ m.cc.segIndex,
    (e.segs.at i).kind = .ramp ∨ (e.segs.at i).kind = .soak)
  let err : Int := (m.cc.speff / 10 : Nat) - m.prb.cavity.reading
  let d := if formula ∧ m.prb.cavity.fault = false ∧ 0 < err then min 30 (err.toNat * e.page.gain / 100) else 0
  if m.prb.doorWarm then d / 2 else d

/-- A fitted cavity at a window start that does not trip it by STARVED: the work of the four stages, with
the fan, the lock and the probes as they leave them. -/
def Cavity.windowWorked (e : Env) (k k' : Cavity) : Prop :=
  ∃ m : Cavity, k.afterStages e m ∧ k'.cc = { m.cc with demand := m.wantedSlots e } ∧
    k'.prb = m.prb ∧ k'.lock = m.lock ∧ k'.fan = m.fan

/-! ## The schedule (R75 to R77, R83, R84, R89 to R92) -/

/-- No cavity's starvation counter can bring a STARVED trip at the next window start. -/
def State.notStarving (s : State) : Prop :=
  ∀ c : CavNo, (s.cav c).starve + 1 < 40 ∨ (s.cfg.page c).tripEnables.testBit 10 = false

/-- The demand of channel `n` for the state, segment or element set of its cavity (R83, R84, R130). -/
def State.channelWants (s : State) (n : Nat) : Nat :=
  let c := channelCav n
  let k := s.cav c
  let p := channelPos n
  if (s.cfg.ratings c).at p = 0 then 0
  else if p = .cat then (if k.fan.catalyst then 30 else 0)
  else if (k.cc.state = .cooking ∧ k.cc.cookSet.hasPos p = true) ∨
      (k.cc.state = .cleaning ∧ ∃ i ∈ k.cc.segIndex,
        ((s.segs.at i).kind = .ramp ∨ (s.segs.at i).kind = .soak) ∧ (s.segs.at i).heatSet.hasPos p = true)
    then k.cc.demand else 0

/-- The ranking: cleaning cavities' channels first, cooking cavities' second, each by channel number,
those without demand left out (R91). -/
def State.rankingOf (s : State) : List Nat :=
  ((List.range 12).filter fun n =>
    decide ((s.cav (channelCav n)).cc.state = .cleaning) && (s.chan n).demand != 0) ++
  ((List.range 12).filter fun n =>
    decide ((s.cav (channelCav n)).cc.state = .cooking) && (s.chan n).demand != 0)

/-- The load of a slot when channel `n` of a ranking is placed: that of the channels ranked before it. -/
def State.loadBefore (s : State) (ranking : List Nat) (n slot : Nat) : Nat :=
  ((ranking.takeWhile (· ≠ n)).map fun m => (s.chan m).loadIn slot).sum

/-- The slots channel `n` gets: of the thirty slots from (3 × n) mod 30 on, wrapping, the first D whose
load with its power stays within B (R92). -/
def State.slotsFor (s : State) (ranking : List Nat) (n : Nat) : List Nat :=
  (((List.range 30).map fun j => (3 * n + j) % 30).filter fun j =>
    decide (s.loadBefore ranking n j + (s.chan n).power ≤ s.sched.budget)).take (s.chan n).demand

/-- A window stands at its slot 0 as R76 builds it. -/
def State.windowBuilt (s t : State) : Prop :=
  let vw := s.mains.ring.sum / s.mains.ring.length
  let vr := s.cfg.part.ratedVoltage
  t.sched = { lend := s.sched.lend, budget := s.sched.lend, vw := vw, slot := some 0,
              ranking := t.rankingOf, timer := ⟨.running, 500⟩ } ∧
    t.mains = { s.mains with low := decide (vw < s.cfg.part.mainsLow),
                             high := decide (s.cfg.part.mainsHigh < vw) } ∧
    ∀ n : Fin 12,
      (t.chan n).demand = t.channelWants n ∧
      (t.chan n).power = ((s.cfg.ratings (channelCav n)).at (channelPos n) * vw * vw + vr * vr / 2) / (vr * vr) ∧
      (t.chan n).shed = false ∧
      (t.chan n).placements = (if n.val ∈ t.sched.ranking ∧ s.cfg.part.mainsLow ≤ vw
        then t.slotsFor t.sched.ranking n else []) ∧
      (t.chan n).granted = (t.chan n).placements.length ∧
      (t.chan n).relay = (t.chan n).placements.contains 0

/-- What a window start leaves alone. -/
def State.windowKeeps (s t : State) : Prop :=
  t.cfg = s.cfg ∧ t.bounds = s.bounds ∧ t.segs = s.segs ∧ t.review = s.review ∧ t.store = s.store ∧
    t.pending = s.pending

/-! ## Starvation (R98, R99) -/

/-- A cavity is short of its demand: some channel granted fewer slots than it demands. -/
@[reducible] def Cavity.isShort (k : Cavity) : Prop :=
  ∃ p ∈ allPositions, (k.channel p).granted < (k.channel p).demand

/-- The starvation counter and STARVED after a window start. In CLEANING a short window counts and any
other empties the count; HELD keeps it; elsewhere it is 0. A CLEANING cavity short for the
fortieth time is tripped by STARVED where its enable is on, and no other cavity is. -/
def Cavity.starvationMoved (e : Env) (k k' : Cavity) : Prop :=
  (k'.cc.state = .cleaning →
      k'.starve = (if k'.isShort then k.starve + 1 else 0) ∧
        k'.cond.present.has .starved = decide (40 ≤ k'.starve) ∧
        (e.page.tripEnables.testBit 10 = true → 40 ≤ k'.starve → 40 ≤ k.starve)) ∧
    (k.cc.state = .cleaning → k.starve = 39 → k'.isShort → e.page.tripEnables.testBit 10 = true →
      k'.trippedBy (some 0) [.starved]) ∧
    (k'.cc.state = .held → k'.starve = k.starve ∧
      k'.cond.present.has .starved = k.cond.present.has .starved) ∧
    (k'.cc.state ≠ .cleaning → k'.cc.state ≠ .held →
      k'.starve = 0 ∧ k'.cond.present.has .starved = false) ∧
    (∀ x ∈ k'.cond.trip, k.cond.trip = none → x.first = .starved →
      k'.isShort ∧ k.starve = 39 ∧ x.stateBefore = .cleaning ∧
        e.page.tripEnables.testBit 10 = true)

/-! ## Slot boundaries, crossings, readings, dropouts (R77, R86 to R88, R121, R122) -/

/-- Everything but the scheduler, the mains monitor, the link's ATTN and the cavities' channels and lock
drives stays. -/
def State.mainsKeeps (s t : State) : Prop :=
  s.windowKeeps t ∧ ∀ c : CavNo, ∃ k : Cavity, t.cav c =
    { s.cav c with cat := k.cat, top := k.top, base := k.base, ring := k.ring, lock := k.lock }

/-- A slot boundary: the next slot stands with its 500 ms, and each relay is closed exactly where its
channel is placed in that slot. -/
def State.slotBegun (s : State) (slot : Nat) (t : State) : Prop :=
  s.windowKeeps t ∧ t.mains = s.mains ∧ t.linkIs s.link ∧
    t.sched = { s.sched with slot := some slot, timer := ⟨.running, 500⟩ } ∧
    (∀ c : CavNo, (t.cav c).lock = (s.cav c).lock ∧ (t.cav c).cc = (s.cav c).cc ∧
      (t.cav c).fan = (s.cav c).fan ∧ (t.cav c).prb = (s.cav c).prb ∧
      (t.cav c).cond = (s.cav c).cond ∧ (t.cav c).starve = (s.cav c).starve) ∧
    ∀ n : Fin 12, t.chan n = { s.chan n with relay := (s.chan n).placements.contains slot }

/-- The mains monitor at a zero crossing: the crossing timer begins anew, and a return run begins where none
runs. -/
def Mains.crossed (m : Mains) : Mains :=
  { m with crossing := ⟨.running, 100⟩, run := if m.run = none then some 0 else m.run }

/-- A reading joins the ring as its newest entry, held to 300 volts; of a full ring the oldest leaves. -/
def joined (ring : List Nat) (volts : Nat) : List Nat :=
  (if 8 ≤ ring.length then ring.tail else ring) ++ [if 300 < volts then 300 else volts]

/-- Only the mains monitor's record moves. -/
def State.onlyMains (s : State) (m : Mains) (t : State) : Prop :=
  s.windowKeeps t ∧ t.sched = s.sched ∧ t.mains = m ∧ t.linkIs s.link ∧ s.cavitiesKept t

/-- A dropout: DROPOUT, its part event, no window, every relay open, every placement from the current slot
on removed with the shed flag set, and every lock drive told: a drive in travel stops its motor and
pauses its timer. -/
def State.droppedOut (s t : State) : Prop :=
  s.windowKeeps t ∧
    t.mains = { s.mains with present := false, crossing := ⟨.stopped, 0⟩, run := none } ∧
    t.sched = { s.sched with slot := none, timer := ⟨.stopped, 0⟩ } ∧
    t.linkIs { s.link with partEvents := maskAdd s.link.partEvents 1 } ∧
    (∀ n : Fin 12, t.chan n = { (s.chan n).shedFrom s.sched.slot with relay := false }) ∧
    ∀ c : CavNo, (t.cav c).cc = (s.cav c).cc ∧ (t.cav c).fan = (s.cav c).fan ∧
      (t.cav c).prb = (s.cav c).prb ∧ (t.cav c).cond = (s.cav c).cond ∧
      (t.cav c).starve = (s.cav c).starve ∧
      (t.cav c).lock =
        if (s.cav c).lock.state = .closing ∨ (s.cav c).lock.state = .opening then
          { (s.cav c).lock with mains := false, motor := .stop, timer :=
              ⟨if (s.cav c).lock.timer.status = .running then .paused else (s.cav c).lock.timer.status,
               (s.cav c).lock.timer.left⟩ }
        else { (s.cav c).lock with mains := false }

/-- A lock drive told that mains has returned: in CLOSING, and in OPENING with its release check passing,
the drive runs on with the time it had left; in OPENING with the check failing it stops in UNKNOWN; at
rest it only knows that mains is present (R122). Said of a drive whose timer stands paused. -/
def Lock.resumed (check : Bool) (l : Lock) : Lock :=
  if l.state = .closing then
    { l with mains := true, motor := .towardClosed, timer := ⟨.running, l.timer.left⟩ }
  else if l.state = .opening then
    if check then { l with mains := true, motor := .towardOpen, timer := ⟨.running, l.timer.left⟩ }
    else { l with mains := true, state := .unknown, goal := none, attempt := 1, motor := .stop,
                  timer := ⟨.stopped, 0⟩ }
  else { l with mains := true }

/-- A cavity told that mains has returned: its lock drive as R122 gives, and a drive that stopped in UNKNOWN
is heard by the controller. -/
def Cavity.mainsTold (e : Env) (k k' : Cavity) : Prop :=
  let told : Cavity := { k with lock := k.lock.resumed (k.checkPasses e) }
  if k.lock.state = .opening ∧ k.checkPasses e = false then told.hearsUnknown e k' else k' = told

/-- Steps 1 to 5 of the return (R88): the ring holds the one reading, mains is PRESENT, MAINS RETURN is set
unless this is the first return since start-up, and every lock drive is told. -/
def State.monitorReturned (s : State) (volts : Nat) (u : State) : Prop :=
  s.windowKeeps u ∧ u.sched = s.sched ∧
    u.mains = { s.mains with present := true, ring := [if 300 < volts then 300 else volts],
                             crossing := ⟨.running, 100⟩, firstReturn := false } ∧
    u.link = { s.link with partEvents :=
      if s.mains.firstReturn then s.link.partEvents else maskAdd s.link.partEvents 2 } ∧
    ∀ c : CavNo, (s.cav c).mainsTold (s.env c) (u.cav c)

/-- The return of mains: steps 1 to 5, and in the same event the window start of step 6, with the window
built and the cavity work done as at any window start. What stands after it: PRESENT with the one reading,
every lock drive as it was told, and a window at its slot 0 at the voltage of that reading. -/
def State.mainsReturned (s : State) (volts : Nat) (t : State) : Prop :=
  s.windowKeeps t ∧
    (∃ u : State, s.monitorReturned volts u ∧ exec .windowStart u = .next t ∧
      (∀ c : CavNo, (t.cav c).lock = (u.cav c).lock) ∧
      (u.notStarving → u.windowBuilt t ∧
        ∀ c : CavNo, u.fitted c = true → (u.cav c).windowWorked (u.env c) (t.cav c))) ∧
    t.mains = { s.mains with present := true, ring := [if 300 < volts then 300 else volts],
                             crossing := ⟨.running, 100⟩, firstReturn := false,
                             low := t.mains.low, high := t.mains.high } ∧
    t.sched.slot = some 0 ∧ t.sched.timer = ⟨.running, 500⟩ ∧ t.sched.budget = s.sched.lend ∧
    t.sched.vw = (if 300 < volts then 300 else volts) ∧
    t.linkIs { s.link with partEvents :=
      if s.mains.firstReturn then s.link.partEvents else maskAdd s.link.partEvents 2 }

end Sys2Proof.Machine
end

