-- ==== Sys2Proof/Certificates/Slice0/Obligations.lean ====
section
/-! DEFINITION. The statements for the provers. Their vocabulary stands in Sys2Proof/Safety.lean (the laws)
and Sys2Proof/Effects (what each command does, by the rules). A statement about a command says that it
answers a next state, what that state holds, and what it leaves as it was. -/

open Sys2Proof Sys2Proof.Machine

/-! ## The machine -/

/-- The model's own queue (the row's form): the command at the front of the queue is run by exec on the
state with the queue's rest. -/
def Obligations.StepTakesTheFrontCommand : Prop :=
  ∀ (s : State) (c : Instr) (rest : List Instr), s.pending = c :: rest →
    step s = exec c { s with pending := rest }

/-- The model's choice (log entries 4, 8 and 10): with no command waiting a step lets a millisecond pass,
which the return run ages by too (log entry 8), and exactly the commands whose time has come wait. LINK
OPEN's time has come where every other step of start-up is done, as log entry 10 reads them from the state:
the link CLOSED, the first return of mains done, and every fitted cavity recovered with three samples of
each probe (R149, R65). -/
def Obligations.IdleStepPassesAMillisecond : Prop :=
  ∀ s : State, s.pending = [] → ∃ t, step s = .next t ∧ s.idled t

/-- The laws hold in the part right after reset. The register values that make them hold are the chapters'
start-up values, and where the spec gives none those of log entries 1 to 3. -/
def Obligations.ResetMeetsTheLaws : Prop :=
  State.reset.UnfittedLaw ∧ State.reset.LockLaw ∧ State.reset.DoorLaw ∧ State.reset.HeatLaw ∧
    State.reset.BudgetLaw ∧ State.reset.TripLaw ∧ State.reset.ProgramLaw ∧
    State.reset.SegmentFlagLaw ∧ State.reset.SettingsLaw ∧ State.reset.SetpointLaw ∧
    State.reset.FanLaw ∧ State.reset.MainsLaw ∧ State.reset.ConditionLaw ∧ State.reset.AttnLaw ∧
    State.reset.LinkLaw ∧ State.reset.store.memory.wf = true ∧ State.reset.pending = []

/-- Every command completes from every state, and the queue is not its business (the model's own form). -/
def Obligations.EveryCommandCompletesAndLeavesTheQueue : Prop :=
  ∀ (c : Instr) (s : State), ∃ t, exec c s = .next t ∧ t.pending = s.pending

/-- R158: after every command, from whatever state, ATTN is asserted exactly while a fitted cavity's events
or the part events meet their mask and the link is open; the passing of a millisecond changes nothing of
that. -/
def Obligations.AttnFollowsWhatIsWatched : Prop :=
  (∀ (c : Instr) (s : State), ∃ t, exec c s = .next t ∧ (t.link.attn = true ↔ t.watched)) ∧
    ∀ s t : State, s.AttnLaw → step s = .next t → t.AttnLaw

/-! ## Laws that every step keeps -/

/-- The lock drives and the doors: an unfitted cavity stands at its start-up values (R4, R123), a lock
drive's record has its shape and its motor runs toward open only with the release check true (R101, R105,
R106), and a cavity in CLEANING or HELD has its lock LOCKED (R19). That the lock of a cavity made unfitted is
at rest as its switches give at once is log entry 12. -/
def Obligations.LockAndDoorLawsAreKept : Prop :=
  ∀ s t : State, step s = .next t →
    (s.UnfittedLaw → t.UnfittedLaw) ∧ (s.UnfittedLaw → s.LockLaw → t.LockLaw) ∧
      (s.UnfittedLaw → s.LockLaw → s.DoorLaw → t.DoorLaw)

/-- Heat: no relay is closed outside its placement or for a state that does not allow its channel (R2, R77),
and the catalyst command is on only in CLEANING (R130). -/
def Obligations.HeatLawIsKept : Prop := ∀ s t : State, step s = .next t → s.HeatLaw → t.HeatLaw

/-- The budget: in every remaining slot the load, and at every moment the power drawn, stays within the
budget in force, and granted ≤ demand ≤ 30 (R74, R92, R95, R97). -/
def Obligations.BudgetLawIsKept : Prop := ∀ s t : State, step s = .next t → s.BudgetLaw → t.BudgetLaw

/-- The place in the program (R1, R36, R66, R81): in CLEANING and HELD a complete timed segment with a legal
call stack, elsewhere the start-up values; and the flags of that segment at the catalyst and the fan (R124,
R130). -/
def Obligations.ProgramLawsAreKept : Prop :=
  ∀ s t : State, step s = .next t → s.UnfittedLaw →
    (s.ProgramLaw → t.ProgramLaw) ∧ (s.ProgramLaw → s.SegmentFlagLaw → t.SegmentFlagLaw)

/-- Settings stay in range, on the safe side of their bounds and in cross-field order (R160, R163, R164),
and SPeff stays within the ceilings (R78). -/
def Obligations.SettingsAndSetpointLawsAreKept : Prop :=
  ∀ s t : State, step s = .next t →
    (s.SettingsLaw → t.SettingsLaw) ∧ (s.SettingsLaw → s.SetpointLaw → t.SetpointLaw)

/-- The trip record is present exactly in FAULTED (R132), and the conditions present are those whose owner
holds their cause, all of them seen (R133 to R135). -/
def Obligations.TripAndConditionLawsAreKept : Prop :=
  ∀ s t : State, step s = .next t →
    (s.TripLaw → t.TripLaw) ∧ (s.UnfittedLaw → s.LockLaw → s.ConditionLaw → t.ConditionLaw)

/-- The fan command is the policy's and its tach timer goes with it (R125, R128); a window stands exactly
while mains is present, and every lock drive knows which (R75, R85, R87, R121, R122). -/
def Obligations.FanAndMainsLawsAreKept : Prop :=
  ∀ s t : State, step s = .next t → (s.FanLaw → t.FanLaw) ∧ (s.MainsLaw → t.MainsLaw)

/-- The receiver's record keeps its shape (R149, R150); the memory of the one-time store keeps its canonical
form (the model's own), and no programmed byte returns to blank (R167). -/
def Obligations.LinkAndMemoryLawsAreKept : Prop :=
  ∀ s t : State, step s = .next t → (s.LinkLaw → t.LinkLaw) ∧
    (s.store.memory.wf = true → t.store.memory.wf = true) ∧
    s.store.memory.keepsProgrammed t.store.memory

/-! ## The link -/

/-- A frame's bytes on RXD, from SYNC to SUM, do what the request's own command does: the receiver's
assembly fields apart, the state is the same (R150 to R152; the model's form of a request, log entry 7). -/
def Obligations.FrameBytesTakeTheRequest : Prop :=
  ∀ (s : State) (q : ReqKind) (r : Request), s.link.rx = .hunting → r.payload.length ≤ 255 →
    ∃ u, exec (q.command r) s = .next u ∧
      let v := s.afterBytes (q.frame s.link.unit r)
      u = { v with link := { v.link with
        assembly := u.link.assembly, count := u.link.count, sum := u.link.sum, gap := u.link.gap } }

/-- A request's command, whatever its kind: lost while the link is CLOSED (R149), OVERRUN while a reply is
sent (R151), answered by one result byte alone where a frame-level check fails (R152). -/
def Obligations.RequestsMeetTheFrameChecks : Prop :=
  ∀ (s : State) (q : ReqKind) (r : Request), ∃ t, exec (q.command r) s = .next t ∧
    (s.link.rx = .closed → s.nothingMoves t) ∧
    (s.link.rx ≠ .closed → s.link.sending = true →
      s.onlyLink { s.link with partEvents := maskAdd s.link.partEvents 6 } t) ∧
    ∀ f : Result, s.listening → q.answerTo r = some f →
      s.onlyLink (s.link.answered q r [f.code]) t

/-- A byte that does not complete a frame moves the receiver alone (R149, R150). That the assembly fields
keep what they last held until SYNC begins the next frame is log entry 21. -/
def Obligations.ReceivedBytesMoveTheReceiver : Prop :=
  ∀ (s : State) (b : Byte), ¬ s.link.completes → ∃ t, exec (.receivedByte b) s = .next t ∧
    s.partKept t ∧ s.cavitiesKept t ∧ t.AttnLaw ∧
    s.link.byteTaken b { t.link with attn := s.link.attn }

/-- R151, R152: the byte that completes a frame has it judged, and an accepted frame is taken whole. That the
assembly buffer, byte count and running sum keep the judged frame's last values is log entry 21. -/
def Obligations.CompleteFramesAreJudged : Prop :=
  ∀ (s : State) (b : Byte), s.LinkLaw → s.link.completes →
    ∃ t, exec (.receivedByte b) s = .next t ∧ s.frameJudged b t

/-- The link opens once every other step of start-up is done (R149, R65; how the state shows that is log
entry 10), the gap timer cuts a frame in ASSEMBLING (R150), and
a reply's end makes the transmitter IDLE (R151); in every other state these three change nothing (log entry
6). That a cut frame leaves the assembly buffer, count and sum as they stand, and a reply's end the reply
buffer, is log entry 21. -/
def Obligations.LinkOpensCutsAndEndsReplies : Prop :=
  ∀ s : State,
    (∃ t, exec .linkOpen s = .next t ∧
      if s.mayOpenLink then
        s.onlyLink { s.link with rx := .hunting, partEvents := maskAdd s.link.partEvents 0 } t
      else s.nothingMoves t) ∧
    (∃ t, exec .frameCut s = .next t ∧
      if s.link.rx = .assembling then
        s.onlyLink { s.link with rx := .hunting, gap := ⟨.stopped, 0⟩,
                                 partEvents := maskAdd s.link.partEvents 4 } t
      else s.nothingMoves t) ∧
    (s.link.restarting = false ∨ s.link.sending = false → ∀ inp : StartInputs,
      ∃ t, exec (.replyEnd inp) s = .next t ∧
        if s.link.sending then s.onlyLink { s.link with sending := false } t else s.nothingMoves t)

/-- Start-up sets every record from the straps, the switches and the one-time store, whatever came before;
the end of a RESTART's reply begins the same start-up on the straps and switches as they stand then (R159;
that the RESTART is remembered until the reply ends is log entry 9), and a fitted cavity then has its
recovery still to come (log entry 11). The answer tag and the time left of a stopped timer at start-up are
log entry 3, and the entry count and patch end at a corrupt tag log entry 23. -/
def Obligations.StartUpSetsEveryRecord : Prop :=
  ∀ (s : State) (inp : StartInputs),
    (∃ t, exec (.startUp inp) s = .next t ∧ s.startedUp inp t) ∧
    (s.link.sending = true → s.link.restarting = true →
      ∃ t, exec (.replyEnd inp) s = .next t ∧ s.startedUp inp t)

/-- RESTART is taken while every fitted cavity is IDLE or FAULTED, and nothing else changes in its acceptance
(R159; that it is remembered until the reply ends is log entry 9). -/
def Obligations.RestartWaitsForItsReply : Prop :=
  ∀ (s : State) (r : Request), s.takes .restart r →
    ∃ t, exec (.restart r) s = .next t ∧ s.restartTaken r t

/-! ## The orders of a cavity -/

/-- R6, and the start that follows its checks (R7, R108): LOCKING with the start segment, and a LOCK drive
from OPEN. -/
def Obligations.CleanStartChecksAndLocks : Prop :=
  ∀ (s : State) (r : Request), s.takes .cleanStart r →
    ∃ t, exec (.cleanStart r) s = .next t ∧
      let index (c : CavNo) : Nat := (at8 (groupOf r 1 c) 0).toNat
      s.ordersTaken .cleanStart r
        (fun c => s.ifFittedResult c (startResult (s.env c) (index c) (s.cav c)))
        (fun c => startEffect (s.env c) (index c) (s.cav c)) t

/-- CLEAN HOLD, CLEAN RESUME and CLEAN ABANDON, by the table of R5 and the rules R8, R9, R10 and R23.
That the retry leg which an abandon turns into a RELEASE drive goes on without a look at its end switch is
log entry 15, and that a closing bolt is turned only after the release check, even where it still stands at
the open end, log entry 13. -/
def Obligations.HoldResumeAndAbandonMoveTheCycle : Prop :=
  ∀ (s : State) (r : Request),
    (s.takes .cleanHold r → ∃ t, exec (.cleanHold r) s = .next t ∧
      s.ordersTaken .cleanHold r (fun c => s.ifFittedResult c (holdResult (s.cav c)))
        (fun c => holdEffect (s.env c) (s.cav c)) t) ∧
    (s.takes .cleanResume r → ∃ t, exec (.cleanResume r) s = .next t ∧
      s.ordersTaken .cleanResume r (fun c => s.ifFittedResult c (resumeResult (s.cav c)))
        (fun c => resumeEffect (s.env c) (s.cav c)) t) ∧
    (s.takes .cleanAbandon r → ∃ t, exec (.cleanAbandon r) s = .next t ∧
      s.ordersTaken .cleanAbandon r (fun c => s.ifFittedResult c (abandonResult (s.cav c)))
        (fun c => abandonEffect (s.env c) (s.cav c)) t)

/-- R11, and what a COOK SET that passes writes and sheds (R12). -/
def Obligations.CookSetHoldsAndStores : Prop :=
  ∀ (s : State) (r : Request), s.takes .cookSet r →
    ∃ t, exec (.cookSet r) s = .next t ∧
      let setpoint (c : CavNo) : Int := (at16 (groupOf r 3 c) 0).toInt
      let elems (c : CavNo) : Nat := (at8 (groupOf r 3 c) 2).toNat
      s.ordersTaken .cookSet r
        (fun c => s.ifFittedResult c (cookResult (s.env c) (setpoint c) (elems c) (s.cav c)))
        (fun c => cookEffect (s.env c) (setpoint c) (elems c) (s.cav c)) t

/-- R13: COOK OFF takes COOKING to IDLE and leaves IDLE as it is. A condition present that trips in IDLE
trips the cavity there (R137). -/
def Obligations.CookOffEndsCooking : Prop :=
  ∀ (s : State) (r : Request), s.takes .cookOff r →
    ∃ t, exec (.cookOff r) s = .next t ∧
      s.ordersTaken .cookOff r (fun c => s.ifFittedResult c (offResult (s.cav c)))
        (fun c => offEffect (s.env c) (s.cav c)) t

/-- R156: EVENTS ACK and PART EVENTS ACK remove the named events and nothing else. -/
def Obligations.EventAcksRemoveTheNamedEvents : Prop :=
  ∀ (s : State) (r : Request),
    (s.takes .eventsAck r → ∃ t, exec (.eventsAck r) s = .next t ∧
      s.ordersTaken .eventsAck r
        (fun c => s.ifFittedResult c (eventsAckResult (at8 (groupOf r 1 c) 0)))
        (fun c => eventsAckEffect (at8 (groupOf r 1 c) 0) (s.cav c)) t) ∧
    (s.takes .partEventsAck r → ∃ t, exec (.partEventsAck r) s = .next t ∧ s.partEventsAckTaken r t)

/-- R146: CONDITIONS ACK removes from the conditions seen the named ones that are not present. -/
def Obligations.ConditionsAckKeepsThePresent : Prop :=
  ∀ (s : State) (r : Request), s.takes .conditionsAck r →
    ∃ t, exec (.conditionsAck r) s = .next t ∧
      s.ordersTaken .conditionsAck r
        (fun c => s.ifFittedResult c (conditionsAckResult (at16 (groupOf r 2 c) 0)))
        (fun c => conditionsAckEffect (at16 (groupOf r 2 c) 0) (s.cav c)) t

/-- R143, and what a FAULT CLEAR that passes does with the trip record and the lock (R144). -/
def Obligations.FaultClearChecksAndReleases : Prop :=
  ∀ (s : State) (r : Request), s.takes .faultClear r →
    ∃ t, exec (.faultClear r) s = .next t ∧
      s.ordersTaken .faultClear r
        (fun c => s.ifFittedResult c (clearResult (s.env c) (s.cav c)))
        (fun c => clearEffect (s.env c) (s.cav c)) t

/-- R95: a lend below the budget in force brings the window within it by the walk from the last ranked
channel, and BUDGET LEND stores and answers as R94 gives. -/
def Obligations.BudgetLendShedsFromTheLastRanked : Prop :=
  ∀ (s : State) (r : Request), s.takes .budgetLend r → s.BudgetLaw →
    ∃ t, exec (.budgetLend r) s = .next t ∧ s.budgetLendTaken r t

/-! ## The looks -/

/-- CAVITY STATUS reports every selected cavity as it stands and removes the events it has reported under
READ CLEARS (R153, R155). -/
def Obligations.CavityStatusReportsASnapshot : Prop :=
  ∀ (s : State) (r : Request), s.takes .cavityStatus r →
    ∃ t, exec (.cavityStatus r) s = .next t ∧ s.cavityStatusTaken r t

/-- R148: TRIP RECORD reports the record as it stands and changes nothing. -/
def Obligations.TripRecordIsReportedUnchanged : Prop :=
  ∀ (s : State) (r : Request), s.takes .tripRecord r →
    ∃ t, exec (.tripRecord r) s = .next t ∧ s.tripRecordTaken r t

/-- WINDOW STATUS and PART STATUS report the part as it stands (R100, R155). -/
def Obligations.WindowAndPartStatusReportThePart : Prop :=
  ∀ (s : State) (r : Request),
    (s.takes .windowStatus r →
      ∃ t, exec (.windowStatus r) s = .next t ∧ s.windowStatusTaken r t) ∧
    (s.takes .partStatus r → ∃ t, exec (.partStatus r) s = .next t ∧ s.partStatusTaken r t)

/-! ## Settings and segments -/

/-- SETTING READ answers the values in force of a defined run, or BAD ARGUMENT with a count of 0 (R161). -/
def Obligations.SettingReadAnswersTheRun : Prop :=
  ∀ (s : State) (r : Request), s.takes .settingRead r →
    ∃ t, exec (.settingRead r) s = .next t ∧ s.settingReadTaken r t

/-- R163: one value written to pages 0 to 5 is refused, held in range and within its bound, or stored as
written; an address that these pages do not define is a BAD ARGUMENT. -/
def Obligations.SettingWriteHoldsOneValue : Prop :=
  ∀ (s : State) (r : Request), s.takes .settingWrite r → r.payload.length = 4 →
    let page := (at8 r.payload 0).toNat
    let idx := (at8 r.payload 1).toNat
    page ≤ 5 → ∃ t, exec (.settingWrite r) s = .next t ∧
      (∀ id ∈ settingAddr page idx, s.valueWritten r id (at16 r.payload 2) t) ∧
      (addrDefined page idx = false →
        s.onlyLink (s.link.answered .settingWrite r [Result.badArgument.code, 0]) t)

/-- What a stored value does at once, setting by setting (R4, R97, R106, R138, R165, R166). That the lock of
a cavity made unfitted takes the state of its switches at once is log entry 12, the order of the causes of
several enables turned on together log entry 17, and that a RELEASE needs no check where the bolt stands at
the open end (a stopped drive's cavity may send one) log entry 13. -/
def Obligations.StoredSettingsActAtOnce : Prop :=
  ∀ (s : State) (r : Request) (id : SettingId), s.takes .settingWrite r → r.payload.length = 4 →
    settingAddr (at8 r.payload 0).toNat (at8 r.payload 1).toNat = some id →
    (s.valueResult id (at16 r.payload 2)).refusal = false → s.BudgetLaw →
    ∃ t, exec (.settingWrite r) s = .next t ∧ s.actsAtOnce id t

/-- R162: a write of several values is the write of its first value and then, where that was not refused,
the write of the rest from the next index on, in one event: the worst result met and the sum of the
counts. -/
def Obligations.SettingWriteGoesValueByValue : Prop :=
  ∀ (s : State) (r : Request) (page idx hi lo : Byte) (rest : List Byte), s.takes .settingWrite r →
    r.payload = [page, idx, hi, lo] ++ rest → rest ≠ [] →
    ∃ (t u : State) (r1 : Result), exec (.settingWrite r) s = .next t ∧
      exec (.settingWrite { r with payload := [page, idx, hi, lo] }) s = .next u ∧
      (if r1.refusal then u.link.payloadSent = [r1.code, 0] ∧ t = u
       else u.link.payloadSent = [r1.code, 1] ∧ ∃ (v : State) (r2 : Result) (n : Byte),
        exec (.settingWrite { r with payload := [page, idx + 1] ++ rest })
          { u with link := { u.link with sending := false } } = .next v ∧
        v.link.payloadSent = [r2.code, n] ∧
        let worst : Result := if r2.refusal then r2
          else if r1 = .clamped ∨ r2 = .clamped then .clamped else .done
        t = { v with link := { v.link with reply := t.link.reply } } ∧
          t.linkIs (v.link.answered .settingWrite r [worst.code, n + 1]))

/-- One value written to a segment page: PROTECTED, BUSY, BAD ARGUMENT or stored, and an index beyond 63 is
a BAD ARGUMENT (R32, R33). A page that is neither a settings page nor a segment page is a BAD ARGUMENT too
(log entry 18). -/
def Obligations.SegmentWriteStoresOneField : Prop :=
  ∀ (s : State) (r : Request), s.takes .settingWrite r → r.payload.length = 4 →
    let page := (at8 r.payload 0).toNat
    let idx := (at8 r.payload 1).toNat
    5 < page → ∃ t, exec (.settingWrite r) s = .next t ∧
      if 8 ≤ page ∧ page ≤ 15 ∧ idx ≤ 63 then
        s.segmentWritten r (8 * (page - 8) + idx / 8) (idx % 8) (at16 r.payload 2).toNat t
      else s.onlyLink (s.link.answered .settingWrite r [Result.badArgument.code, 0]) t

/-! ## The one-time store -/

/-- R170: staging appends, discarding empties, both BUSY during a burn; and nothing is staged after
start-up. -/
def Obligations.StagingAppendsAndDiscards : Prop :=
  ∀ (s : State) (r : Request),
    (s.takes .storeStage r → ∃ t, exec (.storeStage r) s = .next t ∧ s.stageTaken r t) ∧
    (s.takes .storeDiscard r → ∃ t, exec (.storeDiscard r) s = .next t ∧ s.discardTaken r t) ∧
    ∀ inp : StartInputs, ∃ t, exec (.startUp inp) s = .next t ∧ t.store.staging = []

/-- R173: STORE READ answers the bytes as programmed, in every state of the part. -/
def Obligations.StoreReadAnswersTheBytes : Prop :=
  ∀ (s : State) (r : Request), s.takes .storeRead r →
    ∃ t, exec (.storeRead r) s = .next t ∧ s.storeReadTaken r t

/-- The syntax check accepts exactly the byte runs of the patch language's grammar (R168). -/
def Obligations.SyntaxCheckIsTheGrammar : Prop :=
  ∀ bs : List Byte, syntaxOk bs = true ↔
    ∃ codes : List PatchCode, legalFrom none codes ∧ bs = codes.flatMap PatchCode.bytes

/-- R171: STORE BURN makes its checks in order, and a burn that passes programs its entry's tag, offset and
length, the patch, the sum and the seal, in that order. -/
def Obligations.StoreBurnPlansItsBytes : Prop :=
  ∀ (s : State) (r : Request), s.takes .storeBurn r →
    ∃ t, exec (.storeBurn r) s = .next t ∧ s.burnTaken r t

/-- A byte of a burn completes: it alone changes, a match goes on, a mismatch or the seal ends the burn and
reads the index again (R167, R172; a read-back of blank is log entry 19, and what the entry count and the patch end become at a
tag neither blank nor claimed log entry 23). Without a burn in flight the command comes to nothing (log
entry 6). -/
def Obligations.BurnGoesByteByByte : Prop :=
  ∀ (s : State) (readBack : Byte),
    (∀ (a : Nat) (want : Byte) (rest : List Host.Cell), s.store.burn = .burning →
      s.store.burnLeft = (a, want) :: rest →
      ∃ t, exec (.byteProgrammingComplete readBack) s = .next t ∧ s.byteTaken readBack a want rest t) ∧
    (s.store.burn ≠ .burning ∨ s.store.burnLeft = [] →
      ∃ t, exec (.byteProgrammingComplete readBack) s = .next t ∧ s.nothingMoves t)

/-- What a replay comes to is what the rules make of it, entry by entry and code by code: the factory patch
writes every field, segment values are held in range, errors stop their patch and the first is kept (R34,
R168, R169; of a VALUES that runs past its patch no value is taken, log entry 26). So an entry after the
factory patch leaves every protected setting on the safe side of its value before, or equal to it, and an
unsealed entry changes nothing. -/
def Obligations.LaterPatchesOnlyTighten : Prop :=
  (∀ (m : Memory) (count : Nat) (out : Replayed) (err : Option Nat),
    m.ReplaysTo count count out err ↔ m.replay count = (out, err)) ∧
  ∀ (m : Memory) (count k : Nat) (acc : Replayed × Option Nat), k ≠ 0 →
    let after := (m.replayEntry count acc k).1
    (∀ id : SettingId, ∀ d ∈ id.protection,
      d.onSafeSide (after.cfg.get id) (acc.1.cfg.get id) = true) ∧
    (m.read (2042 - 6 * k + 5) ≠ 0x3C → after = acc.1)

/-! ## Samples, marks and recovery -/

/-- Samples move the probe of their cavity by R61 to R65 and the levels by R69 to R71, other cavities and
blocks stay, and an unfitted cavity is not sampled (R60). -/
def Obligations.SamplesMoveTheirProbe : Prop :=
  ∀ (s : State) (c : CavNo) (v : Int),
    (∃ t, exec (.cavitySample c v) s = .next t ∧
      if s.fitted c then s.onlyCavity c t ∧ (s.cav c).cavitySampled (s.env c) v (t.cav c)
      else s.nothingMoves t) ∧
    (∃ t, exec (.doorSample c v) s = .next t ∧
      if s.fitted c then s.onlyCavity c t ∧ (s.cav c).doorSampled (s.env c) v (t.cav c)
      else s.nothingMoves t)

/-- A sample that makes SENSOR, OVERTEMP, DOOR PROBE or DOOR HOT present trips the cavity where the table of
R136 gives a trip for its state (R62, R70, R71, R137). -/
def Obligations.SampleOnsetsTripTheCavity : Prop :=
  ∀ (s : State) (c : CavNo) (v : Int) (x : Condition), s.fitted c = true →
    ((s.cav c).raisedByCavity (s.env c) v = some x → ∃ t, exec (.cavitySample c v) s = .next t ∧
      (s.cav c).raised (s.env c) x (t.cav c)) ∧
    ((s.cav c).raisedByDoor (s.env c) v = some x → ∃ t, exec (.doorSample c v) s = .next t ∧
      (s.cav c).raised (s.env c) x (t.cav c))

/-- An armed detector takes every sample in CLEANING and HELD (R67, R68). With a good one, one that ends a
probe fault among them, a confirmed mark moves the program on as R57 gives, and a cavity that it leaves in
COOLDOWN takes the good sample there (R64); one that is not good empties the far-side count, and with a
fault that begins the trip by SENSOR disarms the detector (R38, R136). -/
def Obligations.MarksAreConfirmedAndMoveTheProgram : Prop :=
  ∀ (s : State) (c : CavNo) (v : Int) (d : Detector),
    ((s.cav c).cc.state = .cleaning ∨ (s.cav c).cc.state = .held) → (s.cav c).prb.mark = some d →
    (s.quietSample c v → ∃ t, exec (.cavitySample c v) s = .next t ∧ s.onlyCavity c t ∧
      (s.cav c).markThenSample (s.env c) v d (t.cav c)) ∧
    (s.fitted c = true → (s.cav c).cc.recovering = false →
      (s.cav c).prb.cavity.goodSample (-400) 6000 v = false →
      ∃ t, exec (.cavitySample c v) s = .next t ∧ s.onlyCavity c t ∧
        (s.cav c).markPutBack (s.env c) v d (t.cav c))

/-- No detector armed: a good sample in COOLDOWN, UNLOCKING and IDLE, one that ends a probe fault among them,
brings RELEASE below the unlock level, or the end of the cycle (R24 to R26); and a sample at which the
release check no longer passes stops a motor that runs toward open in UNKNOWN, which the controller hears
(R64 stage 3, R106). That its RELEASE needs no check where the bolt stands at the open end is log entry 13. -/
def Obligations.GoodSamplesReleaseTheLock : Prop :=
  ∀ (s : State) (c : CavNo) (v : Int), (s.cav c).prb.mark = none →
    (s.quietSample c v →
      ((s.cav c).cc.state = .cooldown ∨ (s.cav c).cc.state = .unlocking ∨ (s.cav c).cc.state = .idle) →
      ∃ t, exec (.cavitySample c v) s = .next t ∧ s.onlyCavity c t ∧
        ((s.cav c).heard v).goodSampleTaken (s.env c) v (t.cav c)) ∧
    (s.fitted c = true → (s.cav c).cc.recovering = false → (s.cav c).cc.state ≠ .faulted →
      (s.cav c).lock.motor = .towardOpen →
      (s.cav c).prb.cavity.faultReported (-400) 6000 v = true ∨
        ((s.cav c).prb.cavity.goodSample (-400) 6000 v = true ∧
          (s.cfg.limits.unlockLevel : Int) ≤ v) →
      ∃ t, exec (.cavitySample c v) s = .next t ∧ s.onlyCavity c t ∧
        (s.cav c).openMotorStopped (s.env c) v (t.cav c))

/-- The third sample after start-up recovers a fitted cavity (R29, R65, R131), where no condition is present
and the sample raises no OVERTEMP. That recovery is remembered as still to come is log entry 11. -/
def Obligations.ThirdSampleRecoversTheCavity : Prop :=
  ∀ (s : State) (c : CavNo) (v : Int), s.fitted c = true → (s.cav c).cc.recovering = true →
    (s.cav c).prb.cavity.taken = 2 → (s.cav c).prb.cavity.fault = true → (s.cav c).cc.state = .idle →
    (s.cav c).cond.present = 0 → (s.cav c).prb.mark = none → (s.cav c).lock.motor ≠ .towardOpen →
    ((s.cav c).lock.state = .opened ∨ (s.cav c).lock.state = .locked ∨ (s.cav c).lock.state = .unknown) →
    v ≤ (s.cfg.limits.cleanCeiling : Int) + s.cfg.limits.overtempMargin →
    ∃ t, exec (.cavitySample c v) s = .next t ∧ s.onlyCavity c t ∧
      (s.cav c).recovers (s.env c) v (t.cav c)

/-! ## The window and the mains -/

/-- A window start while mains is present builds the schedule of R76: voltage (R89), budget, power (R90),
channel demand (R83, R84, R130), ranking (R91), placement (R92) and the relays of slot 0 (R77). Said where no
starvation count can bring a trip; in DROPOUT the command comes to nothing (R75, log entry 6). -/
def Obligations.WindowStartBuildsTheSchedule : Prop :=
  ∀ s : State,
    (s.mains.present = true → s.notStarving → ∃ t, exec .windowStart s = .next t ∧
      s.windowKeeps t ∧ t.linkIs s.link ∧ s.windowBuilt t) ∧
    (s.mains.present = false → ∃ t, exec .windowStart s = .next t ∧ s.nothingMoves t)

/-- A window start does the work of every fitted cavity: counters and limits, SPeff, segment ends and demand
(R20 to R22, R48 to R56, R78 to R81). -/
def Obligations.WindowStartDoesTheCavityWork : Prop :=
  ∀ (s : State) (c : CavNo), s.mains.present = true → s.notStarving → s.fitted c = true →
    ∃ t, exec .windowStart s = .next t ∧ (s.cav c).windowWorked (s.env c) (t.cav c)

/-- A window start moves the starvation count, and STARVED trips a CLEANING cavity at the fortieth short
window in a row where its enable is on, and only there (R98, R99, R136). -/
def Obligations.StarvationCountsShortWindows : Prop :=
  ∀ (s : State) (c : CavNo), s.mains.present = true → s.fitted c = true → s.ConditionLaw → s.TripLaw →
    ∃ t, exec .windowStart s = .next t ∧ (s.cav c).starvationMoved (s.env c) (t.cav c)

/-- R40, R42 and R44, with the other rules of a resolution: what a resolution makes of an index and a stack
is the walk that the rules describe, pass by pass, and nothing else. -/
def Obligations.ResolutionIsTheWalkOfTheRules : Prop :=
  ∀ (g : SegStore) (i : Nat) (stack : List Nat) (r : Resolution),
    Walk g 0 i stack r ↔ r = resolve g 6 i stack

/-- A slot boundary begins the next slot and sets every relay for it (R75, R77); where none can arise it
comes to nothing (log entry 6). -/
def Obligations.SlotBoundariesSetTheRelays : Prop :=
  ∀ s : State, ∃ t, exec .slotBoundary s = .next t ∧
    (∀ k : Nat, s.sched.slot = some k → s.mains.present = true → k + 1 < 30 → s.slotBegun (k + 1) t) ∧
    (s.sched.slot = none ∨ s.mains.present = false ∨ s.sched.slot = some 29 → s.nothingMoves t)

/-- R86, and the return of R88 with what it tells the lock drives (R122): crossings restart the crossing
timer and begin a return run where none runs, readings join the ring in PRESENT, and in DROPOUT the reading
that finds the run a second old is the return, whose window is built and whose cavity work is done as a
window start does them. A cycle's end is itself a crossing. That the run's length is held and grows by the
model's clock is log entry 8, and that a RELEASE which a drive stopped at the return brings needs no check
where the bolt stands at the open end log entry 13. -/
def Obligations.CrossingsAndReadingsReachTheMainsMonitor : Prop :=
  ∀ s : State,
    (∃ t, exec .zeroCrossing s = .next t ∧
      s.onlyMains s.mains.crossed t) ∧
    ∀ volts : Nat, ∃ t, exec (.cycleReading volts) s = .next t ∧
      (s.mains.present = true →
        s.onlyMains { s.mains.crossed with ring := joined s.mains.ring volts } t) ∧
      (s.mains.present = false → (∀ ms ∈ s.mains.run, ms < 1000) → s.onlyMains s.mains.crossed t) ∧
      (s.mains.present = false → (∃ ms ∈ s.mains.run, 1000 ≤ ms) → s.LockLaw → s.DoorLaw →
        (∀ c : CavNo, (s.cav c).lock.mains = false) → s.mainsReturned volts t)

/-- A dropout abandons the window, opens every relay and pauses the lock drives (R87, R121); in DROPOUT the
crossing timer's expiry only ends a return run (R88). -/
def Obligations.DropoutAbandonsTheWindow : Prop :=
  ∀ s : State, ∃ t, exec .dropout s = .next t ∧
    if s.mains.present then s.droppedOut t
    else s.onlyMains { s.mains with crossing := ⟨.stopped, 0⟩, run := none } t

/-! ## Locks, doors and fans -/

/-- A change of an end switch: a contradiction, the end of a leg, a lost end, or a record alone (R102, R111,
R116, R117); at an unfitted cavity the lock follows (R123). That a position already recorded is no change is
log entry 6, that a contradiction which ends by the other switch falling ends no leg log entry 16, and that
a RELEASE which a report brings needs no check where the bolt stands at the open end log entry 13. -/
def Obligations.LockSwitchesMoveTheLock : Prop :=
  ∀ (s : State) (c : CavNo) (sw : EndSwitch) (active : Bool),
    ∃ t, exec (.lockSwitchChange c sw active) s = .next t ∧ s.onlyCavity c t ∧
      if s.fitted c then (s.cav c).switchTaken (s.env c) sw active (t.cav c)
      else t.cav c = (s.cav c).switchFollowed sw active

/-- A change of the door switch: opening across a closing bolt turns the drive or jams it, opening past a
thrown bolt is DOOR FORCED, and every other change is recorded (R114, R115). That the turned drive is at
rest at once where the bolt stands at the open end, and what the controller then hears, is log entry 14.
That the turn makes its release check there too, while the RELEASE that a jam brings needs none there, is
log entry 13. -/
def Obligations.DoorSwitchesTurnTheDrive : Prop :=
  ∀ (s : State) (c : CavNo) (closed : Bool),
    ∃ t, exec (.doorSwitchChange c closed) s = .next t ∧ s.onlyCavity c t ∧
      if s.fitted c then (s.cav c).doorTaken (s.env c) closed (t.cav c)
      else t.cav c = { s.cav c with lock := { (s.cav c).lock with doorClosed := closed } }

/-- R112 and R113: the first leg's timeout begins the retry leg where it may, any other jams the lock. An
expiry with no leg timed comes to nothing (log entry 6), and the RELEASE that a report brings needs no check
where the bolt stands at the open end (log entry 13). -/
def Obligations.TravelTimeoutsRetryOrJam : Prop :=
  ∀ (s : State) (c : CavNo), ∃ t, exec (.travelTimeout c) s = .next t ∧
    if s.fitted c then s.onlyCavity c t ∧ (s.cav c).timedOut (s.env c) (t.cav c)
    else s.nothingMoves t

/-- The level review of every fitted cavity (R126), a tach pulse and a tach timer's expiry (R128, R129). That
an expiry of a tach timer in STOPPED, and a pulse or an expiry at an unfitted cavity, come to nothing is log
entry 6. -/
def Obligations.FanEventsFollowTheRules : Prop :=
  ∀ s : State,
    (∃ t, exec .levelReview s = .next t ∧ t.cfg = s.cfg ∧ t.bounds = s.bounds ∧ t.segs = s.segs ∧
      t.sched = s.sched ∧ t.mains = s.mains ∧ t.store = s.store ∧ t.pending = s.pending ∧
      t.review = ⟨.running, 1000⟩ ∧ t.linkIs s.link ∧
      ∀ c : CavNo, if s.fitted c then (s.cav c).reviewed (s.env c) (t.cav c) else t.cav c = s.cav c) ∧
    ∀ c : CavNo,
      (∃ t, exec (.tachPulse c) s = .next t ∧
        if s.fitted c then s.onlyCavity c t ∧ (s.cav c).pulsed (t.cav c) else s.nothingMoves t) ∧
      (∃ t, exec (.tachTimerExpiry c) s = .next t ∧
        if s.fitted c then s.onlyCavity c t ∧ (s.cav c).tachExpired (s.env c) (t.cav c)
        else s.nothingMoves t)

/-! ## Trips -/

/-- Whatever command trips a cavity, the trip does its nine actions (R139) and writes its record (R140), for
a cause that the table of R136 lets trip the state before; and a trip that neither a sample nor a switch
brings leaves the probes, the switches and the conditions seen. -/
def Obligations.TripsDoTheirActions : Prop :=
  ∀ (i : Instr) (s t : State) (c : CavNo), exec i s = .next t → s.LockLaw → s.HeatLaw →
    (∀ d : CavNo, (s.cav d).presentSeen) → (s.cav c).cc.state ≠ .faulted →
    (t.cav c).cc.state = .faulted →
    (t.cav c).toldByTrip (t.cfg.page c) t.sched.slot ∧
      ((∀ (d : CavNo) (v : Int), i ≠ .cavitySample d v ∧ i ≠ .doorSample d v) →
        (∀ (d : CavNo) (sw : EndSwitch) (b : Bool),
          i ≠ .lockSwitchChange d sw b ∧ i ≠ .doorSwitchChange d b) →
        (s.cav c).tripSpares (t.cav c))

/-- Once written, a trip record's fields stand until FAULT CLEAR or start-up; its later causes alone grow
(R140 to R142). Said of every command but the four that can carry a FAULT CLEAR or a start-up. -/
def Obligations.TripRecordStandsUntilCleared : Prop :=
  ∀ (i : Instr) (s t : State) (c : CavNo), exec i s = .next t → s.TripLaw →
    (s.cav c).cc.state = .faulted → (∀ r : Request, i ≠ .faultClear r) →
    (∀ inp : StartInputs, i ≠ .startUp inp ∧ i ≠ .replyEnd inp) → (∀ b : Byte, i ≠ .receivedByte b) →
    (s.cav c).faultStands (t.cav c)
end

