-- ==== Sys2Proof/Laws/State.lean ====
section
/-! SUPPORT. The small lemmas of the state: what reading a field gives after an update, each true by
computation, so that no later proof unfolds a record update. -/

namespace Sys2Proof.Machine

/-! ## A cavity's record replaced -/

section SetCav
variable (s : State) (c : CavNo) (k : Cavity)

@[simp] theorem State.setCav_cfg : (s.setCav c k).cfg = s.cfg := by
  revert c; rintro ⟨_ | _ | _ | n, h⟩ <;> first | rfl | omega
@[simp] theorem State.setCav_bounds : (s.setCav c k).bounds = s.bounds := by
  revert c; rintro ⟨_ | _ | _ | n, h⟩ <;> first | rfl | omega
@[simp] theorem State.setCav_segs : (s.setCav c k).segs = s.segs := by
  revert c; rintro ⟨_ | _ | _ | n, h⟩ <;> first | rfl | omega
@[simp] theorem State.setCav_sched : (s.setCav c k).sched = s.sched := by
  revert c; rintro ⟨_ | _ | _ | n, h⟩ <;> first | rfl | omega
@[simp] theorem State.setCav_mains : (s.setCav c k).mains = s.mains := by
  revert c; rintro ⟨_ | _ | _ | n, h⟩ <;> first | rfl | omega
@[simp] theorem State.setCav_review : (s.setCav c k).review = s.review := by
  revert c; rintro ⟨_ | _ | _ | n, h⟩ <;> first | rfl | omega
@[simp] theorem State.setCav_link : (s.setCav c k).link = s.link := by
  revert c; rintro ⟨_ | _ | _ | n, h⟩ <;> first | rfl | omega
@[simp] theorem State.setCav_store : (s.setCav c k).store = s.store := by
  revert c; rintro ⟨_ | _ | _ | n, h⟩ <;> first | rfl | omega
@[simp] theorem State.setCav_pending : (s.setCav c k).pending = s.pending := by
  revert c; rintro ⟨_ | _ | _ | n, h⟩ <;> first | rfl | omega
@[simp] theorem State.setCav_fitted (d : CavNo) : (s.setCav c k).fitted d = s.fitted d := by
  simp [State.fitted]
@[simp] theorem State.setCav_env (d : CavNo) : (s.setCav c k).env d = s.env d := by
  simp [State.env]
@[simp] theorem State.cav_setCav_same : (s.setCav c k).cav c = k := by
  revert c; rintro ⟨_ | _ | _ | n, h⟩ <;> first | rfl | omega
@[simp] theorem State.setCav_self : s.setCav c (s.cav c) = s := by
  revert c; rintro ⟨_ | _ | _ | n, h⟩ <;> first | rfl | omega

theorem State.cav_setCav_other {d : CavNo} (h : d ≠ c) : (s.setCav c k).cav d = s.cav d := by
  revert c d
  rintro ⟨_ | _ | _ | n, hc⟩ ⟨_ | _ | _ | m, hd⟩ h <;> first | rfl | omega | exact absurd rfl h

end SetCav

/-! ## ATTN decided (R158) and the part events -/

section DecideAttn
variable (s : State)

@[simp] theorem State.decideAttn_cfg : s.decideAttn.cfg = s.cfg := rfl
@[simp] theorem State.decideAttn_bounds : s.decideAttn.bounds = s.bounds := rfl
@[simp] theorem State.decideAttn_segs : s.decideAttn.segs = s.segs := rfl
@[simp] theorem State.decideAttn_sched : s.decideAttn.sched = s.sched := rfl
@[simp] theorem State.decideAttn_mains : s.decideAttn.mains = s.mains := rfl
@[simp] theorem State.decideAttn_review : s.decideAttn.review = s.review := rfl
@[simp] theorem State.decideAttn_store : s.decideAttn.store = s.store := rfl
@[simp] theorem State.decideAttn_pending : s.decideAttn.pending = s.pending := rfl
@[simp] theorem State.decideAttn_cav (c : CavNo) : s.decideAttn.cav c = s.cav c := by
  revert c; rintro ⟨_ | _ | _ | n, h⟩ <;> first | rfl | omega
@[simp] theorem State.decideAttn_attn : s.decideAttn.link.attn = s.attnWanted := rfl
theorem State.decideAttn_link : s.decideAttn.link = { s.link with attn := s.attnWanted } := rfl

@[simp] theorem State.setPartEvent_cfg (e : PartEvent) : (s.setPartEvent e).cfg = s.cfg := rfl
@[simp] theorem State.setPartEvent_sched (e : PartEvent) : (s.setPartEvent e).sched = s.sched := rfl
@[simp] theorem State.setPartEvent_mains (e : PartEvent) : (s.setPartEvent e).mains = s.mains := rfl
@[simp] theorem State.setPartEvent_store (e : PartEvent) : (s.setPartEvent e).store = s.store := rfl
@[simp] theorem State.setPartEvent_pending (e : PartEvent) :
    (s.setPartEvent e).pending = s.pending := rfl
@[simp] theorem State.setPartEvent_partEvents (e : PartEvent) :
    (s.setPartEvent e).link.partEvents = maskAdd s.link.partEvents e.bit := rfl

/-- The next state of a command is the state with ATTN decided. -/
theorem State.settled_eq : s.settled = .next s.decideAttn := rfl

end DecideAttn

/-! ## Channels -/

section Channels
variable (k : Cavity) (ch : Channel)

@[simp] theorem Cavity.setChannel_cc (p : Position) : (k.setChannel p ch).cc = k.cc := by
  cases p <;> rfl
@[simp] theorem Cavity.setChannel_prb (p : Position) : (k.setChannel p ch).prb = k.prb := by
  cases p <;> rfl
@[simp] theorem Cavity.setChannel_lock (p : Position) : (k.setChannel p ch).lock = k.lock := by
  cases p <;> rfl
@[simp] theorem Cavity.setChannel_fan (p : Position) : (k.setChannel p ch).fan = k.fan := by
  cases p <;> rfl
@[simp] theorem Cavity.setChannel_cond (p : Position) : (k.setChannel p ch).cond = k.cond := by
  cases p <;> rfl
@[simp] theorem Cavity.setChannel_starve (p : Position) : (k.setChannel p ch).starve = k.starve := by
  cases p <;> rfl
@[simp] theorem Cavity.channel_setChannel_same (p : Position) : (k.setChannel p ch).channel p = ch := by
  cases p <;> rfl
theorem Cavity.channel_setChannel_other {p q : Position} (h : q ≠ p) :
    (k.setChannel p ch).channel q = k.channel q := by
  cases p <;> cases q <;> first | rfl | exact absurd rfl h

@[simp] theorem Cavity.mapChannels_cc (f : Position → Channel → Channel) :
    (k.mapChannels f).cc = k.cc := rfl
@[simp] theorem Cavity.mapChannels_prb (f : Position → Channel → Channel) :
    (k.mapChannels f).prb = k.prb := rfl
@[simp] theorem Cavity.mapChannels_lock (f : Position → Channel → Channel) :
    (k.mapChannels f).lock = k.lock := rfl
@[simp] theorem Cavity.mapChannels_fan (f : Position → Channel → Channel) :
    (k.mapChannels f).fan = k.fan := rfl
@[simp] theorem Cavity.mapChannels_cond (f : Position → Channel → Channel) :
    (k.mapChannels f).cond = k.cond := rfl
@[simp] theorem Cavity.mapChannels_starve (f : Position → Channel → Channel) :
    (k.mapChannels f).starve = k.starve := rfl
@[simp] theorem Cavity.channel_mapChannels (f : Position → Channel → Channel) (p : Position) :
    (k.mapChannels f).channel p = f p (k.channel p) := by
  cases p <;> rfl

/-- A shed channel holds no placement in the current or a later slot. -/
@[simp] theorem Channel.holdsFrom_shedFrom (slot : Option Nat) :
    (ch.shedFrom slot).holdsFrom slot = false := by
  cases slot with
  | none => rfl
  | some j =>
    by_cases h : (ch.placements.any fun i => decide (j ≤ i)) = true
    · simp [Channel.shedFrom, Channel.holdsFrom, h]
    · simpa [Channel.shedFrom, Channel.holdsFrom, h] using h

/-- A channel that holds no placement in the current or a later slot is not changed by a shed (R93). -/
theorem Channel.shedFrom_of_not_holdsFrom {slot : Option Nat} (h : ch.holdsFrom slot = false) :
    ch.shedFrom slot = ch := by
  cases slot with
  | none => rfl
  | some j => simp only [Channel.holdsFrom] at h; simp [Channel.shedFrom, h]

end Channels

/-! ## Masks -/

@[simp] theorem maskHas_maskAdd {w : Nat} (m : BitVec w) {i : Nat} (h : i < w) (j : Nat) :
    maskHas (maskAdd m i) j = (maskHas m j || decide (j = i)) := by
  simp only [maskHas, maskAdd, BitVec.getLsbD_or, BitVec.getLsbD_twoPow]
  by_cases hj : j = i
  · simp [hj, h]
  · simp [hj, Ne.symm hj]

@[simp] theorem maskHas_maskDel {w : Nat} (m : BitVec w) (i j : Nat) :
    maskHas (maskDel m i) j = (maskHas m j && decide (j ≠ i)) := by
  simp only [maskHas, maskDel, BitVec.getLsbD_and, BitVec.getLsbD_not, BitVec.getLsbD_twoPow]
  by_cases hw : j < w
  · by_cases hj : j = i
    · simp [hj]
    · simp [hj, hw, Ne.symm hj]
  · simp [hw, BitVec.getLsbD_of_ge m j (by omega)]

@[simp] theorem maskHas_maskMinus {w : Nat} (m d : BitVec w) (j : Nat) :
    maskHas (maskMinus m d) j = (maskHas m j && !maskHas d j) := by
  simp only [maskHas, maskMinus, BitVec.getLsbD_and, BitVec.getLsbD_not]
  by_cases hw : j < w
  · simp [hw]
  · simp [hw, BitVec.getLsbD_of_ge m j (by omega)]

end Sys2Proof.Machine
end

