-- ==== Sys2Proof/Laws/Cavity.lean ====
section
/-! SUPPORT. The shared operations on one cavity: the fan decision, the entry of a state, the trip, the
decisions of the condition monitor, and the lock drive at rest and under way. -/

namespace Sys2Proof.Machine

/-! ## The fan decision (R125, R128) -/

section DecideFan
variable (k : Cavity)

@[simp] theorem Cavity.decideFan_cc : k.decideFan.cc = k.cc := rfl
@[simp] theorem Cavity.decideFan_prb : k.decideFan.prb = k.prb := rfl
@[simp] theorem Cavity.decideFan_lock : k.decideFan.lock = k.lock := rfl
@[simp] theorem Cavity.decideFan_starve : k.decideFan.starve = k.starve := rfl
@[simp] theorem Cavity.decideFan_channel (p : Position) : k.decideFan.channel p = k.channel p := by
  cases p <;> rfl
@[simp] theorem Cavity.decideFan_seen : k.decideFan.cond.seen = k.cond.seen := by
  simp only [Cavity.decideFan]; split <;> rfl
@[simp] theorem Cavity.decideFan_trip : k.decideFan.cond.trip = k.cond.trip := by
  simp only [Cavity.decideFan]; split <;> rfl

/-- A command taken: the command itself, with the views, the flags and the idle speed as they were. -/
theorem Fan.take_keeps (f : Fan) (cmd : FanSpeed) :
    (f.take cmd).command = cmd ∧ (f.take cmd).idleLow = f.idleLow ∧
      (f.take cmd).probeView = f.probeView ∧ (f.take cmd).warmView = f.warmView ∧
      (f.take cmd).segFlag = f.segFlag ∧ (f.take cmd).pulseSeen = f.pulseSeen ∧
      (f.take cmd).catalyst = f.catalyst := by
  unfold Fan.take
  split
  · simp_all
  · split
    · simp_all
    · split <;> simp_all

/-- The model's policy is the table of R125. -/
theorem Fan.wanted_eq (f : Fan) (st : CavState) :
    f.wanted st = fanPolicy st f.probeView f.warmView f.segFlag f.idleLow := by
  unfold Fan.wanted fanPolicy
  cases st <;> cases f.probeView <;> cases f.warmView <;> cases f.segFlag <;> cases f.idleLow <;> rfl

/-- The drive after its decision stands at the policy's command. -/
theorem Cavity.decideFan_command : k.decideFan.fan.command =
    fanPolicy k.cc.state k.fan.probeView k.fan.warmView k.fan.segFlag k.fan.idleLow := by
  rw [← Fan.wanted_eq]
  exact (Fan.take_keeps _ _).1

end DecideFan

/-! ## The entry of a state (R2, R3, R99, R130) -/

section EnterState
variable (e : Env) (st : CavState) (k : Cavity)

@[simp] theorem Cavity.enterState_cc : (k.enterState e st).cc = k.cc.enter st := rfl
@[simp] theorem Cavity.enterState_state : (k.enterState e st).cc.state = st := rfl
@[simp] theorem Cavity.enterState_prb : (k.enterState e st).prb = k.prb := rfl
@[simp] theorem Cavity.enterState_lock : (k.enterState e st).lock = k.lock := rfl
@[simp] theorem Cavity.enterState_starve :
    (k.enterState e st).starve = if st.keepsStarve then k.starve else 0 := rfl
@[simp] theorem Cavity.enterState_channel (p : Position) :
    (k.enterState e st).channel p =
      if st.allows p then k.channel p else (k.channel p).shedFrom e.slot := by
  cases p <;> simp only [Cavity.enterState, Cavity.decideFan_channel] <;>
    cases h : st.allows _ <;> simp_all [Cavity.shedWhere, Cavity.mapChannels, Cavity.channel]
@[simp] theorem Cavity.enterState_seen : (k.enterState e st).cond.seen = k.cond.seen := by
  simp only [Cavity.enterState, Cavity.decideFan_seen]; split <;> rfl
@[simp] theorem Cavity.enterState_trip : (k.enterState e st).cond.trip = k.cond.trip := by
  simp only [Cavity.enterState, Cavity.decideFan_trip]; split <;> rfl

/-- No channel that the entered state does not allow holds a remaining slot. -/
theorem Cavity.enterState_sheds (p : Position) (h : st.allows p = false) :
    ((k.enterState e st).channel p).holdsFrom e.slot = false := by
  simp [h]

/-- The catalyst command is on after an entry only in CLEANING. -/
theorem Cavity.enterState_catalyst (h : (k.enterState e st).fan.catalyst = true) : st = .cleaning := by
  simp only [Cavity.enterState, Cavity.decideFan] at h
  rw [(Fan.take_keeps _ _).2.2.2.2.2.2] at h
  simp_all

end EnterState

/-! ## The decisions of the condition monitor (R136, R137, R142) -/

section Decisions
variable (e : Env) (k : Cavity)

/-- The model's cell of the table of R136, for a condition and a state. -/
theorem CavState.trips_eq (p : CavityPage) (st : CavState) (c : Condition) :
    st.trips p c = tripsIn p st c := by
  cases st <;> cases c <;> rfl

/-- A condition judged: a later cause in FAULTED, a trip where the table gives one, and otherwise
nothing. -/
theorem Cavity.judge_cases (c : Condition) :
    (k.cc.state = .faulted ∧ (k.judge e c).cc = k.cc ∧ (k.judge e c).cond.present = k.cond.present) ∨
      (k.cc.state ≠ .faulted ∧ tripsIn e.page k.cc.state c = true ∧ k.judge e c = k.trip e c 0) ∨
      (k.cc.state ≠ .faulted ∧ tripsIn e.page k.cc.state c = false ∧ k.judge e c = k) := by
  unfold Cavity.judge
  by_cases hf : k.cc.state = .faulted
  · refine .inl ⟨hf, ?_⟩
    rw [if_pos hf]
    split <;> exact ⟨rfl, rfl⟩
  · rw [if_neg hf, CavState.trips_eq]
    by_cases ht : tripsIn e.page k.cc.state c = true
    · exact .inr (.inl ⟨hf, ht, if_pos ht⟩)
    · exact .inr (.inr ⟨hf, by simpa using ht, if_neg ht⟩)

/-- The entry of a state decided: nothing where no condition present trips there, and otherwise one trip
with the first cause and the later causes in the order of the table. -/
theorem Cavity.decideEntry_cases :
    (causesIn e.page k.cc.state k.cond.present = [] ∧ k.decideEntry e = k) ∨
      ∃ c rest, causesIn e.page k.cc.state k.cond.present = c :: rest ∧
        k.decideEntry e = k.trip e c (CondSet.ofList rest) := by
  have hcs : (allConditions.filter fun c =>
      true && k.cond.present.has c && k.cc.state.trips e.page c) =
      causesIn e.page k.cc.state k.cond.present := by
    simp [causesIn, CavState.trips_eq]
  unfold Cavity.decideEntry Cavity.decideAmong
  rw [hcs]
  cases h : causesIn e.page k.cc.state k.cond.present with
  | nil => exact .inl ⟨rfl, rfl⟩
  | cons c rest => exact .inr ⟨c, rest, rfl, rfl⟩

/-- A tripped cavity is FAULTED with a record of the state before. -/
@[simp] theorem Cavity.trip_state (c : Condition) (later : CondSet) :
    (k.trip e c later).cc.state = .faulted := by
  unfold Cavity.trip
  dsimp only
  split <;> split <;> rfl

/-- The record of a trip names its causes and the state before. -/
theorem Cavity.trip_record (c : Condition) (later : CondSet) :
    ∃ x, (k.trip e c later).cond.trip = some x ∧ x.first = c ∧ x.later = later ∧
      x.stateBefore = k.cc.state ∧ x.lockState = (k.trip e c later).lock.state := by
  refine ⟨_, rfl, rfl, rfl, rfl, rfl⟩

/-- A trip leaves no lock in travel. -/
theorem Cavity.trip_lock (c : Condition) (later : CondSet) :
    (k.trip e c later).lock = k.lock.takeStop.1 := by
  unfold Cavity.trip
  dsimp only
  split <;> split <;> rfl

end Decisions

/-! ## The lock drive (R101, R103, R104, R110) -/

section LockDrive
variable (l : Lock)

/-- A lock at rest is the resting lock of the statements. -/
theorem Lock.rest_eq (st : LockState) : l.rest st = l.resting st := rfl

/-- A leg begun is the drive under way of the statements. -/
theorem Lock.drive_eq (e : Env) (k : Cavity) (st : LockState) (g : Goal) (attempt : Nat) :
    l.drive (k.lockEnv e) st g attempt = l.underway e st g attempt st.motor := by
  unfold Lock.drive Lock.underway Lock.freshTimer
  cases l.mains <;> rfl

/-- A first or second leg comes to rest at its goal where its end switch stands alone active, and
otherwise is under way; no other record comes of it. -/
theorem Lock.finalLeg_cases (le : LockEnv) (st : LockState) (g : Goal) (attempt : Nat) :
    (l.atEnd st = true ∧ l.finalLeg le st g attempt = l.arrive g) ∨
      (l.atEnd st = false ∧ l.finalLeg le st g attempt = (l.drive le st g attempt, [])) := by
  unfold Lock.finalLeg
  cases h : l.atEnd st
  · exact .inr ⟨rfl, rfl⟩
  · exact .inl ⟨rfl, rfl⟩

/-- After STOP no lock is in travel. -/
theorem Lock.takeStop_rests : l.takeStop.1.state.travelling = false := by
  unfold Lock.takeStop
  cases h : l.state.travelling
  · exact h
  · rfl

/-- A RELEASE whose check fails drives nothing toward open that did not run so before: it changes nothing,
finds a retry leg in OPENING, or comes to rest without the motor where the bolt stands at the open end. -/
theorem Lock.takeRelease_refused (le : LockEnv) (h : le.check = false) :
    l.takeRelease le = (l, []) ∨ (l.state = .opened ∧ l.takeRelease le = (l, [.opened])) ∨
      (l.state = .opening ∧ l.goal = some .locked) ∨
      (l.atEnd .opening = true ∧ (l.takeRelease le).1 = l.rest .opened) := by
  unfold Lock.takeRelease Lock.mayRelease Lock.finalLeg Lock.arrive
  cases hs : l.state <;> cases hend : l.atEnd .opening <;> simp [h]
  all_goals by_cases hg : l.goal = some .locked <;> simp [hg]

end LockDrive

end Sys2Proof.Machine
end

