-- ==== Sys2Proof/Laws/Mains.lean ====
section
/-! SUPPORT. What the mains monitor and the probe interface can do with one input, and when the last step of
start-up is due, said once for the provers. -/

namespace Sys2Proof.Machine

/-! ## The mains monitor -/

section Monitor
variable (s : State) (volts : Nat)

theorem State.crossing_eq : s.crossing = { s with mains := s.mains.crossed } := by
  cases h : s.mains.run <;> simp [State.crossing, Mains.crossed, h, Timer.loaded, Config.crossingMs]

@[simp] theorem State.crossing_mains : s.crossing.mains = s.mains.crossed := by rw [State.crossing_eq]
@[simp] theorem Mains.crossed_present (m : Mains) : m.crossed.present = m.present := rfl
@[simp] theorem Mains.crossed_ring (m : Mains) : m.crossed.ring = m.ring := rfl
@[simp] theorem Mains.crossed_firstReturn (m : Mains) : m.crossed.firstReturn = m.firstReturn := rfl

/-- A run is a second old exactly where one runs and its milliseconds say so. -/
theorem Mains.runIsSteady_crossed (m : Mains) :
    m.crossed.runIsSteady = true ↔ ∃ ms ∈ m.run, 1000 ≤ ms := by
  cases h : m.run <;> simp [Mains.runIsSteady, Mains.crossed, h, Config.returnMs]

/-- All that a cycle reading can do: join the ring in PRESENT, be the return, or be a crossing alone. -/
theorem State.takeReading_cases :
    (s.mains.present = true ∧ s.takeReading volts =
      { s.crossing with mains := { s.crossing.mains with ring := ringJoin s.mains.ring volts } }) ∨
    (s.mains.present = false ∧ (∃ ms ∈ s.mains.run, 1000 ≤ ms) ∧
      s.takeReading volts = s.crossing.mainsReturn volts) ∨
    (s.mains.present = false ∧ (∀ ms ∈ s.mains.run, ms < 1000) ∧ s.takeReading volts = s.crossing) := by
  unfold State.takeReading
  cases hp : s.mains.present with
  | true => left; simp [hp]
  | false =>
    right
    by_cases h : ∃ ms ∈ s.mains.run, 1000 ≤ ms
    · left; simp only [State.crossing_mains, Mains.crossed_present, hp, (Mains.runIsSteady_crossed _).2 h]
      simpa using h
    · right
      have hn : s.mains.crossed.runIsSteady = false := by
        rw [Bool.eq_false_iff]; exact fun hs => h ((Mains.runIsSteady_crossed _).1 hs)
      simp only [State.crossing_mains, Mains.crossed_present, hp, hn]
      simpa using h

end Monitor

/-! ## The probe -/

/-- What one sample makes of a probe (R61 to R63, R65), and what it is to the stages that follow. -/
theorem Probe.sample_eq (lo hi v : Int) (p : Probe) :
    p.sample lo hi v = (p.after lo hi v,
      { good := p.goodSample lo hi v, onset := p.faultReported lo hi v,
        ended := p.fault && p.goodSample lo hi v }) := by
  rcases p with ⟨reading, fault, bad, good, taken⟩
  have hb : (lo ≤ v && v ≤ hi : Bool) = decide (lo ≤ v ∧ v ≤ hi) := by simp
  have ht : (taken + 1 = 3) = (taken = 2) := by simp
  have hg : (good + 1 < 3) = ¬ 2 ≤ good := by simp only [eq_iff_iff]; omega
  have hd : (3 ≤ bad + 1) = (2 ≤ bad) := by simp only [eq_iff_iff]; omega
  by_cases h : lo ≤ v ∧ v ≤ hi <;> by_cases h2 : 2 ≤ good <;> by_cases h3 : 2 ≤ bad <;> cases fault <;>
    simp [Probe.sample, Probe.sampleFaulted, Probe.sampleSound, Probe.after, Probe.goodSample,
      Probe.faultReported, Config.probeRun, hb, hg, hd, h, h2, h3, ht]

/-! ## The last step of start-up (R149) -/

/-- A probe has given its three samples. -/
@[simp] theorem Probe.sampled_iff (p : Probe) : p.sampled = true ↔ 3 ≤ p.taken := decide_eq_true_iff

/-- The model's test for the last step of start-up is the one of the statements. -/
theorem State.linkReady_iff (s : State) : s.linkReady = true ↔ s.mayOpenLink := by
  have all (p : CavNo → Prop) : (∀ c ∈ allCavs, p c) ↔ ∀ c, p c :=
    ⟨fun h c => h c (by revert c; decide), fun h c _ => h c⟩
  simp only [State.linkReady, State.mayOpenLink, Cavity.startDone, Bool.and_eq_true, Bool.or_eq_true,
    Bool.not_eq_true', decide_eq_true_eq, List.all_eq_true, and_assoc, all, Probe.sampled_iff]
  refine and_congr_right fun _ => and_congr_right fun _ => forall_congr' fun c => ?_
  cases s.fitted c <;> simp; tauto

end Sys2Proof.Machine
end

