-- ==== Sys2Proof/Laws/Memory.lean ====
section
/-! SUPPORT. The memory of the one-time store: every operation keeps the canonical form, a read after a
write gives what was written, and a write leaves every other byte alone. -/

namespace Sys2Proof.Machine

/-- A memory rising from a bound reads blank below it. -/
theorem Memory.read_below {lo : Nat} {m : Memory} (h : Memory.risingFrom lo m = true) {a : Nat}
    (ha : a < lo) : m.read a = 0 := by
  induction m generalizing lo with
  | nil => rfl
  | cons cell rest ih =>
    obtain ⟨k, v⟩ := cell
    simp only [Memory.risingFrom, Bool.and_eq_true, decide_eq_true_eq] at h
    have hne : a ≠ k := by omega
    simpa [Memory.read, hne] using ih h.2 (by omega)

/-- A lower bound may be lowered. -/
theorem Memory.risingFrom_mono {lo lo' : Nat} {m : Memory} (h : Memory.risingFrom lo m = true)
    (hl : lo' ≤ lo) : Memory.risingFrom lo' m = true := by
  cases m with
  | nil => rfl
  | cons cell rest =>
    obtain ⟨k, v⟩ := cell
    simp only [Memory.risingFrom, Bool.and_eq_true, decide_eq_true_eq] at h ⊢
    exact ⟨⟨by omega, h.1.2⟩, h.2⟩

/-- A write at or above the bound keeps the memory rising from it. -/
theorem Memory.risingFrom_write {lo : Nat} {m : Memory} (h : Memory.risingFrom lo m = true) {a : Nat}
    (ha : lo ≤ a) (b : Byte) : Memory.risingFrom lo (m.write a b) = true := by
  induction m generalizing lo with
  | nil => by_cases hb : b = 0#8 <;> simp [Memory.write, Memory.risingFrom, hb, ha]
  | cons cell rest ih =>
    obtain ⟨k, v⟩ := cell
    simp only [Memory.risingFrom, Bool.and_eq_true, decide_eq_true_eq] at h
    obtain ⟨⟨hk, hv'⟩, hr⟩ := h
    have hv : ¬ v = 0#8 := hv'
    unfold Memory.write
    by_cases h1 : a < k
    · by_cases hb : b = 0#8
      · simp [h1, hb, Memory.risingFrom, hk, hv, hr]
      · simp [h1, hb, Memory.risingFrom, ha, hv, hr]
    · by_cases h2 : a = k
      · by_cases hb : b = 0#8
        · simpa [h2, hb] using Memory.risingFrom_mono hr (by omega)
        · simp [h2, hb, Memory.risingFrom, hk, hr]
      · simp [h1, h2, Memory.risingFrom, hk, hv, ih hr (by omega)]

/-- A write keeps the canonical form. -/
theorem Memory.wf_write {m : Memory} (h : m.wf = true) (a : Nat) (b : Byte) :
    (m.write a b).wf = true :=
  Memory.risingFrom_write h (Nat.zero_le a) b

/-- A programming operation keeps the canonical form. -/
theorem Memory.wf_program {m : Memory} (h : m.wf = true) (a : Nat) (b : Byte) :
    (m.program a b).wf = true := by
  unfold Memory.program
  split
  · exact h
  · exact Memory.wf_write h a b

/-- A byte other than the written one reads as before. -/
theorem Memory.read_write_other (m : Memory) {a x : Nat} (h : x ≠ a) (b : Byte) :
    (m.write a b).read x = m.read x := by
  induction m with
  | nil => by_cases hb : b = 0#8 <;> simp [Memory.write, Memory.read, hb, h]
  | cons cell rest ih =>
    obtain ⟨k, v⟩ := cell
    unfold Memory.write
    by_cases h1 : a < k
    · by_cases hb : b = 0#8 <;> simp [h1, hb, Memory.read, h]
    · by_cases h2 : a = k
      · subst h2
        by_cases hb : b = 0#8 <;> simp [hb, Memory.read, h]
      · by_cases hx : x = k <;> simp [h1, h2, Memory.read, hx, ih]

/-- The written byte reads as written. -/
theorem Memory.read_write_same {m : Memory} (h : m.wf = true) (a : Nat) (b : Byte) :
    (m.write a b).read a = b := by
  suffices hs : ∀ lo, Memory.risingFrom lo m = true → (m.write a b).read a = b from hs 0 h
  clear h
  induction m with
  | nil => intro lo _; by_cases hb : b = 0#8 <;> simp [Memory.write, Memory.read, hb]
  | cons cell rest ih =>
    intro lo h
    obtain ⟨k, v⟩ := cell
    simp only [Memory.risingFrom, Bool.and_eq_true, decide_eq_true_eq] at h
    obtain ⟨-, hr⟩ := h
    unfold Memory.write
    by_cases h1 : a < k
    · have hne : a ≠ k := by omega
      by_cases hb : b = 0#8
      · simpa [h1, hb, Memory.read, hne] using Memory.read_below hr (by omega)
      · simp [h1, hb, Memory.read]
    · by_cases h2 : a = k
      · subst h2
        by_cases hb : b = 0#8
        · simpa [hb] using Memory.read_below hr (by omega)
        · simp [hb, Memory.read]
      · simpa [h1, h2, Memory.read] using ih (k + 1) hr

/-- What a programming operation leaves in every byte: the byte read back at its own offset, where that is
not blank, and what stood there before everywhere else. -/
theorem Memory.read_program {m : Memory} (h : m.wf = true) (a : Nat) (b : Byte) (x : Nat) :
    (m.program a b).read x = if x = a ∧ b ≠ 0 then b else m.read x := by
  unfold Memory.program
  by_cases hb : b = 0#8
  · simp [hb]
  · by_cases hx : x = a
    · subst hx
      simp [hb, Memory.read_write_same h]
    · simp [hb, hx, Memory.read_write_other m hx]

end Sys2Proof.Machine
end

