-- ==== Sys2Proof/Laws/Requests.lean ====
section
/-! SUPPORT. The shared operations of the link: what a request can come to, and what a reply leaves
alone. -/

namespace Sys2Proof.Machine

/-- The model's frame-level checks are the answer of R152: what a proof about a request's answer cites. -/
theorem ReqKind.accept_of_fault {q : ReqKind} {r : Request} {f : Result} {n : Nat}
    (h : q.frameFault r.sel n = some f) (serve : Request → State → State × List Byte) (s : State) :
    s.accept q serve r n = s.sendReply q.cls q.code r.sel r.tag [f.code] := by
  simp [State.accept, h]

/-- A request that passes the frame-level checks is served and answered once. -/
theorem ReqKind.accept_of_none {q : ReqKind} {r : Request} {n : Nat}
    (h : q.frameFault r.sel n = none) (serve : Request → State → State × List Byte) (s : State) :
    s.accept q serve r n =
      (serve r s).1.sendReply q.cls q.code r.sel r.tag (serve r s).2 := by
  simp [State.accept, h]

/-- A request while the link is CLOSED changes nothing. -/
theorem State.request_closed {s : State} (h : s.link.rx = .closed) (q : ReqKind)
    (serve : Request → State → State × List Byte) (r : Request) : s.request q serve r = s := by
  simp [State.request, h]

/-- A request while a reply is sent sets OVERRUN and nothing else. -/
theorem State.request_busy {s : State} (h : s.link.rx ≠ .closed) (hs : s.link.sending = true)
    (q : ReqKind) (serve : Request → State → State × List Byte) (r : Request) :
    s.request q serve r = s.setPartEvent .overrun := by
  simp [State.request, h, hs]

/-- A request that LNK listens to is accepted. -/
theorem State.request_listening {s : State} (h : s.listening) (q : ReqKind)
    (serve : Request → State → State × List Byte) (r : Request) :
    s.request q serve r = s.accept q serve r r.payload.length := by
  simp [State.request, h.1, h.2]

section SendReply
variable (s : State) (cls : BitVec 2) (code sel : Byte) (tag : BitVec 3) (payload : List Byte)

@[simp] theorem State.sendReply_cfg : (s.sendReply cls code sel tag payload).cfg = s.cfg := rfl
@[simp] theorem State.sendReply_bounds : (s.sendReply cls code sel tag payload).bounds = s.bounds := rfl
@[simp] theorem State.sendReply_segs : (s.sendReply cls code sel tag payload).segs = s.segs := rfl
@[simp] theorem State.sendReply_sched : (s.sendReply cls code sel tag payload).sched = s.sched := rfl
@[simp] theorem State.sendReply_mains : (s.sendReply cls code sel tag payload).mains = s.mains := rfl
@[simp] theorem State.sendReply_review : (s.sendReply cls code sel tag payload).review = s.review := rfl
@[simp] theorem State.sendReply_store : (s.sendReply cls code sel tag payload).store = s.store := rfl
@[simp] theorem State.sendReply_pending :
    (s.sendReply cls code sel tag payload).pending = s.pending := rfl
@[simp] theorem State.sendReply_cav (c : CavNo) :
    (s.sendReply cls code sel tag payload).cav c = s.cav c := by
  revert c; rintro ⟨_ | _ | _ | n, h⟩ <;> rfl
@[simp] theorem State.sendReply_sending :
    (s.sendReply cls code sel tag payload).link.sending = true := rfl
@[simp] theorem State.sendReply_rx :
    (s.sendReply cls code sel tag payload).link.rx = s.link.rx := rfl
@[simp] theorem State.sendReply_partEvents :
    (s.sendReply cls code sel tag payload).link.partEvents = s.link.partEvents := rfl

end SendReply

end Sys2Proof.Machine
end

