-- ==== Sys2Proof/Laws/Orders.lean ====
section
/-! SUPPORT. What the shared operation of the per-cavity orders does (R153): each selected fitted cavity takes
its own group, every other cavity stays, and the reply holds one result per selected cavity. -/

namespace Sys2Proof.Machine

/-- A fold that only replaces cavities' records keeps what every such replacement keeps. -/
theorem perCavityOrder_keeps {α : Type} (f : State → α) (hf : ∀ s c k, f (State.setCav s c k) = f s)
    (size : Nat) (order : List Byte → Env → Cavity → Cavity × Result) (r : Request) (s : State) :
    f (perCavityOrder size order r s).1 = f s := by
  unfold perCavityOrder
  generalize groups size r.sel r.payload = gs
  suffices h : ∀ (gs : List (CavNo × List Byte)) (acc : State × List Byte), f acc.1 = f s →
      f (gs.foldl (fun (acc : State × List Byte) (g : CavNo × List Byte) =>
        if acc.1.fitted g.1 then
          let (k, result) := order g.2 (acc.1.env g.1) (acc.1.cav g.1)
          (acc.1.setCav g.1 k, acc.2 ++ [result.code])
        else (acc.1, acc.2 ++ [Result.notFitted.code])) acc).1 = f s from h gs _ rfl
  intro gs
  induction gs with
  | nil => exact fun acc h => h
  | cons g rest ih =>
    intro acc h
    apply ih
    dsimp only
    split
    · exact (hf _ _ _).trans h
    · exact h

/-- What a per-cavity order leaves alone. -/
theorem perCavityOrder_frame (size : Nat) (order : List Byte → Env → Cavity → Cavity × Result)
    (r : Request) (s : State) :
    let t := (perCavityOrder size order r s).1
    t.cfg = s.cfg ∧ t.bounds = s.bounds ∧ t.segs = s.segs ∧ t.sched = s.sched ∧ t.mains = s.mains ∧
      t.review = s.review ∧ t.link = s.link ∧ t.store = s.store ∧ t.pending = s.pending :=
  ⟨perCavityOrder_keeps State.cfg (by simp) .., perCavityOrder_keeps State.bounds (by simp) ..,
    perCavityOrder_keeps State.segs (by simp) .., perCavityOrder_keeps State.sched (by simp) ..,
    perCavityOrder_keeps State.mains (by simp) .., perCavityOrder_keeps State.review (by simp) ..,
    perCavityOrder_keeps State.link (by simp) .., perCavityOrder_keeps State.store (by simp) ..,
    perCavityOrder_keeps State.pending (by simp) ..⟩

/-- What a per-cavity order makes of each cavity. -/
theorem perCavityOrder_cav (size : Nat) (order : List Byte → Env → Cavity → Cavity × Result)
    (r : Request) (s : State) (c : CavNo) :
    (perCavityOrder size order r s).1.cav c =
      if c ∈ selected r.sel ∧ s.fitted c = true then
        (order (groupOf r size c) (s.env c) (s.cav c)).1
      else s.cav c := by
  unfold perCavityOrder groupOf groups selected allCavs
  by_cases h0 : maskHas r.sel 0 = true <;> by_cases h1 : maskHas r.sel 1 = true <;>
    by_cases h2 : maskHas r.sel 2 = true <;> by_cases f0 : s.fitted 0 = true <;>
    by_cases f1 : s.fitted 1 = true <;> by_cases f2 : s.fitted 2 = true <;>
    fin_cases c <;>
    simp [h0, h1, h2, f0, f1, f2, List.filter, List.zipIdx, State.cav_setCav_other]

/-- The results of a per-cavity order, one per selected cavity in ascending order. -/
theorem perCavityOrder_reply (size : Nat) (order : List Byte → Env → Cavity → Cavity × Result)
    (r : Request) (s : State) :
    (perCavityOrder size order r s).2 = (selected r.sel).map fun c =>
      (if s.fitted c = true then (order (groupOf r size c) (s.env c) (s.cav c)).2
       else .notFitted).code := by
  unfold perCavityOrder groupOf groups selected allCavs
  by_cases h0 : maskHas r.sel 0 = true <;> by_cases h1 : maskHas r.sel 1 = true <;>
    by_cases h2 : maskHas r.sel 2 = true <;> by_cases f0 : s.fitted 0 = true <;>
    by_cases f1 : s.fitted 1 = true <;> by_cases f2 : s.fitted 2 = true <;>
    simp [h0, h1, h2, f0, f1, f2, List.filter, List.zipIdx, State.cav_setCav_other]

end Sys2Proof.Machine
end

