-- ==== Sys2Proof/WellFormed.lean ====
section
/-! DEFINITION. Which commands can be sent at all. A cavity number is below 3 and every field of a
frame has its width by type, so what is left to check is what the line and the mains can carry. -/

namespace Sys2Proof

/-- A frame's LEN is one byte, so no frame carries more than 255 payload bytes
(08_the_link.md, Frame). A longer payload than a request may have is well formed: R152 answers it. -/
def Request.wellFormed (r : Request) : Bool := r.payload.length ≤ 255

/-- A sample carries one signed temperature, which is a 16-bit value in tenths of a degree
(00_scope.md, Bytes on the link; R60). -/
def sampleWellFormed (v : Int) : Bool := -32768 ≤ v && v ≤ 32767

/-- The check, command by command. -/
def Instr.wellFormed : Instr → Bool
  | .startUp _ => true
  | .linkOpen => true
  | .receivedByte _ => true
  | .frameCut => true
  | .replyEnd _ => true
  | .cleanStart r => r.wellFormed
  | .cleanHold r => r.wellFormed
  | .cleanResume r => r.wellFormed
  | .cleanAbandon r => r.wellFormed
  | .cookSet r => r.wellFormed
  | .cookOff r => r.wellFormed
  | .eventsAck r => r.wellFormed
  | .conditionsAck r => r.wellFormed
  | .faultClear r => r.wellFormed
  | .budgetLend r => r.wellFormed
  | .partEventsAck r => r.wellFormed
  | .restart r => r.wellFormed
  | .cavityStatus r => r.wellFormed
  | .tripRecord r => r.wellFormed
  | .windowStatus r => r.wellFormed
  | .partStatus r => r.wellFormed
  | .settingRead r => r.wellFormed
  | .settingWrite r => r.wellFormed
  | .storeStage r => r.wellFormed
  | .storeDiscard r => r.wellFormed
  | .storeBurn r => r.wellFormed
  | .storeRead r => r.wellFormed
  | .byteProgrammingComplete _ => true
  | .cavitySample _ v => sampleWellFormed v
  | .doorSample _ v => sampleWellFormed v
  | .windowStart => true
  | .slotBoundary => true
  | .zeroCrossing => true
  | .cycleReading _ => true
  | .dropout => true
  | .lockSwitchChange _ _ _ => true
  | .doorSwitchChange _ _ => true
  | .travelTimeout _ => true
  | .levelReview => true
  | .tachPulse _ => true
  | .tachTimerExpiry _ => true

end Sys2Proof
end

