-- ==== Sys2Proof/Tests/Slice0.lean ====
section
/-! SUPPORT. Tests of single steps with results taken from the manual's tables and examples, and the
witnesses: for each obligation with hypotheses, a state and operands that meet them. -/

namespace Sys2Proof.Tests
open Sys2Proof.Machine

/-! ## Helpers -/

/-- The state a command leaves. -/
def after (i : Instr) (s : State) : State :=
  match exec i s with
  | .next t => t
  | _ => s

/-- A request with tag 3. -/
def req (sel : Byte) (payload : List Byte) : Request := ⟨3, sel, payload⟩

/-- A strap number, and every lock at its open end with its door closed. -/
def doorsShut (unit : BitVec 2) : StartInputs :=
  ⟨unit, ⟨false, true, true⟩, ⟨false, true, true⟩, ⟨false, true, true⟩⟩

/-- The part with its link open, cavity 0 recovered and its probes sound at 25.0 degrees. -/
def openPart : State :=
  { State.reset with
    link := { rx := .hunting }
    c0 := { prb := { cavity := { reading := 250, fault := false, taken := 3 },
                     door := { reading := 250, fault := false, taken := 3 } } } }

/-! ## WellFormed: each check refuses an ill-formed term -/

theorem test_wellFormed_refuses_long_payload :
    (Instr.storeStage (req 0 (List.replicate 256 0))).wellFormed = false := by decide +kernel
theorem test_wellFormed_takes_longest_payload :
    (Instr.storeStage (req 0 (List.replicate 255 0))).wellFormed = true := by decide +kernel
theorem test_wellFormed_refuses_high_sample : (Instr.cavitySample 0 32768).wellFormed = false := by decide
theorem test_wellFormed_refuses_low_sample : (Instr.doorSample 2 (-32769)).wellFormed = false := by decide
theorem test_no_word_spells_a_command : decodeTableWord 8 0 = none := by decide

/-! ## Reset: every register reads as the chapters' start-up values say -/

theorem test_reset_settings :
    State.reset.cfg.get .cleanCeiling = 4800 ∧ State.reset.cfg.get (.tripEnables 2) = 0x0108 ∧
      State.reset.cfg.get .travelTimeout = 40 := by decide
theorem test_reset_records :
    State.reset.c0.cc.state = .idle ∧ State.reset.c2.prb.door.fault = true ∧
      State.reset.mains.present = false ∧ State.reset.sched.slot = none ∧
      State.reset.link.rx = .closed := by decide
theorem test_reset_is_what_startUp_leaves :
    after (.startUp (doorsShut 0)) State.reset = State.reset := by decide

/-! ## The link (08_the_link.md, 8.6: the example frame and its reply) -/

theorem test_frame_of_clean_start :
    ReqKind.cleanStart.frame 0 (req 2 [0x14]) = [0xC5, 0x60, 0x02, 0x10, 0x01, 0x14, 0x79] := by decide

/-- Two fitted cavities, and a DWELL at segment 20. -/
def startable : State :=
  { openPart with
    cfg := { part := { fittedCount := 2 } }
    c1 := openPart.c0
    segs := SegStore.put openPart.segs 20 { kind := .dwell, duration := 5 } }

theorem test_clean_start_reply :
    (after (.cleanStart (req 2 [0x14])) startable).link.reply =
      [0xC5, 0x70, 0x02, 0x10, 0x01, 0x00, 0x7D] := by decide
theorem test_clean_start_enters_locking :
    let k := (after (.cleanStart (req 2 [0x14])) startable).c1
    k.cc.state = .locking ∧ k.cc.startSeg = some 20 ∧ k.lock.state = .closing := by decide

theorem test_unknown_code_and_bad_sum :
    (openPart.afterBytes [0xC5, 0x00, 0x00, 0x7E, 0x00, 0x82]).link.reply =
        [0xC5, 0x10, 0x00, 0x7E, 0x01, 0x0A, 0x67] ∧
      (openPart.afterBytes [0xC5, 0x00, 0x00, 0x7E, 0x00, 0x83]).link.partEvents = 0x20 := by decide
theorem test_frame_cut_and_reply_end :
    (after .frameCut { openPart with link := { rx := .assembling, count := 1, assembly := [0],
                                               gap := ⟨.running, 0⟩ } }).link.partEvents = 0x10 ∧
      (after (.replyEnd (doorsShut 3)) { openPart with
        link := { rx := .hunting, sending := true } }).link = { rx := .hunting } := by decide
theorem test_link_opens_with_restarted :
    let l := (after .linkOpen { openPart with link := {}, mains := { firstReturn := false } }).link
    l.rx = .hunting ∧ l.partEvents = 1 := by decide
/-- R65: the probe interface's part in start-up takes three samples of the door probe too. -/
theorem test_link_waits_for_the_door_probe :
    let s := { openPart with
      link := {}, mains := { firstReturn := false }
      c0 := { openPart.c0 with prb := { openPart.c0.prb with door := { good := 2, taken := 2 } } } }
    (after .linkOpen s).link = s.link ∧
      (after .linkOpen (after (.doorSample 0 250) s)).link.rx = .hunting := by decide

/-! ## Resolution (02_cleaning_programs.md, 2.9: the six examples) -/

/-- The store of section 2.9. -/
def exampleStore : SegStore :=
  let put (g : SegStore) (x : Nat × Segment) : SegStore := g.put x.1 x.2
  [(30, { kind := .call, next := 31 }), (31, { kind := .call, next := 32 }),
   (32, { kind := .call, next := 33 }), (33, { kind := .call, next := 34 }),
   (34, { kind := .dwell, duration := 2 }), (45, { kind := .ret }), (50, { kind := .link }),
   (51, { kind := .link }), (52, { kind := .link }), (53, { kind := .link }), (54, { kind := .link }),
   (55, { kind := .link }), (56, { kind := .link }), (57, { kind := .dwell, duration := 2 }),
   (63, { kind := .soak, duration := 10 })].foldl put (Vector.replicate 64 {})

theorem test_resolution_stack_full :
    resolve exampleStore 6 30 [] = .failed .stackFull (some 33) [31, 32, 33] := by decide +kernel
theorem test_resolution_enters_at_depth_three :
    resolve exampleStore 6 31 [] = .entered 34 [32, 33, 34] := by decide +kernel
theorem test_resolution_chain_too_long :
    resolve exampleStore 6 50 [] = .failed .chainTooLong (some 56) [] := by decide +kernel
theorem test_resolution_six_passes : resolve exampleStore 6 51 [] = .entered 57 [] := by decide +kernel
theorem test_resolution_stack_empty :
    resolve exampleStore 6 45 [] = .failed .stackEmpty (some 45) [] := by decide +kernel
theorem test_resolution_index_64 :
    resolve exampleStore 6 64 [] = .failed .invalidEntry none [] := by decide +kernel

/-! ## A window of two cavities (04_heat_demand_and_the_firing_window.md, 4.13) -/

/-- A lawful cavity that cleans in the RAMP at 21, its setpoint one step below 400.0 degrees. -/
def cleaningCavity : Cavity :=
  { cc := { state := .cleaning, speff := 39750, segIndex := some 21, direction := some .up, cycle := 5,
            elapsed := 5 }
    prb := { cavity := { reading := 3500, fault := false, taken := 3 },
             door := { reading := 250, fault := false, taken := 3 }, mark := some ⟨.rise, 4750, 0⟩ }
    lock := { state := .locked, lockedSw := true, openSw := false, mains := true }
    fan := { command := .low, tach := .watching, tachLeft := 2000, catalyst := true } }

/-- A lawful cavity that cooks at 200.0 degrees with TOP and BASE. -/
def cookingCavity : Cavity :=
  { cc := { state := .cooking, cookSetpoint := 2000, cookSet := 3, speff := 20000 }
    prb := { cavity := { reading := 1700, fault := false, taken := 3 },
             door := { reading := 250, fault := false, taken := 3 } }
    lock := { mains := true }
    fan := { command := .low, tach := .watching, tachLeft := 2000 } }

/-- The part of section 4.13 at the end of the window before. -/
def twoCavities : State :=
  { cfg := { part := { fittedCount := 2, budgetCeiling := 3600 },
             ratings0 := ⟨200, 1400, 1100, 0⟩, ratings1 := ⟨200, 1400, 1100, 0⟩ }
    bounds := { budgetCeiling := 3600 }
    segs := SegStore.put (Vector.replicate 64 {}) 21
      { kind := .ramp, level := 4800, rate := 10, heatSet := 3, flags := 2 }
    c0 := cleaningCavity, c1 := cookingCavity, c2 := { lock := { mains := true } }
    sched := { lend := 3600, budget := 3600, vw := 240, slot := some 29, timer := ⟨.running, 0⟩ }
    mains := { present := true, ring := [240], crossing := ⟨.running, 100⟩, run := some 5000,
               firstReturn := false }
    link := { rx := .hunting } }

/-- The same after its window start. -/
def windowRunning : State := after .windowStart twoCavities

theorem test_window_demands_and_ranking :
    windowRunning.c0.cc.demand = 20 ∧ windowRunning.c1.cc.demand = 12 ∧
      windowRunning.sched.ranking = [0, 1, 2, 5, 6] := by decide
theorem test_window_powers :
    windowRunning.c0.cat.power = 218 ∧ windowRunning.c0.top.power = 1524 ∧
      windowRunning.c0.base.power = 1198 := by decide
theorem test_window_grants :
    windowRunning.c0.cat.granted = 30 ∧ windowRunning.c0.top.granted = 20 ∧
      windowRunning.c0.base.granted = 20 ∧ windowRunning.c1.top.granted = 12 ∧
      windowRunning.c1.base.granted = 8 ∧ windowRunning.peakLoad = 3266 := by decide

/-- The same window at its slot 10. -/
def atSlotTen : State :=
  after .slotBoundary { windowRunning with sched := { windowRunning.sched with slot := some 9 } }

theorem test_lower_lend_sheds_from_the_end :
    let t := after (.budgetLend (req 0 [0x0A, 0xF0])) atSlotTen
    t.sched.budget = 2800 ∧ t.c0.cat.shed = false ∧ t.c0.top.shed = false ∧ t.c0.base.shed = true ∧
      t.c1.top.shed = true ∧ t.c1.base.shed = true ∧ t.peakLoad = 3266 := by decide

theorem test_budget_lend_above_the_ceiling_is_clamped :
    let t := after (.budgetLend (req 0 [0xFF, 0xFF])) twoCavities
    t.sched.lend = 3600 ∧ t.link.payloadSent = [1] := by decide
theorem test_slot_boundary_sets_relays :
    let t := after .slotBoundary { windowRunning with sched := { windowRunning.sched with slot := some 4 } }
    t.sched.slot = some 5 ∧ t.c0.base.relay = false ∧ t.c1.top.relay = false ∧ t.c1.base.relay = true := by
  decide
theorem test_window_voltage_of_eight_readings :
    (after .windowStart { twoCavities with
      mains := { twoCavities.mains with ring := [231, 229, 230, 232, 228, 230, 231, 229] } }).sched.vw
      = 230 := by decide
theorem test_ring_drops_its_oldest :
    (after (.cycleReading 301) { twoCavities with
      mains := { twoCavities.mains with ring := [1, 2, 3, 4, 5, 6, 7, 8] } }).mains.ring
      = [2, 3, 4, 5, 6, 7, 8, 300] := by decide
theorem test_zero_crossing_restarts_the_timer :
    (after .zeroCrossing State.reset).mains.crossing = ⟨.running, 100⟩ := by decide
theorem test_return_waits_for_a_run_of_a_second :
    let s (ms : Nat) : State := { openPart with mains := { run := some ms, firstReturn := false } }
    (after (.cycleReading 230) (s 999)).mains = ⟨false, [], ⟨.running, 100⟩, some 999, false, false, false⟩ ∧
      (after (.cycleReading 230) (s 1000)).mains =
        ⟨true, [230], ⟨.running, 100⟩, some 1000, false, false, false⟩ ∧
      (after (.cycleReading 230) (s 1000)).sched.slot = some 0 := by decide
theorem test_idle_millisecond_ages_the_run :
    (after .zeroCrossing State.reset).tick.mains.run = some 1 ∧ State.reset.tick.mains.run = none := by decide
theorem test_dropout_abandons :
    let t := after .dropout atSlotTen
    t.sched.slot = none ∧ t.c0.top.shed = true ∧ t.c0.cat.relay = false ∧ t.link.partEvents = 2 := by
  decide

/-! ## The orders -/

theorem test_hold_sheds_and_resume_reads :
    let h := after (.cleanHold (req 1 [])) windowRunning
    let u := after (.cleanResume (req 1 [])) { h with link := windowRunning.link }
    h.c0.cc.state = .held ∧ h.c0.cat.shed = true ∧ h.c0.fan.catalyst = false ∧
      u.c0.cc.state = .cleaning ∧ u.c0.cc.speff = 35000 ∧ u.c0.fan.catalyst = true := by decide
theorem test_abandon_goes_to_cooldown :
    let t := after (.cleanAbandon (req 1 [])) windowRunning
    t.c0.cc.state = .cooldown ∧ t.c0.cc.lastEnd = .abandoned ∧ t.c0.cc.cycle = 6 ∧
      t.c0.fan.command = .high := by decide
theorem test_cook_set_clamps :
    let t := after (.cookSet (req 2 [0x0F, 0xFF, 0x04])) windowRunning
    t.link.payloadSent = [1] ∧ t.c1.cc.cookSetpoint = 2750 ∧ t.c1.cc.speff = 27500 ∧
      t.c1.top.shed = true := by decide
theorem test_cook_off_sheds :
    let t := after (.cookOff (req 2 [])) windowRunning
    t.c1.cc.state = .idle ∧ t.c1.top.relay = false ∧ t.c1.cc.speff = 0 ∧ t.c1.cc.events = 0 := by decide
theorem test_events_ack_of_two_cavities :
    let s := { startable with c0 := { openPart.c0 with cc := { events := 0x3F } } }
    let t := after (.eventsAck (req 3 [0x21, 0x40])) s
    t.c0.cc.events = 0x1E ∧ t.link.payloadSent = [0, 7] := by decide
theorem test_part_events_ack_bit_seven :
    (after (.partEventsAck (req 0 [0x80])) openPart).link.payloadSent = [7] := by decide
theorem test_conditions_ack_keeps_present :
    let s := { openPart with c0 := { openPart.c0 with cond := { present := 8, seen := 0x48 } } }
    (after (.conditionsAck (req 1 [0x00, 0x48])) s).c0.cond.seen = 8 := by decide

/-- Cavity 0 tripped out of a clean by OVERTEMP, its lock UNKNOWN, cool again (07_conditions_and_trips.md,
7.10). -/
def tripped : State :=
  { openPart with
    c0 := { openPart.c0 with
      cc := { state := .faulted, lastEnd := .tripped, cycle := 400 }
      lock := { state := .unknown, openSw := false, mains := true }
      fan := { command := .high, tach := .watching, tachLeft := 2000 }
      cond := { seen := 0x41, trip := some ⟨.overtemp, 0x40, .cleaning, some 22, 4776, 616, .locked, 400⟩ } } }

theorem test_fault_clear_releases :
    let t := after (.faultClear (req 1 [])) tripped
    t.c0.cc.state = .unlocking ∧ t.c0.lock.state = .opening ∧ t.c0.lock.attempt = 1 ∧
      t.c0.cond.trip = none ∧ t.c0.cond.seen = 0x41 ∧ t.c0.cc.lastEnd = .tripped := by decide
theorem test_fault_clear_too_hot :
    let s := { tripped with c0 := { tripped.c0 with
      prb := { cavity := { reading := 3002, fault := false, taken := 3 } } } }
    (after (.faultClear (req 1 [])) s).link.payloadSent = [5] := by decide
theorem test_trip_record_group :
    (after (.tripRecord (req 3 [])) tripped).link.payloadSent =
      [0, 3, 0, 0, 0x40, 3, 22, 0x12, 0xA8, 0x02, 0x68, 2, 0x01, 0x90] := by decide
theorem test_restart_waits :
    (after (.restart (req 0 [])) openPart).link.restarting = true ∧
      (after (.replyEnd (doorsShut 1)) { openPart with link :=
        { rx := .hunting, sending := true, restarting := true, unit := 2 } }).link = { unit := 1 } := by
  decide

/-! ## The looks -/

theorem test_cavity_status_clears_events :
    let s := { openPart with c0 := { openPart.c0 with cc := { events := 0x10 } } }
    let t := after (.cavityStatus (req 1 [])) s
    t.link.payloadSent.length = 27 ∧ at8 t.link.payloadSent 22 = 0x10 ∧ t.c0.cc.events = 0 := by decide
theorem test_window_status_of_the_example :
    (after (.windowStatus (req 0 [])) windowRunning).link.payloadSent.take 17 =
      [0, 0x0E, 0x10, 0, 240, 0x0C, 0xC2, 0, 30, 30, 0, 20, 20, 0, 20, 20, 0] := by decide +kernel
theorem test_part_status_free_space :
    (after (.partStatus (req 0 [])) { openPart with
      store := { status := .patchError, errorEntry := some 2, entryCount := 3, patchEnd := 62 }
      mains := twoCavities.mains }).link.payloadSent
      = [0, 0, 0, 1, 2, 0, 2, 0, 0x07, 0xB0, 0] := by decide +kernel

/-! ## Settings (09_settings_pages.md, 10_the_one_time_store.md 10.5) -/

/-- The settings and bounds after the replay of section 10.5. -/
def replayedPart : State :=
  { openPart with
    cfg := { part := { budgetCeiling := 7000 }, limits := { cleanCeiling := 4600 },
             ratings0 := ⟨200, 1400, 1100, 2000⟩ }
    bounds := { budgetCeiling := 7000, limits := { cleanCeiling := 4600 },
                ratings0 := ⟨200, 1400, 1100, 2000⟩ } }

theorem test_write_clamped_to_bound :
    let t := after (.settingWrite (req 0 [0, 1, 0x1C, 0xE8])) replayedPart
    t.cfg.part.budgetCeiling = 7000 ∧ t.link.payloadSent = [1, 1] := by decide
theorem test_write_of_a_run_stops_at_the_refusal :
    let t := after (.settingWrite (req 0 [3, 5, 0x02, 0xBC, 0x03, 0xE8])) openPart
    t.cfg.cav0.fanOn = 900 ∧ t.link.payloadSent = [7, 0] := by decide
theorem test_setting_read :
    (after (.settingRead (req 0 [2, 0, 2])) replayedPart).link.payloadSent =
      [0, 2, 0x11, 0xF8, 0x0A, 0xBE] := by decide
theorem test_segment_write_protected :
    (after (.settingWrite (req 0 [9, 56, 0, 1])) openPart).link.payloadSent = [8, 0] := by decide

/-! ## The one-time store (10.5) -/

/-- The factory patch of section 10.5. -/
def factoryPatch : List Byte :=
  [0x40, 0, 1, 1, 0x1B, 0x58, 0x40, 1, 0, 4, 0x00, 0xC8, 0x05, 0x78, 0x04, 0x4C, 0x07, 0xD0,
   0x40, 2, 0, 1, 0x13, 0x88, 0xFF]

theorem test_factory_patch_sum : balance factoryPatch = 0xBD := by decide
theorem test_factory_patch_replay :
    let out := (startPatch (replayWrite true) (⟨{}, Vector.replicate 64 {}⟩ : Replayed) factoryPatch).1.cfg
    out.part.budgetCeiling = 7000 ∧ out.ratings0 = ⟨200, 1400, 1100, 2000⟩ ∧
      out.limits.cleanCeiling = 5000 := by decide +kernel
theorem test_later_patch_tightens :
    let out := (startPatch (replayWrite false) (⟨replayedPart.cfg, Vector.replicate 64 {}⟩ : Replayed)
      [0x40, 0, 1, 1, 0x1C, 0xE8, 0x40, 1, 3, 1, 0, 0, 0x40, 0, 5, 1, 0, 4, 0xFF]).1.cfg
    out.part.budgetCeiling = 7000 ∧ out.ratings0.ring = 2000 ∧ out.part.markCount = 4 := by
  decide +kernel

theorem test_segment_values_are_held :
    let r := ((startPatch (replayWrite false) (⟨{}, Vector.replicate 64 {}⟩ : Replayed)
      [0x40, 8, 8, 8, 0, 9, 0xFF, 0xFF, 0, 0, 0x02, 0x59, 0, 3, 0, 8, 0, 8, 0, 64, 0xFF]).1.segs.at 1)
    r = ⟨.finish, 0, 1, 600, 3, 7, 7, 255⟩ := by decide +kernel
theorem test_replay_keeps_the_first_error :
    let m : Memory := [(2030, 0xE1), (2036, 0xE1), (2042, 0xE1)]
    m.readIndex = ⟨3, 0, none⟩ ∧ (m.replay 3).2 = some 0 := by decide +kernel

/-- The staged END alone, the shortest patch. -/
def staged : State := { openPart with store := { staging := [0xFF] } }

theorem test_stage_and_discard :
    (after (.storeStage (req 0 [1, 2])) staged).store.staging = [0xFF, 1, 2] ∧
      (after (.storeDiscard (req 0 [])) staged).store.staging = [] := by decide
theorem test_burn_plan :
    (after (.storeBurn (req 0 [])) staged).store.burnLeft =
      [(2042, 0xE1), (2043, 0), (2044, 0), (2045, 1), (0, 0xFF), (2046, 0x01), (2047, 0x3C)] := by decide
theorem test_burn_bad_patch :
    (after (.storeBurn (req 0 [])) { staged with store := { staging := [0xFF, 0xFF] } }).link.payloadSent
      = [13] := by decide

/-- A burn with only its seal left. -/
def atSeal : State :=
  { openPart with
    store := { memory := [(0, 0xFF), (2042, 0xE1), (2045, 1), (2046, 1)], burn := .burning,
               burnLeft := [(2047, 0x3C)] } }

theorem test_burn_done :
    let t := after (.byteProgrammingComplete 0x3C) atSeal
    t.store.burn = .done ∧ t.store.entryCount = 1 ∧ t.store.patchEnd = 1 ∧
      t.link.partEvents = 8 := by decide +kernel
theorem test_burn_failed_on_mismatch :
    (after (.byteProgrammingComplete 0x38) atSeal).store.burn = .failed := by decide +kernel
theorem test_store_read :
    (after (.storeRead (req 0 [0x07, 0xFA, 2])) atSeal).link.payloadSent = [0, 0xE1, 0] ∧
      (after (.storeRead (req 0 [0x07, 0xFF, 2])) atSeal).link.payloadSent = [7] := by decide

/-! ## Samples -/

theorem test_third_bad_sample_trips_a_clean :
    let s := { windowRunning with c0 := { windowRunning.c0 with prb := { windowRunning.c0.prb with
      cavity := { reading := 3500, fault := false, bad := 2, taken := 3 } } } }
    let t := after (.cavitySample 0 6001) s
    t.c0.cc.state = .faulted ∧ t.c0.prb.cavity.reading = 3500 ∧
      t.c0.cond.trip.map (·.first) = some .sensor := by decide
theorem test_third_good_sample_ends_a_fault :
    let s := { openPart with c0 := { openPart.c0 with
      prb := { cavity := { reading := 2524, fault := true, good := 2, taken := 3 } }
      fan := { probeView := true, command := .high, tach := .watching, tachLeft := 500 }
      cond := { present := 2, seen := 2 } } }
    let k := (after (.cavitySample 0 2471) s).c0
    k.prb.cavity = { reading := 2471, fault := false, taken := 3 } ∧ k.cond = { seen := 2 } ∧
      k.fan.command = .off := by decide
theorem test_release_law_stops_an_open_drive :
    let s := { openPart with c0 := { openPart.c0 with
      cc := { state := .unlocking }, fan := { command := .low, tach := .watching, tachLeft := 500 }
      lock := { state := .opening, goal := some .opened, motor := .towardOpen, timer := ⟨.running, 3000⟩,
                openSw := false, mains := true } } }
    (after (.cavitySample 0 2500) s).c0.lock = { s.c0.lock with
      state := .unknown, goal := none, motor := .stop, timer := ⟨.stopped, 0⟩ } := by decide
/-- R105: the RELEASE that the stopped drive's report brings needs no check at the open end (R118). -/
theorem test_release_at_the_open_end_needs_no_check :
    let s := { openPart with c0 := { openPart.c0 with
      cc := { state := .unlocking }, fan := { command := .low, tach := .watching, tachLeft := 500 }
      lock := { state := .opening, goal := some .opened, motor := .towardOpen, timer := ⟨.running, 3000⟩,
                openSw := true, mains := true } } }
    let k := (after (.cavitySample 0 2500) s).c0
    k.lock = s.c0.lock.rest .opened ∧ k.cc.state = .idle ∧ k.cc.events = 0x10 := by decide
theorem test_rise_mark_waits_for_arrival :
    let s := { twoCavities with c0 := { cleaningCavity with prb := { cleaningCavity.prb with
      mark := some ⟨.rise, 4750, 2⟩ } } }
    let t := after (.cavitySample 0 4750) s
    t.c0.cc.markHeld = true ∧ t.c0.cc.events = 4 ∧ t.c0.prb.mark = none ∧
      t.c0.cc.segIndex = some 21 := by decide
theorem test_door_trip_level :
    let t := after (.doorSample 1 1200) twoCavities
    t.c1.cc.state = .faulted ∧ t.c1.prb.doorWarm = true := by decide
theorem test_door_warm_clears_below_the_hysteresis :
    let s := { twoCavities with c1 := { cookingCavity with prb := { cookingCavity.prb with
      doorWarm := true } } }
    (after (.doorSample 1 900) s).c1.prb.doorWarm = true ∧
      (after (.doorSample 1 899) s).c1.prb.doorWarm = false := by decide

/-! ## Lock, door and fan -/

/-- Cavity 0 in LOCKING with its lock on the first leg of a LOCK drive. -/
def locking : State :=
  { openPart with
    segs := twoCavities.segs
    c0 := { openPart.c0 with
      cc := { state := .locking, startSeg := some 21 }
      fan := { command := .low, tach := .watching, tachLeft := 2000 }
      lock := { state := .closing, goal := some .locked, timer := ⟨.running, 4000⟩, motor := .towardClosed,
                openSw := false, mains := true } }
    mains := twoCavities.mains
    sched := twoCavities.sched }

theorem test_locked_report_begins_the_clean :
    let k := (after (.lockSwitchChange 0 .locked true) locking).c0
    k.cc.state = .cleaning ∧ k.cc.segIndex = some 21 ∧ k.cc.direction = some .up ∧ k.cc.speff = 2500 ∧
      k.cc.events = 3 ∧ k.prb.mark = some ⟨.rise, 4750, 0⟩ ∧ k.lock.state = .locked := by decide
theorem test_lost_lock_trips_a_clean :
    let k := (after (.lockSwitchChange 0 .locked false) twoCavities).c0
    k.cc.state = .faulted ∧ k.lock.state = .unknown ∧ k.cond.seen = 0x40 := by decide
theorem test_door_opened_turns_the_drive :
    let k := (after (.doorSwitchChange 0 false) locking).c0
    k.cc.state = .unlocking ∧ k.cc.lastEnd = .startFailed .doorOpen ∧ k.lock.state = .opening ∧
      k.lock.goal = some .opened ∧ k.lock.attempt = 1 := by decide
theorem test_forced_door_trips :
    ((after (.doorSwitchChange 0 false) twoCavities).c0.cond.trip.map (·.first)) = some .doorForced := by
  decide
theorem test_first_timeout_begins_the_retry_leg :
    let l := (after (.travelTimeout 0) locking).c0.lock
    l.state = .opening ∧ l.goal = some .locked ∧ l.attempt = 2 ∧ l.timer = ⟨.running, 4000⟩ := by decide
theorem test_second_timeout_jams :
    let s := { locking with c0 := { locking.c0 with lock := { locking.c0.lock with attempt := 2 } } }
    let k := (after (.travelTimeout 0) s).c0
    k.cc.state = .unlocking ∧ k.cc.lastEnd = .startFailed .lockJam ∧ k.lock.state = .opening ∧
      k.cond.present = 0 ∧ k.cond.seen = 0x20 := by decide

/-- Cavity 0 IDLE at a reading, its fan at the idle speed LOW (06_cooling_fans_and_catalyst.md, 6.7). -/
def cooling (reading : Int) : State :=
  { openPart with c0 := { openPart.c0 with
      prb := { cavity := { reading := reading, fault := false, taken := 3 } }
      fan := { command := .low, idleLow := true, tach := .watching, tachLeft := 2000 } } }

theorem test_review_between_the_levels : (after .levelReview (cooling 824)).c0.fan.command = .low := by
  decide
theorem test_review_below_fan_off :
    let f := (after .levelReview (cooling 749)).c0.fan
    f.command = .off ∧ f.idleLow = false ∧ f.tach = .stopped := by decide
theorem test_silent_interval_stalls :
    let t := after (.tachTimerExpiry 0) (cooling 824)
    t.c0.fan.stall = true ∧ t.c0.cc.state = .faulted := by decide
theorem test_pulse_ends_a_stall :
    let s := { cooling 824 with c0 := { (cooling 824).c0 with
      fan := { (cooling 824).c0.fan with stall := true }, cond := { present := 0x100, seen := 0x100 } } }
    let t := after (.tachPulse 0) s
    t.c0.fan.stall = false ∧ t.c0.cond.present = 0 ∧ t.c0.cond.seen = 0x100 := by decide

/-! ## Witnesses: what meets the hypotheses of the obligations -/

theorem test_witness_StepTakesTheFrontCommand :
    ({ openPart with pending := [.zeroCrossing, .linkOpen] } : State).pending
      = .zeroCrossing :: [.linkOpen] := rfl

theorem test_witness_IdleStepPassesAMillisecond : State.reset.pending = [] := rfl

/-- The part of section 4.13 with its window start at the front of the queue. -/
def aboutToStart : State := { twoCavities with pending := [.windowStart] }

theorem test_witness_a_step_of_a_busy_part :
    step aboutToStart = .next (after .windowStart { aboutToStart with pending := [] }) := rfl

theorem test_witness_LockAndDoorLawsAreKept :
    aboutToStart.UnfittedLaw ∧ aboutToStart.LockLaw ∧ aboutToStart.DoorLaw := by decide

theorem test_witness_HeatLawIsKept : aboutToStart.HeatLaw ∧ windowRunning.HeatLaw := by
  constructor <;> intro c <;> fin_cases c <;>
    exact ⟨fun p => by cases p <;> decide, by decide⟩

theorem test_witness_BudgetLawIsKept : aboutToStart.BudgetLaw ∧ atSlotTen.BudgetLaw := by decide +kernel

theorem test_witness_ProgramLawsAreKept :
    aboutToStart.UnfittedLaw ∧ aboutToStart.ProgramLaw ∧ aboutToStart.SegmentFlagLaw := by
  refine ⟨by decide, fun c => ?_, by decide⟩
  fin_cases c
  · exact ⟨⟨⟨⟨21, rfl, by decide⟩, by decide⟩, by decide⟩, by decide⟩
  · exact ⟨by decide, by decide⟩
  · exact ⟨by decide, by decide⟩

theorem test_witness_SettingsAndSetpointLawsAreKept :
    aboutToStart.SettingsLaw ∧ aboutToStart.SetpointLaw := by
  refine ⟨⟨fun id => ?_, by decide, by decide, by decide⟩, by decide⟩
  cases id with
  | rating c p => fin_cases c <;> cases p <;> decide
  | gain c => fin_cases c <;> decide
  | rampBand c => fin_cases c <;> decide
  | soakBand c => fin_cases c <;> decide
  | tripEnables c => fin_cases c <;> decide
  | attnMask c => fin_cases c <;> decide
  | fanOn c => fin_cases c <;> decide
  | fanOff c => fin_cases c <;> decide
  | _ => decide

theorem test_witness_TripAndConditionLawsAreKept :
    aboutToStart.TripLaw ∧ aboutToStart.ConditionLaw ∧ tripped.TripLaw := by decide

theorem test_witness_FanAndMainsLawsAreKept : aboutToStart.FanLaw ∧ aboutToStart.MainsLaw := by decide

/-- A frame of which only the SUM is still to come. -/
def lastByte (bs : List Byte) : State :=
  { startable with link :=
      { rx := .assembling, assembly := bs, count := bs.length, sum := bs.foldl (· + ·) 0,
        gap := ⟨.running, 20⟩ } }

theorem test_witness_LinkAndMemoryLawsAreKept :
    aboutToStart.LinkLaw ∧ (lastByte [0x60, 2, 0x10, 1, 0x14]).LinkLaw ∧
      atSeal.store.memory.wf = true := by decide

theorem test_witness_AttnFollowsWhatIsWatched :
    let s := { aboutToStart with cfg := { aboutToStart.cfg with cav0 := { attnMask := 0x20 } },
                                 c0 := { tripped.c0 with cc := { tripped.c0.cc with events := 0x20 } } }
    ¬ s.AttnLaw ∧ aboutToStart.AttnLaw ∧ (after .zeroCrossing s).AttnLaw := by decide

theorem test_witness_FrameBytesTakeTheRequest :
    openPart.link.rx = .hunting ∧ (req 0 []).payload.length ≤ 255 ∧
      (req 0 (List.replicate 255 1)).payload.length ≤ 255 := by decide +kernel

theorem test_witness_RequestsMeetTheFrameChecks :
    State.reset.link.rx = .closed ∧
      (let s := { openPart with link := { rx := .hunting, sending := true } }
       s.link.rx ≠ .closed ∧ s.link.sending = true) ∧
      openPart.listening ∧ ReqKind.cookOff.answerTo (req 8 []) = some .badSelect ∧
      ReqKind.cookOff.answerTo (req 7 [0]) = some .badLength ∧
      ReqKind.settingWrite.answerTo (req 0 (List.replicate 36 0)) = some .badLength := by decide

theorem test_witness_ReceivedBytesMoveTheReceiver :
    ¬ State.reset.link.completes ∧ ¬ openPart.link.completes ∧
      ¬ (lastByte [0x60, 2, 0x10, 1]).link.completes := by
  simp [Link.completes, State.reset, openPart, lastByte, at8]

theorem test_witness_CompleteFramesAreJudged :
    (lastByte [0x60, 2, 0x10, 1, 0x14]).LinkLaw ∧ (lastByte [0x60, 2, 0x10, 1, 0x14]).link.completes ∧
      (lastByte [0, 0, 0x7E, 0]).LinkLaw ∧ (lastByte [0, 0, 0x7E, 0]).link.completes := by
  unfold Link.completes; decide

theorem test_witness_LinkOpensCutsAndEndsReplies :
    (let s := { openPart with link := { rx := .hunting, sending := true } }
     s.link.restarting = false) ∧ State.reset.link.sending = false ∧
      (let s := { openPart with link := {}, mains := { firstReturn := false } }
       s.mayOpenLink) ∧ ¬ State.reset.mayOpenLink := by decide

theorem test_witness_StartUpSetsEveryRecord :
    (let s := { openPart with link := { rx := .hunting, sending := true, restarting := true } }
     s.link.sending = true ∧ s.link.restarting = true) := by decide

theorem test_witness_part_wide_requests_are_taken :
    openPart.takes .restart (req 0 []) ∧ twoCavities.takes .budgetLend (req 0 [0, 0]) ∧
      openPart.takes .partEventsAck (req 0 [0x80]) ∧ openPart.takes .windowStatus (req 0 []) ∧
      openPart.takes .partStatus (req 0 []) ∧ openPart.takes .settingRead (req 0 [0, 8, 1]) ∧
      openPart.takes .settingWrite (req 0 [5, 6, 0, 0]) ∧
      openPart.takes .settingWrite (req 0 (List.replicate 34 0)) ∧
      openPart.takes .storeStage (req 0 [1]) ∧ openPart.takes .storeStage (req 0 (List.replicate 48 1)) ∧
      openPart.takes .storeDiscard (req 0 []) ∧ openPart.takes .storeBurn (req 0 []) ∧
      openPart.takes .storeRead (req 0 [7, 255, 1]) := by decide

theorem test_witness_cavity_requests_are_taken :
    openPart.takes .cleanStart (req 1 [63]) ∧ openPart.takes .cleanStart (req 7 [0, 63, 64]) ∧
      openPart.takes .cleanHold (req 1 []) ∧ openPart.takes .cleanResume (req 2 []) ∧
      openPart.takes .cleanAbandon (req 4 []) ∧ openPart.takes .cookSet (req 7 (List.replicate 9 0)) ∧
      openPart.takes .cookOff (req 7 []) ∧ openPart.takes .eventsAck (req 1 [0x3F]) ∧
      openPart.takes .conditionsAck (req 1 [7, 0xFF]) ∧ openPart.takes .faultClear (req 1 []) ∧
      openPart.takes .cavityStatus (req 7 []) ∧ openPart.takes .tripRecord (req 7 []) := by decide

theorem test_witness_BudgetLendShedsFromTheLastRanked :
    atSlotTen.takes .budgetLend (req 0 [0x0A, 0xF0]) ∧ atSlotTen.BudgetLaw := by decide +kernel

theorem test_witness_SettingWriteHoldsOneValue :
    settingAddr 0 0 = some .fittedCount ∧ settingAddr 5 6 = some (.fanOff 2) ∧
      addrDefined 0 9 = false ∧ addrDefined 1 12 = false ∧
      openPart.takes .settingWrite (req 0 [5, 6, 0, 0]) ∧
      openPart.takes .settingWrite (req 0 [1, 12, 0, 0]) := by decide

/-- The fields of the hypotheses of a value stored in the part of section 4.13. -/
def storesOne (s : State) (r : Request) (id : SettingId) : Prop :=
  s.takes .settingWrite r ∧ r.payload.length = 4 ∧
    settingAddr (at8 r.payload 0).toNat (at8 r.payload 1).toNat = some id ∧
    (s.valueResult id (at16 r.payload 2)).refusal = false ∧ s.BudgetLaw

theorem test_witness_StoredSettingsActAtOnce :
    storesOne windowRunning (req 0 [0, 1, 0x03, 0xE8]) .budgetCeiling ∧
      storesOne windowRunning (req 0 [2, 0, 0x0B, 0xB8]) .cleanCeiling ∧
      storesOne windowRunning (req 0 [2, 1, 0x01, 0xF4]) .cookCeiling ∧
      storesOne windowRunning (req 0 [2, 3, 0x03, 0xE8]) .unlockLevel ∧
      storesOne windowRunning (req 0 [3, 3, 0x07, 0x28]) (.tripEnables 0) ∧
      storesOne windowRunning (req 0 [5, 6, 0x02, 0xEE]) (.fanOff 2) := by
  refine ⟨?_, ?_, ?_, ?_, ?_, ?_⟩ <;> exact ⟨by decide, by decide, by decide, by decide, by decide⟩

theorem test_witness_StoredFittedCountActsAtOnce :
    storesOne openPart (req 0 [0, 0, 0, 3]) .fittedCount :=
  ⟨by decide, by decide, by decide, by unfold State.valueResult; decide, by decide⟩

theorem test_witness_SettingWriteGoesValueByValue :
    let r := req 0 ([3, 5, 0x03, 0xE8] ++ [0x03, 0x20])
    openPart.takes .settingWrite r ∧ r.payload = [3, 5, 0x03, 0xE8] ++ [0x03, 0x20] := by decide

theorem test_witness_SegmentWriteStoresOneField :
    let r := req 0 [15, 63, 0, 255]
    openPart.takes .settingWrite r ∧ r.payload.length = 4 ∧ 5 < (at8 r.payload 0).toNat ∧
      (at8 r.payload 0).toNat ≤ 15 ∧ (at8 r.payload 1).toNat ≤ 63 ∧
      openPart.takes .settingWrite (req 0 [8, 64, 0, 1]) ∧
      openPart.takes .settingWrite (req 0 [7, 0, 0, 1]) := by decide

theorem test_witness_BurnGoesByteByByte :
    atSeal.store.burn = .burning ∧ atSeal.store.burnLeft = (2047, 0x3C) :: [] ∧
      openPart.store.burn ≠ .burning := by decide

theorem test_witness_LaterPatchesOnlyTighten :
    (1 : Nat) ≠ 0 ∧ Memory.read [(2042, 0xE1), (2047, 0x3C)] (2042 - 6 * 1 + 5) ≠ 0x3C := by decide

/-- The part of section 4.13 with a change to cavity 0's probes. -/
def probed (cavity door : Probe) : State :=
  { twoCavities with c0 := { cleaningCavity with
      prb := { cleaningCavity.prb with cavity := cavity, door := door } } }

theorem test_witness_SampleOnsetsTripTheCavity :
    let good : Probe := { reading := 3500, fault := false, taken := 3 }
    let s := probed { good with bad := 2 } { good with bad := 2 }
    let u := probed good good
    s.fitted 0 = true ∧ (s.cav 0).raisedByCavity (s.env 0) 6001 = some .sensor ∧
      (u.cav 0).raisedByCavity (u.env 0) 5101 = some .overtemp ∧
      (u.cav 0).raisedByCavity (u.env 0) 5100 = none ∧
      (s.cav 0).raisedByDoor (s.env 0) (-401) = some .doorProbe ∧
      (u.cav 0).raisedByDoor (u.env 0) 1200 = some .doorHot := by decide

theorem test_witness_MarksAreConfirmedAndMoveTheProgram :
    twoCavities.quietSample 0 4750 ∧ twoCavities.quietSample 0 4749 ∧
      (twoCavities.cav 0).cc.state = .cleaning ∧
      (twoCavities.cav 0).prb.mark = some ⟨.rise, 4750, 0⟩ ∧
      (let h := after (.cleanHold (req 1 [])) windowRunning
       h.quietSample 0 5100 ∧ (h.cav 0).cc.state = .held ∧
         (h.cav 0).prb.mark = some ⟨.rise, 4750, 0⟩) ∧
      (probed { reading := 3500, good := 2, taken := 3 } {}).quietSample 0 4750 ∧
      (let s := probed { reading := 3500, good := 1, taken := 3 } {}
       s.fitted 0 = true ∧ (s.cav 0).cc.recovering = false ∧
         (s.cav 0).prb.cavity.goodSample (-400) 6000 4750 = false ∧
         (s.cav 0).prb.cavity.faultReported (-400) 6000 4750 = false) ∧
      (let s := probed { reading := 3500, fault := false, bad := 2, taken := 3 } {}
       s.fitted 0 = true ∧ (s.cav 0).cc.recovering = false ∧
         (s.cav 0).prb.cavity.goodSample (-400) 6000 6001 = false ∧
         (s.cav 0).prb.cavity.faultReported (-400) 6000 6001 = true) := by decide

/-- Cavity 0 in a state of a cycle's end, its lock LOCKED. -/
def ending (st : CavState) : State :=
  { openPart with c0 := { openPart.c0 with
      cc := { state := st }, lock := { state := .locked, lockedSw := true, openSw := false, mains := true } } }

/-- Cavity 0 with its lock on the first leg of a RELEASE drive, its probe as given. -/
def releasing (st : CavState) (p : Probe) : State :=
  { openPart with c0 := { openPart.c0 with
      cc := { state := st }, prb := { cavity := p }
      lock := { state := .opening, goal := some .opened, timer := ⟨.running, 4000⟩, motor := .towardOpen,
                openSw := false, mains := true } } }

theorem test_witness_a_sample_stops_an_open_drive :
    let good : Probe := { reading := 2400, fault := false, taken := 3 }
    let met (s : State) (v : Int) : Prop :=
      (s.cav 0).prb.mark = none ∧ s.fitted 0 = true ∧ (s.cav 0).cc.recovering = false ∧
        (s.cav 0).cc.state ≠ .faulted ∧ (s.cav 0).lock.motor = .towardOpen ∧
        ((s.cav 0).prb.cavity.faultReported (-400) 6000 v = true ∨
          ((s.cav 0).prb.cavity.goodSample (-400) 6000 v = true ∧ (s.cfg.limits.unlockLevel : Int) ≤ v))
    met (releasing .unlocking good) 2500 ∧ met (releasing .idle good) 5101 ∧
      met (releasing .idle { good with bad := 2 }) (-401) ∧
      met (releasing .locking { good with bad := 2 }) 6001 := by decide

theorem test_witness_GoodSamplesReleaseTheLock :
    ((ending .cooldown).quietSample 0 2499 ∧ ((ending .cooldown).cav 0).prb.mark = none) ∧
      ((ending .unlocking).quietSample 0 2500 ∧ ((ending .unlocking).cav 0).prb.mark = none) ∧
      ((ending .idle).quietSample 0 (-400) ∧ ((ending .idle).cav 0).prb.mark = none) ∧
      ({ ending .cooldown with c0 := { (ending .cooldown).c0 with
        prb := { cavity := { reading := 2524, good := 2, taken := 3 }, overtemp := true } } } :
          State).quietSample 0 2471 := by decide

/-- Cavity 0 before the third sample of start-up. -/
def starting : State :=
  { State.reset with c0 := { State.reset.c0 with prb := { cavity := { taken := 2, good := 2 } } } }

theorem test_witness_ThirdSampleRecoversTheCavity :
    starting.fitted 0 = true ∧ (starting.cav 0).cc.recovering = true ∧
      (starting.cav 0).prb.cavity.taken = 2 ∧ (starting.cav 0).prb.cavity.fault = true ∧
      (starting.cav 0).cc.state = .idle ∧ (starting.cav 0).cond.present = 0 ∧
      (starting.cav 0).prb.mark = none ∧ (starting.cav 0).lock.motor ≠ .towardOpen ∧
      (starting.cav 0).lock.state = .opened ∧
      (5100 : Int) ≤ (starting.cfg.limits.cleanCeiling : Int) + starting.cfg.limits.overtempMargin := by
  decide

theorem test_witness_WindowStart :
    twoCavities.mains.present = true ∧ twoCavities.notStarving ∧ twoCavities.fitted 1 = true ∧
      State.reset.mains.present = false := by
  unfold State.notStarving; decide

theorem test_witness_StarvationCountsShortWindows :
    let s := { twoCavities with
      c0 := { cleaningCavity with starve := 39 }
      cfg := { twoCavities.cfg with cav0 := { tripEnables := 0x0508 } }
      sched := { twoCavities.sched with lend := 1000 } }
    s.mains.present = true ∧ s.fitted 0 = true ∧ s.ConditionLaw ∧ s.TripLaw ∧
      (s.cav 0).cc.state = .cleaning ∧ (s.cav 0).starve = 39 ∧
      ((after .windowStart s).cav 0).isShort ∧ (s.env 0).page.tripEnables.testBit 10 = true := by decide

theorem test_witness_SlotBoundariesSetTheRelays :
    (let s := { windowRunning with sched := { windowRunning.sched with slot := some 28 } }
     s.sched.slot = some 28 ∧ s.mains.present = true ∧ 28 + 1 < 30) ∧
      twoCavities.sched.slot = some 29 ∧ State.reset.sched.slot = none := by decide

theorem test_witness_CrossingsAndReadingsReachTheMainsMonitor :
    twoCavities.mains.present = true ∧ State.reset.mains.present = false ∧
      (∀ ms ∈ State.reset.mains.run, ms < 1000) ∧
      (let s := { State.reset with mains := { run := some 999 } }
       s.mains.present = false ∧ ∀ ms ∈ s.mains.run, ms < 1000) ∧
      (let s := { State.reset with mains := { run := some 1000 } }
       s.mains.present = false ∧ (∃ ms ∈ s.mains.run, 1000 ≤ ms) ∧ s.LockLaw ∧ s.DoorLaw ∧
         (∀ c : CavNo, (s.cav c).lock.mains = false) ∧ s.notStarving) := by
  unfold State.notStarving; decide

/-- The part of section 4.13 before the third bad sample of cavity 0's probe. -/
def aboutToTrip : State :=
  probed { reading := 3500, fault := false, bad := 2, taken := 3 } cleaningCavity.prb.door

theorem test_witness_TripsDoTheirActions :
    exec (.cavitySample 0 6001) aboutToTrip = .next (after (.cavitySample 0 6001) aboutToTrip) ∧
      aboutToTrip.LockLaw ∧ aboutToTrip.HeatLaw ∧ (∀ d : CavNo, (aboutToTrip.cav d).presentSeen) ∧
      (aboutToTrip.cav 0).cc.state ≠ .faulted ∧
      ((after (.cavitySample 0 6001) aboutToTrip).cav 0).cc.state = .faulted := by
  refine ⟨rfl, by decide, fun c => ?_, by decide, by decide, by decide⟩
  fin_cases c <;> exact ⟨fun p => by cases p <;> decide, by decide⟩

theorem test_witness_a_trip_by_neither_sample_nor_switch :
    let s := { cooling 824 with c0 := { (cooling 824).c0 with lock := { mains := true } } }
    exec (.tachTimerExpiry 0) s = .next (after (.tachTimerExpiry 0) s) ∧ s.LockLaw ∧
      (∀ d : CavNo, (s.cav d).presentSeen) ∧ (s.cav 0).cc.state = .idle ∧
      ((after (.tachTimerExpiry 0) s).cav 0).cc.state = .faulted :=
  ⟨rfl, by decide, by decide, by decide, by decide⟩

theorem test_witness_TripRecordStandsUntilCleared :
    exec .levelReview tripped = .next (after .levelReview tripped) ∧ tripped.TripLaw ∧
      (tripped.cav 0).cc.state = .faulted :=
  ⟨rfl, by decide, by decide⟩

end Sys2Proof.Tests
end

namespace Sys2Proof.Machine

/-! ## Sets of conditions -/

section CondSets
variable (m : CondSet)

theorem Condition.bit_lt (c : Condition) : c.bit < 11 := by cases c <;> decide

theorem Condition.bit_inj {c d : Condition} : c.bit = d.bit ↔ c = d := by
  constructor
  · cases c <;> cases d <;> simp [Condition.bit]
  · rintro rfl; rfl

@[simp] theorem mem_allConditions (c : Condition) : c ∈ allConditions := by cases c <;> decide

@[simp] theorem CondSet.has_add (c d : Condition) : (m.add c).has d = (m.has d || decide (d = c)) := by
  simp [CondSet.has, CondSet.add, c.bit_lt, Condition.bit_inj]

@[simp] theorem CondSet.has_del (c d : Condition) : (m.del c).has d = (m.has d && decide (d ≠ c)) := by
  simp [CondSet.has, CondSet.del, Condition.bit_inj]

@[simp] theorem CondSet.has_zero (d : Condition) : CondSet.has 0#11 d = false := by
  simp [CondSet.has, maskHas]

/-- A set of conditions is its members. -/
theorem CondSet.ext {m n : CondSet} (h : ∀ c, m.has c = n.has c) : m = n := by
  have key : ∀ i : Nat, i < 11 → ∃ c : Condition, c.bit = i := by
    intro i hi
    have : ∃ c ∈ allConditions, c.bit = i := by interval_cases i <;> decide
    exact this.imp fun c hc => hc.2
  refine BitVec.eq_of_getLsbD_eq fun i hi => ?_
  obtain ⟨c, rfl⟩ := key i hi
  exact h c

theorem CondSet.has_foldl_add (cs : List Condition) (d : Condition) :
    (cs.foldl CondSet.add m).has d = (m.has d || cs.contains d) := by
  induction cs generalizing m with
  | nil => simp
  | cons c cs ih =>
    rw [List.foldl_cons, ih, CondSet.has_add, List.contains_cons, Bool.or_assoc, beq_eq_decide]

@[simp] theorem CondSet.has_ofList (cs : List Condition) (d : Condition) :
    (CondSet.ofList cs).has d = cs.contains d := by
  simp [CondSet.ofList, CondSet.has_foldl_add]

end CondSets

/-! ## The conditions that trip (R136, R137) -/

section Causes
variable (p : CavityPage) (st : CavState) (m n : CondSet)

@[simp] theorem tripsIn_faulted (c : Condition) : tripsIn p .faulted c = false := by cases c <;> rfl

/-- STARVED trips in CLEANING alone. -/
theorem tripsIn_starved_of_ne {st : CavState} (h : st ≠ .cleaning) : tripsIn p st .starved = false := by
  cases st <;> first | rfl | exact absurd rfl h

@[simp] theorem causesIn_faulted : causesIn p .faulted m = [] := by simp [causesIn]

/-- The causes depend only on the conditions present that trip in the state. -/
theorem causesIn_congr {m n : CondSet} (h : ∀ c, tripsIn p st c = true → m.has c = n.has c) :
    causesIn p st m = causesIn p st n := by
  refine List.filter_congr fun c _ => ?_
  cases ht : tripsIn p st c
  · simp
  · simp [h c ht]

/-- The end of STARVED takes no cause from a state other than CLEANING. -/
theorem causesIn_del_starved {st : CavState} (h : st ≠ .cleaning) :
    causesIn p st (m.del .starved) = causesIn p st m := by
  refine causesIn_congr p st fun c hc => ?_
  have hne : c ≠ .starved := by
    rintro rfl
    simp [tripsIn_starved_of_ne p h] at hc
  simp [hne]

/-- No cause stands where no condition present trips. -/
theorem causesIn_eq_nil_iff : causesIn p st m = [] ↔ ∀ c, m.has c = true → tripsIn p st c = false := by
  simp [causesIn, List.filter_eq_nil_iff]

end Causes

/-! ## The fan decision and the entry of a state -/

section Entry
variable (e : Env) (st : CavState) (k : Cavity)

/-- What matters to a decision of the fan: the command and the tach timer. -/
def Fan.sameDrive (f g : Fan) : Prop :=
  g.command = f.command ∧ g.tach = f.tach ∧ g.tachLeft = f.tachLeft ∧ g.stall = f.stall ∧
    g.pulseSeen = f.pulseSeen

/-- The drive after the model's decision is decided as R125 and R128 give, from any record with the same
command and tach timer. -/
theorem Fan.decided_take {f g : Fan} (h : f.sameDrive g) : f.decided st (g.take (g.wanted st)) := by
  obtain ⟨hc, ht, hl, hs, hp⟩ := h
  obtain ⟨h1, h2, h3, h4, h5, h6, -⟩ := Fan.take_keeps g (g.wanted st)
  refine ⟨by rw [h1, h2, h3, h4, h5, Fan.wanted_eq], by rw [h6, hp], ?_⟩
  rw [h1]
  unfold Fan.take
  rw [hc]
  by_cases hw : g.wanted st = f.command
  · simp [hw, ht, hl, hs]
  · by_cases ho : g.wanted st = .off
    · simp [ho, show ¬ (FanSpeed.off = f.command) from ho ▸ hw]
    · by_cases hf : f.command = .off <;> simp [hw, ho, hf, ht, hl, hs, Config.tachMs]

/-- A stall ends in a decision only where the fan goes OFF. -/
theorem Fan.take_stall {f : Fan} {cmd : FanSpeed} (h : cmd = .off → f.command = .off) :
    (f.take cmd).stall = f.stall := by
  unfold Fan.take
  by_cases hc : cmd = f.command
  · simp [hc]
  · have ho : cmd ≠ .off := fun ho => hc (ho.trans (h ho).symm)
    by_cases hf : f.command = .off <;> simp [hc, ho, hf]

/-- A decision that does not take the fan OFF tells the condition monitor nothing. -/
theorem Cavity.decideFan_cond (h : k.fan.wanted k.cc.state = .off → k.fan.command = .off) :
    k.decideFan.cond = k.cond := by
  simp only [Cavity.decideFan, Fan.take_stall h]
  simp

/-- The policy gives OFF in IDLE alone, with the idle speed not LOW. -/
theorem Fan.wanted_off {f : Fan} {st : CavState} (h : f.wanted st = .off) :
    st = .idle ∧ f.idleLow = false := by
  cases st <;> grind [Fan.wanted]

/-- The conditions after an entry: STARVED ends outside CLEANING and HELD, and no stall ends. -/
theorem Cavity.enterState_cond : (k.enterState e st).cond =
    if st.keepsStarve then k.cond else { k.cond with present := k.cond.present.del .starved } := by
  unfold Cavity.enterState
  refine Cavity.decideFan_cond _ fun h => ?_
  obtain ⟨hst, hlow⟩ := Fan.wanted_off h
  have hst : st = .idle := hst
  subst hst
  simpa [Fan.setIdle] using hlow

theorem Cavity.enterState_present : (k.enterState e st).cond.present =
    if st.keepsStarve then k.cond.present else k.cond.present.del .starved := by
  rw [Cavity.enterState_cond]; split <;> rfl

/-- The causes that an entry is decided on are those of the conditions that were present before it. -/
theorem Cavity.causesIn_enterState (p : CavityPage) :
    causesIn p st (k.enterState e st).cond.present = causesIn p st k.cond.present := by
  rw [Cavity.enterState_present]
  by_cases h : st = .cleaning
  · simp [h, CavState.keepsStarve]
  · split
    · rfl
    · exact causesIn_del_starved p _ h

theorem CavState.allows_iff (p : Position) :
    st.allows p = true ↔ st = .cleaning ∨ (st = .cooking ∧ p ≠ .cat) := by
  cases st <;> cases p <;> simp [CavState.allows]

theorem CavState.keepsStarve_iff : st.keepsStarve = true ↔ st = .cleaning ∨ st = .held := by
  cases st <;> simp [CavState.keepsStarve]

/-- The drive after an entry of a state. -/
theorem Cavity.enterState_fan_keeps :
    (k.enterState e st).fan.idleLow = (if st = .idle then decide (k.fan.command ≠ .off) else k.fan.idleLow) ∧
    (k.enterState e st).fan.probeView = k.fan.probeView ∧
    (k.enterState e st).fan.warmView = k.fan.warmView ∧
    (k.enterState e st).fan.segFlag = k.fan.segFlag ∧
    (k.enterState e st).fan.catalyst = (k.fan.catalyst && decide (st = .cleaning)) := by
  obtain ⟨-, h2, h3, h4, h5, -, h7⟩ := Fan.take_keeps
    ({ (if st = .idle then k.fan.setIdle else k.fan) with
        catalyst := (if st = .idle then k.fan.setIdle else k.fan).catalyst && st = .cleaning } : Fan)
    (({ (if st = .idle then k.fan.setIdle else k.fan) with
        catalyst := (if st = .idle then k.fan.setIdle else k.fan).catalyst && st = .cleaning } : Fan).wanted st)
  refine ⟨h2.trans ?_, h3.trans ?_, h4.trans ?_, h5.trans ?_, h7.trans ?_⟩ <;>
    by_cases h : st = .idle <;> simp [h, Fan.setIdle]
  cases k.fan.command <;> rfl

/-- The entry of a state is the entry of the statements. -/
theorem Cavity.enterState_enters : k.enters e st (k.enterState e st) := by
  obtain ⟨hlow, hprobe, hwarm, -, hcat⟩ := Cavity.enterState_fan_keeps e st k
  refine ⟨fun p _ => ?_, ?_, fun h => by simp [hcat, h], hlow, hprobe, hwarm, ?_⟩
  · simp only [Cavity.enterState_channel, CavState.allows_iff]
  · simp only [Cavity.enterState_starve, Cavity.enterState_cond, CavState.keepsStarve_iff]
    split <;> exact ⟨rfl, rfl⟩
  · refine Fan.decided_take (f := k.fan) st ?_
    by_cases h : st = .idle <;> simp [h, Fan.sameDrive, Fan.setIdle]

end Entry

end Sys2Proof.Machine

namespace Sys2Proof.Machine

/-! ## The trip (R139, R140) -/

section Trip
variable (e : Env) (c : Condition) (later : CondSet) (k : Cavity)

/-- Clearing the program touches neither the channels nor the fan's decided record nor the conditions. -/
@[simp] theorem Cavity.clearProgram_channel (p : Position) : k.clearProgram.channel p = k.channel p := by
  cases p <;> rfl
@[simp] theorem Cavity.writeEnd_channel (v : LastEnd) (p : Position) :
    (k.writeEnd v).channel p = k.channel p := by
  cases p <;> rfl

/-- The fields of a tripped cavity, each as the entry of FAULTED leaves it but for what the nine actions
do besides. -/
theorem Cavity.trip_channel (p : Position) :
    (k.trip e c later).channel p = (k.channel p).shedFrom e.slot := by
  have h : (k.trip e c later).channel p = (k.enterState e .faulted).channel p := by
    unfold Cavity.trip; dsimp only; split <;> split <;> cases p <;> rfl
  rw [h]; simp [CavState.allows]

theorem Cavity.trip_starve : (k.trip e c later).starve = 0 := by
  unfold Cavity.trip; dsimp only; split <;> split <;> rfl

theorem Cavity.trip_fan : (k.trip e c later).fan.command = .high ∧
    (k.trip e c later).fan.catalyst = false := by
  have h : (k.enterState e .faulted).fan.command = .high ∧
      (k.enterState e .faulted).fan.catalyst = false := by
    obtain ⟨-, -, -, -, hcat⟩ := Cavity.enterState_fan_keeps e .faulted k
    exact ⟨Cavity.decideFan_command _, by simpa using hcat⟩
  unfold Cavity.trip; dsimp only; split <;> split <;> exact h

theorem Cavity.trip_cond : (k.trip e c later).cond.present = k.cond.present.del .starved ∧
    (k.trip e c later).cond.seen = k.cond.seen := by
  have h : (k.enterState e .faulted).cond.present = k.cond.present.del .starved ∧
      (k.enterState e .faulted).cond.seen = k.cond.seen :=
    ⟨Cavity.enterState_present e .faulted k, Cavity.enterState_seen e .faulted k⟩
  unfold Cavity.trip; dsimp only; split <;> split <;> exact h

/-- The controller's fields that every trip leaves alike. -/
theorem Cavity.trip_cc : (k.trip e c later).cc.demand = 0 ∧ (k.trip e c later).cc.speff = 0 ∧
    (k.trip e c later).cc.events = maskAdd k.cc.events CavEvent.tripped.bit ∧
    (k.trip e c later).cc.startSeg = none ∧ (k.trip e c later).cc.cookSetpoint = 0 ∧
    (k.trip e c later).cc.cookSet = 0 ∧ (k.trip e c later).cc.recovering = k.cc.recovering := by
  unfold Cavity.trip; dsimp only; split <;> split <;> exact ⟨rfl, rfl, rfl, rfl, rfl, rfl, rfl⟩

/-- A trip disarms the detector of a cavity in CLEANING or HELD and leaves the probes. -/
theorem Cavity.trip_prb : (k.trip e c later).prb =
    if k.cc.state = .cleaning ∨ k.cc.state = .held then { k.prb with mark := none } else k.prb := by
  unfold Cavity.trip; dsimp only
  by_cases h : k.cc.state = .cleaning ∨ k.cc.state = .held
  · simp only [h, Bool.or_eq_true, decide_eq_true_eq, if_true]; split <;> rfl
  · simp only [h, Bool.or_eq_true, decide_eq_true_eq, if_false]; split <;> rfl

theorem Cavity.trip_prb_cavity : (k.trip e c later).prb.cavity = k.prb.cavity := by
  rw [Cavity.trip_prb]; split <;> rfl

/-- The segment index that a trip's record holds. -/
theorem Cavity.trip_record_segIndex : (k.trip e c later).cond.trip.bind (·.segIndex) =
    if k.cc.state = .cleaning ∨ k.cc.state = .held then k.cc.segIndex else none := by
  simp [Cavity.trip, Cavity.openRecord]

/-- A trip is the trip of the statements, with its causes in order. -/
theorem Cavity.trip_trippedBy (rest : List Condition) :
    (k.trip e c (CondSet.ofList rest)).trippedBy e.slot (c :: rest) := by
  obtain ⟨x, hx, hfirst, hlater, -, -⟩ := Cavity.trip_record e k c (CondSet.ofList rest)
  obtain ⟨hd, hs, hev, -⟩ := Cavity.trip_cc e c (CondSet.ofList rest) k
  obtain ⟨hcmd, hcat⟩ := Cavity.trip_fan e c (CondSet.ofList rest) k
  refine ⟨Cavity.trip_state .., by simp [hx, hfirst], ?_, ?_, hd, hs, fun p _ => ?_, hcat, hcmd⟩
  · intro y hy d _
    obtain rfl : x = y := by simpa [hx] using hy
    simp [hlater]
  · rw [hev]; simp [CavEvent.bit]
  · rw [Cavity.trip_channel, Channel.holdsFrom_shedFrom]

/-- A trip by one condition alone. -/
theorem Cavity.trip_trippedBy_one : (k.trip e c 0).trippedBy e.slot [c] :=
  Cavity.trip_trippedBy e c k []

end Trip

/-! ## The decision of an entry (R137) -/

section Decide
variable (e : Env) (k : Cavity)

/-- Nothing is decided where no condition present trips. -/
theorem Cavity.decideEntry_of_nil (h : causesIn e.page k.cc.state k.cond.present = []) :
    k.decideEntry e = k := by
  obtain ⟨-, hk⟩ | ⟨c, rest, hc, -⟩ := Cavity.decideEntry_cases e k
  · exact hk
  · simp [h] at hc

/-- An entry decided is one that is made unless a condition present trips: `entered` is said of the cavity
where the decision leaves it. -/
theorem Cavity.decideEntry_entersUnless {e : Env} {k : Cavity} {st : CavState} {present : CondSet}
    {entered : Prop} (hst : k.cc.state = st)
    (hp : causesIn e.page st k.cond.present = causesIn e.page st present)
    (h : k.decideEntry e = k → entered) : (k.decideEntry e).entersUnless e st present entered := by
  unfold Cavity.entersUnless
  obtain ⟨hc, hk⟩ | ⟨c, rest, hc, hk⟩ := Cavity.decideEntry_cases e k
  · rw [hst, hp] at hc
    rw [if_pos hc]
    exact h hk
  · rw [hst, hp] at hc
    rw [hc, if_neg (by simp), hk]
    exact Cavity.trip_trippedBy ..

/-- A decision leaves the lock where it is at rest. -/
theorem Lock.takeStop_of_rests {l : Lock} (h : l.state.travelling = false) : l.takeStop.1 = l := by
  simp [Lock.takeStop, h]

theorem Cavity.decideEntry_lock (h : k.lock.state.travelling = false) :
    (k.decideEntry e).lock = k.lock := by
  obtain ⟨-, hk⟩ | ⟨c, rest, -, hk⟩ := Cavity.decideEntry_cases e k
  · rw [hk]
  · rw [hk, Cavity.trip_lock, Lock.takeStop_of_rests h]

/-- A cavity already decided is not decided again: a trip leaves FAULTED, where nothing trips. -/
@[simp] theorem Cavity.decideEntry_decideEntry : (k.decideEntry e).decideEntry e = k.decideEntry e := by
  obtain ⟨hc, hk⟩ | ⟨c, rest, -, hk⟩ := Cavity.decideEntry_cases e k
  · rw [hk, hk]
  · rw [hk]
    exact Cavity.decideEntry_of_nil e _ (by simp)

end Decide

/-! ## Entry to COOLDOWN and IDLE (R23, R25) -/

section Endings
variable (e : Env) (k : Cavity)

/-- The model's entry to COOLDOWN is the one of the statements. -/
theorem Cavity.enterCooldown_intoCooldown (why : LastEnd) :
    k.intoCooldown e why (k.enterCooldown e why) := by
  obtain ⟨hch, hcond, hcat, hlow, hprobe, hwarm, hdec⟩ :=
    Cavity.enterState_enters e .cooldown (k.writeEnd why)
  refine Cavity.decideEntry_entersUnless rfl
    (Cavity.causesIn_enterState e .cooldown (k.writeEnd why) e.page) fun hd => ?_
  unfold Cavity.enterCooldown
  rw [hd]
  refine ⟨rfl, rfl, rfl, ⟨fun p hp => ?_, hcond, hcat, hlow, hprobe, hwarm, ?_⟩, rfl⟩
  · rw [Cavity.clearProgram_channel, hch p hp, Cavity.writeEnd_channel]
  · obtain ⟨hcmd, hrest⟩ := hdec
    exact ⟨hcmd, hrest⟩

/-- The model's end in IDLE is the one of the statements, from a cavity `k1` that has come from `k`. -/
theorem Cavity.endInIdle_endsIdle {k k1 : Cavity} {lastEnd : LastEnd} {present : CondSet}
    (hend : k1.cc.lastEnd = lastEnd)
    (hp : causesIn e.page .idle k1.cond.present = causesIn e.page .idle present)
    (hev : k1.cc.events = k.cc.events) (hcy : k1.cc.cycle = k.cc.cycle) (hho : k1.cc.hold = k.cc.hold)
    (hprb : k1.prb = k.prb) : k.endsIdle e lastEnd present (k1.endInIdle e) := by
  refine Cavity.decideEntry_entersUnless rfl
    ((Cavity.causesIn_enterState e .idle k1 e.page).trans hp) fun hd => ?_
  unfold Cavity.endInIdle
  rw [hd]
  exact ⟨rfl, hend, congrArg (maskAdd · _) hev, hcy, hho, rfl, rfl, rfl, hprb⟩

theorem Cavity.endInIdle_lock (h : k.lock.state.travelling = false) : (k.endInIdle e).lock = k.lock :=
  Cavity.decideEntry_lock e _ h

/-- After the end in IDLE the cavity stands IDLE or FAULTED. -/
theorem Cavity.endInIdle_state : (k.endInIdle e).cc.state = .idle ∨ (k.endInIdle e).cc.state = .faulted := by
  unfold Cavity.endInIdle
  obtain ⟨-, hk⟩ | ⟨c, rest, -, hk⟩ :=
    Cavity.decideEntry_cases e ((k.enterState e .idle).setEvent .cycleEnded) <;> rw [hk]
  · exact .inl rfl
  · exact .inr (Cavity.trip_state ..)

@[simp] theorem Cavity.decideEntry_endInIdle : (k.endInIdle e).decideEntry e = k.endInIdle e :=
  Cavity.decideEntry_decideEntry ..

end Endings

end Sys2Proof.Machine

namespace Sys2Proof.Machine

/-! ## The program moves on (R37, R45 to R49) -/

section Program
variable (e : Env) (k : Cavity)

/-- SPeff from a reading is the held reading of the statements. -/
theorem Env.speffOfReading_eq (r : Int) : e.speffOfReading r = e.heldReading r := by
  unfold Env.speffOfReading Env.heldReading
  split
  · next h => simp [max_eq_right h]
  · next h =>
    rw [max_eq_left (by omega)]
    split <;> omega

/-- The positions that a segment allows heat are those of the statements. -/
theorem Segment.allows_eq (r : Segment) (p : Position) : r.allows p = r.heats p := by
  cases p <;> cases h : r.kind <;>
    simp [Segment.allows, Segment.heats, h, Segment.catalyst, maskHas, ElemSet.hasPos, Position.elemBit]

/-- The detector that a segment arms is the one of the statements. -/
theorem Env.arming_eq (r : Segment) (v : Nat) : e.arming r v = e.detector r (e.rampDir r v) := by
  unfold Env.arming Env.detector Env.rampDir
  cases h : r.kind
  case ramp => by_cases hv : v ≤ e.target r * 10 <;> simp [hv] <;> rfl
  all_goals simp [Env.target, Env.level]

/-- What an entry of a segment leaves the fan with besides its command. -/
theorem Cavity.enterSegment_fan_keeps (i : Nat) (stack : List Nat) :
    (k.enterSegment e i stack).fan.segFlag = (e.segs.at i).fanHigh ∧
    (k.enterSegment e i stack).fan.catalyst = (e.segs.at i).catalyst ∧
    (k.enterSegment e i stack).fan.idleLow = k.fan.idleLow ∧
    (k.enterSegment e i stack).fan.probeView = k.fan.probeView ∧
    (k.enterSegment e i stack).fan.warmView = k.fan.warmView := by
  obtain ⟨-, h2, h3, h4, h5, -, h7⟩ := Fan.take_keeps
    { k.fan with segFlag := (e.segs.at i).fanHigh, catalyst := (e.segs.at i).catalyst }
    (({ k.fan with segFlag := (e.segs.at i).fanHigh, catalyst := (e.segs.at i).catalyst } : Fan).wanted
      k.cc.state)
  exact ⟨h5, h7, h2, h3, h4⟩

theorem Cavity.enterSegment_channel (i : Nat) (stack : List Nat) (p : Position) :
    (k.enterSegment e i stack).channel p =
      if (e.segs.at i).heats p then k.channel p else (k.channel p).shedFrom e.slot := by
  have h : (k.enterSegment e i stack).channel p =
      (k.shedWhere e.slot fun p => !(e.segs.at i).allows p).channel p := by cases p <;> rfl
  rw [h, Cavity.shedWhere, Cavity.channel_mapChannels, ← Segment.allows_eq]
  cases (e.segs.at i).allows p <;> rfl

/-- Outside IDLE an entry of a segment ends no stall. -/
theorem Cavity.enterSegment_cond (h : k.cc.state ≠ .idle) (i : Nat) (stack : List Nat) :
    (k.enterSegment e i stack).cond = k.cond := by
  unfold Cavity.enterSegment
  exact Cavity.decideFan_cond _ fun ho => absurd (Fan.wanted_off ho).1 h

/-- The model's entry of a timed segment is the one of the statements. -/
theorem Cavity.enterSegment_entersSegment (i : Nat) (stack : List Nat) :
    k.entersSegment e i stack (k.enterSegment e i stack) := by
  obtain ⟨hseg, hcat, hlow, hprobe, hwarm⟩ := Cavity.enterSegment_fan_keeps e k i stack
  refine ⟨rfl, ?_, rfl, rfl, fun p _ => Cavity.enterSegment_channel e k i stack p, hseg, hcat, hlow,
    hprobe, hwarm, Fan.decided_take (f := k.fan) k.cc.state ⟨rfl, rfl, rfl, rfl, rfl⟩⟩
  simp only [Cavity.enterSegment, Cavity.decideFan_prb, Env.arming_eq]
  rfl

/-- A momentary condition from a cavity not FAULTED trips it where the table says so, and is otherwise
seen alone. -/
theorem Cavity.momentary_of_trips {c : Condition} (h : tripsIn e.page k.cc.state c = true) :
    k.momentary e c =
      ({ k with cond := { k.cond with seen := k.cond.seen.add c } } : Cavity).trip e c 0 := by
  have hf : k.cc.state ≠ .faulted := fun hf => by simp [hf] at h
  simp [Cavity.momentary, Cavity.judge, hf, CavState.trips_eq, h]

theorem Cavity.momentary_of_not_trips {c : Condition} (hf : k.cc.state ≠ .faulted)
    (h : tripsIn e.page k.cc.state c = false) :
    k.momentary e c = { k with cond := { k.cond with seen := k.cond.seen.add c } } := by
  simp [Cavity.momentary, Cavity.judge, hf, CavState.trips_eq, h]

/-- A program fault in CLEANING: the trip by PROGRAM where its enable is on, and otherwise COOLDOWN. -/
theorem Cavity.programFault_eq (hst : k.cc.state = .cleaning) (sub : ProgramFault) (i : Option Nat)
    (stack : List Nat) :
    k.programFault e sub i stack =
      let seen : Cavity := { k with cc := { k.cc with segIndex := i, stack := stack },
                                    cond := { k.cond with seen := k.cond.seen.add .program } }
      if e.page.tripEnables.testBit 9 then seen.trip e .program 0
      else seen.enterCooldown e (.programFault sub) := by
  have ht : tripsIn e.page k.cc.state .program = e.page.tripEnables.testBit 9 := by rw [hst]; rfl
  have hf : k.cc.state ≠ .faulted := by simp [hst]
  let k1 : Cavity := { k with cc := { k.cc with segIndex := i, stack := stack } }
  have trips := Cavity.momentary_of_trips e k1 (c := .program)
  have stays := Cavity.momentary_of_not_trips e k1 (c := .program) hf
  unfold Cavity.programFault
  dsimp only
  cases hb : e.page.tripEnables.testBit 9 with
  | true => rw [trips (ht.trans hb)]; simp [k1]
  | false => rw [stays (ht.trans hb)]; simp [k1, hf]

/-- The model's move to an index in CLEANING is the one of the statements. -/
theorem Cavity.moveTo_movesOn (hst : k.cc.state = .cleaning) (i : Nat) :
    k.movesOn e i (k.moveTo e i) := by
  unfold Cavity.movesOn Cavity.moveTo
  rw [show Config.maxPasses = 6 from rfl]
  cases resolve e.segs 6 i k.cc.stack with
  | entered j stack =>
    exact ⟨Cavity.enterSegment_entersSegment e k j stack,
      Cavity.enterSegment_cond e k (by simp [hst]) j stack⟩
  | finished j stack => exact Cavity.enterCooldown_intoCooldown e _ .completed
  | failed sub j stack =>
    dsimp only
    rw [Cavity.programFault_eq e k hst]
    cases hb : e.page.tripEnables.testBit 9 with
    | true =>
      refine ⟨Cavity.trip_trippedBy_one .., ?_, ?_⟩
      · rw [if_pos rfl, Cavity.trip_record_segIndex]
        exact if_pos (.inl hst)
      · rw [if_pos rfl, (Cavity.trip_cond ..).2]
        simp
    | false => exact Cavity.enterCooldown_intoCooldown e _ (.programFault sub)

/-- A segment end in CLEANING moves to what the next field names. -/
theorem Cavity.segmentEnds_eq {i : Nat} (h : k.cc.segIndex = some i) :
    k.segmentEnds e =
      k.moveTo e (if (e.segs.at i).next = 255 then i + 1 else (e.segs.at i).next) := by
  simp [Cavity.segmentEnds, h, Segment.nextFrom]

/-- Where a move of the program leaves a CLEANING cavity. -/
theorem Cavity.enterCooldown_state (why : LastEnd) :
    (k.enterCooldown e why).cc.state = .cooldown ∨ (k.enterCooldown e why).cc.state = .faulted := by
  unfold Cavity.enterCooldown
  obtain ⟨-, hk⟩ | ⟨c, rest, -, hk⟩ :=
    Cavity.decideEntry_cases e (((k.writeEnd why).enterState e .cooldown).clearProgram) <;> rw [hk]
  · exact .inl rfl
  · exact .inr (Cavity.trip_state ..)

end Program

end Sys2Proof.Machine

namespace Sys2Proof.Machine

/-! ## ATTN (R158) -/

/-- Two masks have a member in common exactly where their conjunction is not 0. -/
theorem mask_and_ne_zero_iff {w : Nat} (m : BitVec w) (n : Nat) :
    (m.toNat &&& n) ≠ 0 ↔ ∃ i : Fin w, maskHas m i = true ∧ n.testBit i = true := by
  rw [Ne, Nat.eq_iff_testBit_eq]
  push Not
  constructor
  · rintro ⟨i, hi⟩
    rw [Nat.testBit_and, BitVec.testBit_toNat, Nat.zero_testBit, Ne, Bool.not_eq_false,
      Bool.and_eq_true] at hi
    have hw : i < w := by
      by_contra hw
      simp [BitVec.getLsbD_of_ge m i (by omega)] at hi
    exact ⟨⟨i, hw⟩, hi.1, hi.2⟩
  · rintro ⟨i, h1, h2⟩
    refine ⟨i, ?_⟩
    simp only [maskHas] at h1
    simp [Nat.testBit_and, BitVec.testBit_toNat, h1, h2]

theorem State.watches_iff (s : State) (c : CavNo) : s.watches c = true ↔
    s.fitted c = true ∧ ∃ i : Fin 6,
      maskHas (s.cav c).cc.events i = true ∧ (s.cfg.page c).attnMask.testBit i = true := by
  rw [State.watches, Bool.and_eq_true, bne_iff_ne, mask_and_ne_zero_iff]

/-- The model's decision of ATTN is the one of the statements. -/
theorem State.attnWanted_iff (s : State) : s.attnWanted = true ↔ s.watched := by
  have all : (∃ c, s.watches c = true) ↔ (s.watches 0 || s.watches 1 || s.watches 2) = true := by
    simp [Fin.exists_fin_succ, or_assoc]
  rw [State.attnWanted, Bool.and_eq_true, Bool.or_eq_true, ← all, bne_iff_ne, bne_iff_ne,
    mask_and_ne_zero_iff]
  simp only [State.watches_iff]

/-- ATTN decided meets its law. -/
theorem State.decideAttn_attnLaw (s : State) : s.decideAttn.AttnLaw := by
  rw [State.AttnLaw, State.decideAttn_attn, State.attnWanted_iff]
  simp only [State.watched, State.decideAttn_cav, State.decideAttn_cfg, State.fitted]
  rfl

/-- The link after a command is the link that it leaves, with ATTN decided. -/
theorem State.decideAttn_linkIs {s : State} {l : Link} (h : s.link = l) : s.decideAttn.linkIs l :=
  ⟨by rw [State.decideAttn_link, h], s.decideAttn_attnLaw⟩

/-! ## Commands about one cavity -/

section OneCavity
variable (s : State) (c : CavNo)

@[simp] theorem State.onCav_cav_same (f : Env → Cavity → Cavity) :
    (s.onCav c f).cav c = f (s.env c) (s.cav c) := by
  simp [State.onCav]

theorem State.onCav_cav_other (f : Env → Cavity → Cavity) {d : CavNo} (h : d ≠ c) :
    (s.onCav c f).cav d = s.cav d :=
  State.cav_setCav_other s c _ h

/-- A cavity's record replaced leaves all that a command about one cavity leaves alone. -/
theorem State.setCav_onlyCavity (k : Cavity) : s.onlyCavity c (s.setCav c k).decideAttn := by
  refine ⟨by simp [State.partKept], State.decideAttn_linkIs (by simp), fun d hd => ?_⟩
  rw [State.decideAttn_cav, State.cav_setCav_other _ _ _ hd]

theorem State.onCav_onlyCavity (f : Env → Cavity → Cavity) : s.onlyCavity c (s.onCav c f).decideAttn :=
  s.setCav_onlyCavity c _

/-- A command that leaves the state comes to nothing. -/
theorem State.nothingMoves_self : s.nothingMoves s.decideAttn :=
  ⟨by simp [State.partKept], State.decideAttn_linkIs rfl, fun d => by simp⟩

/-- What the state is after a command about one fitted cavity. -/
theorem State.ifFitted_settled (f : Env → Cavity → Cavity) (h : s.fitted c = true) :
    ∃ t, (s.ifFitted c f).settled = .next t ∧ s.onlyCavity c t ∧ t.cav c = f (s.env c) (s.cav c) :=
  ⟨_, rfl, by rw [State.ifFitted, if_pos h]; exact s.onCav_onlyCavity c f,
    by simp [State.ifFitted, h]⟩

theorem State.ifFitted_of_not (f : Env → Cavity → Cavity) (h : s.fitted c = false) :
    s.ifFitted c f = s := by simp [State.ifFitted, h]

end OneCavity

/-! ## Per-cavity orders (R152 to R154) -/

theorem selected_length_le (sel : Byte) : (selected sel).length ≤ 3 :=
  List.length_filter_le _ _

/-- The model's frame-level checks are the answer of R152. -/
theorem ReqKind.frameFault_eq_answerTo (q : ReqKind) (r : Request) :
    q.frameFault r.sel r.payload.length = q.answerTo r := by
  have h3 := selected_length_le r.sel
  have hsel : (r.sel.toNat < 8 && r.sel != 0) = !decide (8 ≤ r.sel.toNat ∨ r.sel = 0) := by
    simp only [bne, beq_eq_decide, ← not_lt, Bool.decide_or, decide_not, Bool.not_or, Bool.not_not]
  cases q <;>
    simp only [ReqKind.frameFault, ReqKind.form, LenForm.selOk, LenForm.lenOk, ReqKind.answerTo, hsel,
      Config.maxPayload] <;> grind

/-- A request that is taken is served and answered once. -/
theorem State.request_taken {s : State} {q : ReqKind} {r : Request} (h : s.takes q r)
    (serve : Request → State → State × List Byte) : s.request q serve r =
      (serve r s).1.sendReply q.cls q.code r.sel r.tag (serve r s).2 := by
  rw [State.request_listening h.1,
    ReqKind.accept_of_none ((ReqKind.frameFault_eq_answerTo q r).trans h.2)]

/-- The reply sent is the one reply of the statements. -/
theorem State.sendReply_link (s : State) (q : ReqKind) (r : Request) (payload : List Byte) :
    (s.sendReply q.cls q.code r.sel r.tag payload).link = s.link.answered q r payload := rfl

/-- A per-cavity order that is taken does what the statements say, where each fitted cavity answers by
`result`, stays as it was on a refusal and takes its effect otherwise. -/
theorem State.perCavityOrder_taken {s : State} {q : ReqKind} {r : Request} {size : Nat}
    {order : List Byte → Env → Cavity → Cavity × Result} {result : CavNo → Result}
    {effect : CavNo → Cavity → Prop} (h : s.takes q r)
    (hres : ∀ c, (order (groupOf r size c) (s.env c) (s.cav c)).2 = result c)
    (hstay : ∀ c, (result c).refusal = true →
      (order (groupOf r size c) (s.env c) (s.cav c)).1 = s.cav c)
    (heff : ∀ c, (result c).refusal = false →
      effect c (order (groupOf r size c) (s.env c) (s.cav c)).1) :
    ∃ t, (s.request q (perCavityOrder size order) r).settled = .next t ∧
      s.ordersTaken q r (fun c => s.ifFittedResult c (result c)) effect t := by
  obtain ⟨hcfg, hb, hsg, hsc, hm, hrv, hl, hst, hpd⟩ := perCavityOrder_frame size order r s
  have hreply : (perCavityOrder size order r s).2 =
      (selected r.sel).map fun c => (s.ifFittedResult c (result c)).code := by
    rw [perCavityOrder_reply]
    refine List.map_congr_left fun c _ => ?_
    simp only [hres, State.ifFittedResult, State.fitted, decide_eq_true_eq]
  refine ⟨_, rfl, ?_, ?_, fun c => ?_⟩
  · rw [State.request_taken h]
    simpa [State.partKept] using ⟨hcfg, hb, hsg, hsc, hm, hrv, hst, hpd⟩
  · refine State.decideAttn_linkIs ?_
    rw [State.request_taken h, State.sendReply_link, hreply, hl]
  · rw [State.decideAttn_cav, State.request_taken h, State.sendReply_cav, perCavityOrder_cav]
    by_cases hf : s.fitted c = true
    · have hr : s.ifFittedResult c (result c) = result c := if_pos (by simpa [State.fitted] using hf)
      by_cases hsel : c ∈ selected r.sel
      · cases href : (result c).refusal with
        | true => simp [hsel, hf, hr, href, hstay c href]
        | false => simpa [hsel, hf, hr, href] using heff c href
      · simp [hsel]
    · have hr : s.ifFittedResult c (result c) = .notFitted := if_neg (by simpa [State.fitted] using hf)
      simp [hf, hr, Result.refusal]

end Sys2Proof.Machine

namespace Sys2Proof.Machine

/-! ## The lock drive and its reports (R14, R105, R108, R109, R120) -/

section Reports
variable (e : Env) (send : Cavity → Cavity) (l : Lock) (k : Cavity)

@[simp] theorem Cavity.afterLock_nil : k.afterLock e send (l, []) = { k with lock := l } := rfl

theorem Cavity.afterLock_cons (r : LockReport) (rs : List LockReport) :
    k.afterLock e send (l, r :: rs) =
      (({ k with lock := l } : Cavity).handOver e send r).afterLock e send
        ((({ k with lock := l } : Cavity).handOver e send r).lock, rs) := rfl

@[simp] theorem Cavity.afterLock_one (r : LockReport) :
    k.afterLock e send (l, [r]) = ({ k with lock := l } : Cavity).handOver e send r := rfl

@[simp] theorem Cavity.lockEnv_check : (k.lockEnv e).check = k.checkPasses e := rfl

theorem Cavity.releaseOk_eq : k.releaseOk e = k.checkPasses e := rfl

/-- A leg toward an end finds its bolt there. -/
theorem Lock.atEnd_opening_iff : l.atEnd .opening = true ↔ l.standsOpen := by
  simp [Lock.atEnd, Lock.standsOpen]

theorem Lock.atEnd_closing_iff : l.atEnd .closing = true ↔ l.standsLocked := by
  simp [Lock.atEnd, Lock.standsLocked]

/-- A leg toward open begins: at rest at OPEN where the bolt stands there, and else under way. -/
theorem Lock.finalLeg_opening (attempt : Nat) :
    l.finalLeg (k.lockEnv e) .opening .opened attempt =
      if l.standsOpen then (l.resting .opened, [.opened])
      else (l.underway e .opening .opened attempt .towardOpen, []) := by
  simp only [Lock.finalLeg, Lock.atEnd_opening_iff, Lock.arrive, Lock.rest_eq, Lock.drive_eq]
  rfl

/-- A leg toward the locked end begins. -/
theorem Lock.finalLeg_closing (attempt : Nat) :
    l.finalLeg (k.lockEnv e) .closing .locked attempt =
      if l.standsLocked then (l.resting .locked, [.locked])
      else (l.underway e .closing .locked attempt .towardClosed, []) := by
  simp only [Lock.finalLeg, Lock.atEnd_closing_iff, Lock.arrive, Lock.rest_eq, Lock.drive_eq]
  rfl

/-- OPEN reported: UNLOCKING ends in IDLE, and every other state does nothing. -/
theorem Cavity.handOver_opened : k.handOver e send .opened =
    if k.cc.state = .unlocking then k.endInIdle e else k := rfl

end Reports

end Sys2Proof.Machine

namespace Sys2Proof.Machine

/-! ## CLEAN START (R6, R7) -/

/-- A cavity that starts: LOCKING with its start segment, LOCK sent, and the entry decided. -/
def Cavity.started (e : Env) (i : Nat) (k : Cavity) : Cavity :=
  (({ k.enterState e .locking with
      cc := { (k.enterState e .locking).cc with startSeg := some i } } : Cavity).sendLock e).decideEntry e

/-- CLEAN START answers by the checks of R6, and starts the cavity where they pass. -/
theorem Cavity.cleanStart_eq (e : Env) (i : Nat) (k : Cavity) : k.cleanStart e i =
    (if startResult e i k = .done then k.started e i else k, startResult e i k) := by
  unfold Cavity.cleanStart startResult
  grind [Cavity.started]

/-- A start that passes its checks enters LOCKING with a LOCK drive begun from OPEN. -/
theorem Cavity.started_effect {e : Env} {i : Nat} {k : Cavity} (h : startResult e i k = .done) :
    startEffect e i k (k.started e i) := by
  intro hl
  have hchecks : k.lock.doorClosed = true ∧ k.lock.state = .opened := by
    unfold startResult at h
    split_ifs at h
    simp_all
  obtain ⟨hdoor, hlock⟩ := hchecks
  have htake : k.lock.takeLock (k.lockEnv e) =
      (k.lock.underway e .closing .locked 1 .towardClosed, []) := by
    rw [Lock.takeLock, hlock]
    simp only [hdoor, if_true, Lock.finalLeg_closing, if_neg hl]
  let entered : Cavity := { k.enterState e .locking with
    cc := { (k.enterState e .locking).cc with startSeg := some i } }
  have hsent : entered.sendLock e =
      { entered with lock := k.lock.underway e .closing .locked 1 .towardClosed } := by
    show entered.lockChanged e (k.lock.takeLock (k.lockEnv e)) = _
    rw [htake]; rfl
  have hstarted : k.started e i = (entered.sendLock e).decideEntry e := rfl
  rw [hstarted, hsent]
  refine Cavity.decideEntry_entersUnless rfl (Cavity.causesIn_enterState e .locking k e.page) fun hd => ?_
  rw [hd]
  exact ⟨rfl, rfl, rfl, Cavity.enterState_enters e .locking k,
    (Cavity.enterState_fan_keeps e .locking k).2.2.2.1⟩

/-- Settles O21: the checks in order, and each cavity that passes them started. -/
theorem cleanStartChecksAndLocks : Obligations.CleanStartChecksAndLocks := by
  intro s r h
  refine State.perCavityOrder_taken h (fun c => ?_) (fun c hc => ?_) fun c hc => ?_
  · rw [Cavity.cleanStart_eq]
  · rw [Cavity.cleanStart_eq]
    exact if_neg fun hd => by simp [hd, Result.refusal] at hc
  · have hd : startResult (s.env c) (at8 (groupOf r 1 c) 0).toNat (s.cav c) = .done := by
      unfold startResult at hc ⊢
      split_ifs at hc ⊢ <;> first | rfl | cases hc
    rw [Cavity.cleanStart_eq, if_pos hd]
    exact Cavity.started_effect hd

end Sys2Proof.Machine

namespace Sys2Proof.Machine

/-! ## CLEAN HOLD and CLEAN RESUME (R8, R9) -/

/-- CLEAN HOLD answers by its row of R5, and takes CLEANING to HELD. -/
theorem Cavity.cleanHold_eq (e : Env) (k : Cavity) : k.cleanHold e =
    (if k.cc.state = .cleaning then (k.enterState e .held).decideEntry e else k, holdResult k) := by
  unfold Cavity.cleanHold holdResult
  cases h : k.cc.state <;> simp

theorem Cavity.cleanHold_effect {e : Env} {k : Cavity} (h : holdResult k = .done) :
    holdEffect e k (k.cleanHold e).1 := by
  rw [Cavity.cleanHold_eq]
  unfold holdEffect
  by_cases hh : k.cc.state = .held
  · simp [hh]
  · have hc : k.cc.state = .cleaning := by
      unfold holdResult at h
      split_ifs at h with h'
      exact h'.resolve_right hh
    rw [if_neg hh]
    simp only [hc, if_true]
    refine Cavity.decideEntry_entersUnless rfl (Cavity.causesIn_enterState e .held k e.page) fun hd => ?_
    rw [hd]
    exact ⟨rfl, rfl, rfl, Cavity.enterState_enters e .held k,
      (Cavity.enterState_fan_keeps e .held k).2.2.2.1⟩

/-- A HELD cavity resumed, its entry to CLEANING decided. -/
def Cavity.resumed (e : Env) (k : Cavity) : Cavity :=
  ({ k.enterState e .cleaning with
      cc := { (k.enterState e .cleaning).cc with speff := e.speffOfReading k.prb.cavity.reading
                                                 arrived := false }
      fan := { (k.enterState e .cleaning).fan with catalyst := k.segCatalyst e } } : Cavity).decideEntry e

theorem Cavity.cleanResume_eq (e : Env) (k : Cavity) :
    k.cleanResume e = (if k.cc.state = .held then k.resumed e else k, resumeResult k) := by
  unfold Cavity.cleanResume resumeResult
  split <;> rfl

theorem Cavity.resumed_effect (e : Env) (k : Cavity) : resumeEffect e k (k.resumed e) := by
  refine Cavity.decideEntry_entersUnless rfl (Cavity.causesIn_enterState e .cleaning k e.page)
    fun hd => ?_
  unfold Cavity.resumed
  rw [hd]
  obtain ⟨hch, hcond, -, hlow, hprobe, hwarm, hdec⟩ := Cavity.enterState_enters e .cleaning k
  refine ⟨by rw [Env.speffOfReading_eq]; rfl, rfl, rfl,
    ⟨hch, hcond, fun h => absurd rfl h, hlow, hprobe, hwarm, hdec⟩,
    (Cavity.enterState_fan_keeps e .cleaning k).2.2.2.1, fun i hi => ?_⟩
  simp [Cavity.segCatalyst, show k.cc.segIndex = some i from hi, Segment.catalyst]

/-! ## CLEAN ABANDON (R10, R23) -/

/-- What an abandon does in LOCKING: UNLOCKING with ABANDONED, RELEASE sent, and the entry decided. -/
def Cavity.startAbandoned (e : Env) (k : Cavity) : Cavity :=
  (((k.writeEnd .abandoned).enterState e .unlocking).sendRelease e).decideEntry e

theorem Cavity.cleanAbandon_eq (e : Env) (k : Cavity) : k.cleanAbandon e =
    (if k.cc.state = .locking then k.startAbandoned e
     else if k.cc.state = .cleaning ∨ k.cc.state = .held then k.enterCooldown e .abandoned
     else k, abandonResult k) := by
  unfold Cavity.cleanAbandon abandonResult Cavity.startAbandoned
  cases h : k.cc.state <;> simp

/-- An entry to UNLOCKING whose RELEASE sends no report: the lock record that RELEASE left, and the entry
decided. -/
theorem Cavity.intoUnlocking_of_quiet {e : Env} {k : Cavity} {l : Lock} {why : LastEnd} :
    k.intoUnlocking e (k.cc.unlockingWith why) l k.cond.present k.cond.trip
      (({ (k.writeEnd why).enterState e .unlocking with lock := l } : Cavity).decideEntry e) := by
  refine Cavity.decideEntry_entersUnless rfl
    (Cavity.causesIn_enterState e .unlocking (k.writeEnd why) e.page) fun hd => ?_
  rw [hd]
  refine ⟨rfl, rfl, rfl, ?_, (Cavity.enterState_fan_keeps e .unlocking (k.writeEnd why)).2.2.2.1⟩
  obtain ⟨hch, hrest⟩ := Cavity.enterState_enters e .unlocking (k.writeEnd why)
  exact ⟨fun p hp => by rw [← k.writeEnd_channel why p]; exact hch p hp, hrest⟩

/-- An entry to UNLOCKING whose RELEASE finds the bolt at the open end: the cavity ends in IDLE. -/
theorem Cavity.endsIdle_of_unlocking {e : Env} {k : Cavity} {l : Lock} {why : LastEnd}
    (hl : l.state.travelling = false) :
    let k' := (({ (k.writeEnd why).enterState e .unlocking with lock := l } : Cavity).endInIdle e)
    k.endsIdle e why k.cond.present k' ∧ k'.lock = l := by
  refine ⟨Cavity.endInIdle_endsIdle e rfl ?_ rfl rfl rfl rfl, Cavity.endInIdle_lock e _ hl⟩
  show causesIn e.page .idle ((k.writeEnd why).enterState e .unlocking).cond.present = _
  rw [Cavity.enterState_present]
  exact causesIn_del_starved e.page _ (by decide)

theorem Cavity.startAbandoned_effect {e : Env} {k : Cavity} (h : k.cc.state = .locking) :
    abandonEffect e k (k.startAbandoned e) := by
  have hsend : k.startAbandoned e = (((k.writeEnd .abandoned).enterState e .unlocking).afterLock e id
      (k.lock.takeRelease (k.lockEnv e))).decideEntry e := rfl
  unfold abandonEffect
  simp only [h, reduceCtorEq, or_self, if_false, if_true]
  refine ⟨fun ⟨hs, hg⟩ => ?_, fun ⟨hs, hg⟩ => ?_⟩
  · have htake : k.lock.takeRelease (k.lockEnv e) =
        if k.checkPasses e then k.lock.finalLeg (k.lockEnv e) .opening .opened 1 else (k.lock, []) := by
      cases hc : k.checkPasses e <;> simp [Lock.takeRelease, hs, hg, hc]
    rw [hsend, htake]
    cases hc : k.checkPasses e with
    | false => exact Cavity.intoUnlocking_of_quiet
    | true =>
      simp only [if_true, Lock.finalLeg_opening, Bool.true_eq_false, if_false]
      by_cases ho : k.lock.standsOpen
      · rw [if_pos ho, if_pos ho, Cavity.afterLock_one, Cavity.handOver_opened]
        rw [if_pos (by rfl), Cavity.decideEntry_endInIdle]
        exact Cavity.endsIdle_of_unlocking rfl
      · rw [if_neg ho, if_neg ho]
        exact Cavity.intoUnlocking_of_quiet
  · have htake : k.lock.takeRelease (k.lockEnv e) =
        ({ k.lock.underway e .opening .opened 1 .towardOpen with motor := k.lock.motor }, []) := by
      simp only [Lock.takeRelease, hs, hg, if_true, Lock.underway, Lock.freshTimer]
      cases k.lock.mains <;> simp [Timer.loaded, Cavity.lockEnv]
    rw [hsend, htake]
    exact Cavity.intoUnlocking_of_quiet

theorem Cavity.cleanAbandon_effect (e : Env) (k : Cavity) : abandonEffect e k (k.cleanAbandon e).1 := by
  rw [Cavity.cleanAbandon_eq]
  by_cases hl : k.cc.state = .locking
  · rw [if_pos hl]; exact Cavity.startAbandoned_effect hl
  · rw [if_neg hl]
    unfold abandonEffect
    by_cases hc : k.cc.state = .cleaning ∨ k.cc.state = .held
    · simp only [if_pos hc]; exact Cavity.enterCooldown_intoCooldown e k .abandoned
    · simp only [if_neg hc, if_neg hl]

/-- Settles O22: each of the three orders by its row of R5 and its effect. -/
theorem holdResumeAndAbandonMoveTheCycle : Obligations.HoldResumeAndAbandonMoveTheCycle := by
  intro s r
  refine ⟨fun h => ?_, fun h => ?_, fun h => ?_⟩
  · refine State.perCavityOrder_taken h (fun c => by rw [Cavity.cleanHold_eq]) (fun c hc => ?_)
      fun c hc => Cavity.cleanHold_effect ?_
    · rw [Cavity.cleanHold_eq]
      exact if_neg fun hd => by simp [holdResult, hd, Result.refusal] at hc
    · unfold holdResult at hc ⊢
      split_ifs at hc ⊢ <;> first | rfl | cases hc
  · refine State.perCavityOrder_taken h (fun c => by rw [Cavity.cleanResume_eq]) (fun c hc => ?_)
      fun c hc => ?_
    · rw [Cavity.cleanResume_eq]
      exact if_neg fun hd => by simp [resumeResult, hd, Result.refusal] at hc
    · have hd : (s.cav c).cc.state = .held := by
        by_contra hd
        simp [resumeResult, hd, Result.refusal] at hc
      rw [Cavity.cleanResume_eq, if_pos hd]
      exact Cavity.resumed_effect _ _
  · refine State.perCavityOrder_taken h (fun c => by rw [Cavity.cleanAbandon_eq]) (fun c hc => ?_)
      fun c _ => Cavity.cleanAbandon_effect _ _
    rw [Cavity.cleanAbandon_eq]
    have hd : abandonResult (s.cav c) ≠ .done := fun hd => by simp [hd, Result.refusal] at hc
    unfold abandonResult at hd
    split_ifs at hd with hn
    · exact absurd rfl hd
    · simp only [not_or] at hn
      obtain ⟨h1, h2, h3, -⟩ := hn
      simp [h1, h2, h3]

end Sys2Proof.Machine

namespace Sys2Proof.Machine

/-! ## COOK SET and COOK OFF (R11, R12, R13) -/

/-- The model's hold of a setpoint is the one of the statements. -/
theorem Env.holdSetpoint_eq (e : Env) (v : Int) : e.holdSetpoint v =
    (heldSetpoint e v, if v < 0 ∨ (e.cfg.limits.cookCeiling : Int) < v then .clamped else .done) := by
  unfold Env.holdSetpoint heldSetpoint
  split_ifs <;> grind

/-- What a COOK SET that passes makes of a cavity. -/
def Cavity.cooks (e : Env) (v : Nat) (set : ElemSet) (k : Cavity) : Cavity :=
  if k.cc.state = .idle then
    ({ k.enterState e .cooking with
        cc := { (k.enterState e .cooking).cc with cookSetpoint := v, cookSet := set, speff := v * 10 } }
      : Cavity).decideEntry e
  else
    { k.shedWhere e.slot (fun p => k.cc.cookSet.hasPos p && !set.hasPos p) with
        cc := { k.cc with cookSetpoint := v, cookSet := set, speff := v * 10 } }

/-- COOK SET answers by the checks of R11, and a cavity that passes them cooks. -/
theorem Cavity.cookSet_eq (e : Env) (setpoint : Int) (elems : Byte) (k : Cavity) :
    k.cookSet e setpoint elems =
      (if (cookResult e setpoint elems.toNat k).refusal then k
       else k.cooks e (heldSetpoint e setpoint) (BitVec.ofNat 3 elems.toNat),
       cookResult e setpoint elems.toNat k) := by
  have h0 : elems = 0 ↔ elems.toNat = 0 := by
    rw [← BitVec.toNat_inj]; rfl
  have h8 : 8 ≤ elems.toNat ↔ 7 < elems.toNat := Iff.rfl
  unfold Cavity.cookSet cookResult
  rw [Env.holdSetpoint_eq]
  simp only [h0, h8]
  by_cases h1 : k.cc.state ≠ .idle ∧ k.cc.state ≠ .cooking
  · simp [h1, Result.refusal]
  by_cases h2 : elems.toNat = 0 ∨ 7 < elems.toNat
  · simp [h1, h2, Result.refusal]
  by_cases h3 : k.prb.cavity.fault = true
  · simp [h1, h2, h3, Result.refusal]
  simp only [h1, h2, h3, if_false]
  by_cases h4 : setpoint < 0 ∨ (e.cfg.limits.cookCeiling : Int) < setpoint <;>
    by_cases h5 : k.cc.state = .idle <;>
    simp [h4, h5, Result.refusal, Cavity.cooks, Cavity.shedWhere]

theorem Cavity.cooks_effect {e : Env} {setpoint : Int} {elems : Nat} {k : Cavity}
    (h : (cookResult e setpoint elems k).refusal = false) :
    cookEffect e setpoint elems k (k.cooks e (heldSetpoint e setpoint) (BitVec.ofNat 3 elems)) := by
  unfold cookEffect
  by_cases hc : k.cc.state = .cooking
  · have hi : k.cc.state ≠ .idle := by simp [hc]
    dsimp only
    rw [if_pos hc, Cavity.cooks, if_neg hi]
    refine ⟨rfl, rfl, rfl, rfl, rfl, rfl, fun p _ => ?_⟩
    have hch : ∀ (k1 : Cavity) (cc : Controller), ({ k1 with cc := cc } : Cavity).channel p = k1.channel p :=
      fun k1 cc => by cases p <;> rfl
    rw [hch, Cavity.shedWhere, Cavity.channel_mapChannels]
    simp
  · have hi : k.cc.state = .idle := by
      by_contra hi
      simp [cookResult, hi, hc, Result.refusal] at h
    dsimp only
    rw [if_neg hc, Cavity.cooks, if_pos hi]
    refine Cavity.decideEntry_entersUnless rfl (Cavity.causesIn_enterState e .cooking k e.page)
      fun hd => ?_
    rw [hd]
    exact ⟨rfl, rfl, rfl, Cavity.enterState_enters e .cooking k,
      (Cavity.enterState_fan_keeps e .cooking k).2.2.2.1⟩

/-- Settles O23: the checks in order, the setpoint held, and what a COOK SET that passes writes and sheds. -/
theorem cookSetHoldsAndStores : Obligations.CookSetHoldsAndStores := by
  intro s r h
  refine State.perCavityOrder_taken h (fun c => by rw [Cavity.cookSet_eq]) (fun c hc => ?_) fun c hc => ?_
  · rw [Cavity.cookSet_eq]; exact if_pos hc
  · rw [Cavity.cookSet_eq, if_neg (by simp [hc])]
    exact Cavity.cooks_effect hc

/-- COOK OFF answers by its row of R5, and takes COOKING to IDLE. -/
theorem Cavity.cookOff_eq (e : Env) (k : Cavity) : k.cookOff e =
    (if k.cc.state = .cooking then (k.enterState e .idle).decideEntry e else k, offResult k) := by
  unfold Cavity.cookOff offResult
  cases h : k.cc.state <;> simp

theorem Cavity.cookOff_effect {e : Env} {k : Cavity} (h : offResult k = .done) :
    offEffect e k (k.cookOff e).1 := by
  rw [Cavity.cookOff_eq]
  unfold offEffect
  by_cases hi : k.cc.state = .idle
  · simp [hi]
  · have hc : k.cc.state = .cooking := by
      unfold offResult at h
      split_ifs at h with h'
      exact h'.resolve_left hi
    rw [if_neg hi]
    simp only [hc, if_true]
    refine Cavity.decideEntry_entersUnless rfl (Cavity.causesIn_enterState e .idle k e.page) fun hd => ?_
    rw [hd]
    exact ⟨rfl, rfl, rfl, Cavity.enterState_enters e .idle k,
      (Cavity.enterState_fan_keeps e .idle k).2.2.2.1⟩

/-- Settles O24: COOKING ends in IDLE, and IDLE stays. -/
theorem cookOffEndsCooking : Obligations.CookOffEndsCooking := by
  intro s r h
  refine State.perCavityOrder_taken h (fun c => by rw [Cavity.cookOff_eq]) (fun c hc => ?_)
    fun c hc => Cavity.cookOff_effect ?_
  · rw [Cavity.cookOff_eq]
    exact if_neg fun hd => by simp [offResult, hd, Result.refusal] at hc
  · unfold offResult at hc ⊢
    split_ifs at hc ⊢ <;> first | rfl | cases hc

end Sys2Proof.Machine

namespace Sys2Proof.Machine

/-! ## LINK OPEN, FRAME CUT and REPLY END (R149 to R151) -/

/-- A cavity's record is the same where all three are. -/
theorem State.cav_congr {s t : State} (h0 : t.c0 = s.c0) (h1 : t.c1 = s.c1) (h2 : t.c2 = s.c2)
    (c : CavNo) : t.cav c = s.cav c := by
  fin_cases c
  exacts [h0, h1, h2]

/-- A command after which only the link's record has moved. -/
theorem State.decideAttn_onlyLink (s : State) (l : Link) :
    s.onlyLink l ({ s with link := l } : State).decideAttn :=
  ⟨⟨rfl, rfl, rfl, rfl, rfl, rfl, rfl, rfl⟩, State.cav_congr rfl rfl rfl, State.decideAttn_linkIs rfl⟩

/-- Settles O18: each of the three commands in its state, and elsewhere. -/
theorem linkOpensCutsAndEndsReplies : Obligations.LinkOpensCutsAndEndsReplies := by
  intro s
  refine ⟨⟨_, rfl, ?_⟩, ⟨_, rfl, ?_⟩, fun hr inp => ⟨_, rfl, ?_⟩⟩
  · by_cases h : s.mayOpenLink
    · rw [if_pos h, State.openLink, if_pos ((State.linkReady_iff s).2 h)]
      exact State.decideAttn_onlyLink s _
    · rw [if_neg h, State.openLink, if_neg (mt (State.linkReady_iff s).1 h)]
      exact s.nothingMoves_self
  · by_cases h : s.link.rx = .assembling
    · rw [if_pos h, State.cutFrame, if_pos h]
      exact State.decideAttn_onlyLink s _
    · rw [if_neg h, State.cutFrame, if_neg h]
      exact s.nothingMoves_self
  · by_cases h : s.link.sending = true
    · have hr : ¬ s.link.restarting = true := by simpa [h] using hr
      rw [if_pos h, State.replyEnds, if_pos h, if_neg hr]
      exact State.decideAttn_onlyLink s _
    · rw [if_neg h, State.replyEnds, if_neg h]
      exact s.nothingMoves_self

/-! ## The index reading (R167) -/

/-- The sum of offset and length of an entry as the model reads it. -/
theorem Memory.entry_end (m : Memory) (k : Nat) :
    (m.entry k).offset + (m.entry k).length = m.entryEnd k := by
  have word (hi lo : Byte) : (word16 hi lo).toNat = 256 * hi.toNat + lo.toNat := by
    rw [word16, BitVec.toNat_append, ← Nat.shiftLeft_add_eq_or_of_lt lo.isLt, Nat.shiftLeft_eq]
    omega
  simp only [Memory.entry, Memory.entryEnd, word, entryAt]

theorem Memory.entry_tag (m : Memory) (k : Nat) : (m.entry k).tag = m.read (2042 - 6 * k) := rfl

/-- What is known of the first `k` entries after they have been read: their tags are claimed, and `pe` is the
largest of their ends. -/
def Memory.readTo (m : Memory) (k pe : Nat) : Prop :=
  (∀ j < k, m.read (2042 - 6 * j) = 0xE1) ∧ (∀ j < k, m.entryEnd j ≤ pe) ∧
    (pe = 0 ∨ ∃ j < k, m.entryEnd j = pe)

/-- One more claimed entry read. -/
theorem Memory.readTo_succ {m : Memory} {k pe : Nat} (h : m.readTo k pe)
    (ht : m.read (2042 - 6 * k) = 0xE1) : m.readTo (k + 1) (max pe (m.entryEnd k)) := by
  obtain ⟨htags, hle, hmax⟩ := h
  refine ⟨fun j hj => ?_, fun j hj => ?_, ?_⟩
  · obtain hj | rfl := Nat.lt_succ_iff_lt_or_eq.1 hj
    exacts [htags j hj, ht]
  · obtain hj | rfl := Nat.lt_succ_iff_lt_or_eq.1 hj
    exacts [(hle j hj).trans (le_max_left ..), le_max_right ..]
  · rcases le_total pe (m.entryEnd k) with hk | hk
    · exact .inr ⟨k, Nat.lt_succ_self k, by rw [max_eq_right hk]⟩
    · rw [max_eq_left hk]
      exact hmax.imp_right fun ⟨j, hj, he⟩ => ⟨j, by omega, he⟩

/-- The reading stops at the first entry that is not claimed, or after the last that lies within the store. -/
theorem Memory.readIndexFrom_readTo {m : Memory} (n k pe : Nat) (h : m.readTo k pe) :
    let r := m.readIndexFrom n k pe
    m.readTo r.count r.patchEnd ∧ r.count ≤ k + n ∧
      (r.count < k + n → m.read (2042 - 6 * r.count) ≠ 0xE1) ∧
      r.corrupt = (if r.count < k + n ∧ m.read (2042 - 6 * r.count) ≠ 0 then some r.count else none) := by
  induction n generalizing k pe with
  | zero => simpa [Memory.readIndexFrom] using h
  | succ n ih =>
    unfold Memory.readIndexFrom
    dsimp only
    rw [Memory.entry_tag, Memory.entry_end]
    by_cases h0 : m.read (2042 - 6 * k) = 0x00
    · rw [if_pos h0]
      exact ⟨h, by simp, by simp [h0], by simp [h0]⟩
    by_cases h1 : m.read (2042 - 6 * k) = 0xE1
    · rw [if_neg h0, if_pos h1]
      simpa only [Nat.add_right_comm k 1 n, Nat.add_assoc k n 1] using
        ih (k + 1) _ (Memory.readTo_succ h h1)
    · rw [if_neg h0, if_neg h1]
      exact ⟨h, by simp, fun _ => h1, by simp [show ¬ m.read (2042 - 6 * k) = 0#8 from h0]⟩

/-- A store that takes the reading of its index follows it. -/
theorem Store.takeIndex_follows (t : Store) :
    (t.takeIndex t.memory.readIndex).follows t.status t.errorEntry := by
  obtain ⟨⟨htags, hle, hmax⟩, hcount, hstop, hcor⟩ :=
    Memory.readIndexFrom_readTo (m := t.memory) Config.maxEntries 0 0
      ⟨fun j hj => absurd hj (by omega), fun j hj => absurd hj (by omega), .inl rfl⟩
  rw [← Memory.readIndex, Nat.zero_add, show Config.maxEntries = 341 from rfl] at hcount hstop hcor
  rw [← Memory.readIndex] at htags hle hmax
  have hmem : (t.takeIndex t.memory.readIndex).memory = t.memory ∧
      (t.takeIndex t.memory.readIndex).entryCount = t.memory.readIndex.count ∧
      (t.takeIndex t.memory.readIndex).patchEnd = t.memory.readIndex.patchEnd := by
    unfold Store.takeIndex; dsimp only; split <;> exact ⟨rfl, rfl, rfl⟩
  obtain ⟨hm, hc, hp⟩ := hmem
  unfold Store.follows
  rw [hm, hc, hp]
  refine ⟨hcount, htags, hstop, hle, hmax, ?_⟩
  unfold Store.takeIndex
  rw [hcor]
  split <;> exact ⟨rfl, rfl⟩

/-- The store after an index reading keeps everything else. -/
theorem Store.takeIndex_keeps (t : Store) (r : IndexReading) :
    (t.takeIndex r).memory = t.memory ∧ (t.takeIndex r).staging = t.staging ∧
      (t.takeIndex r).burn = t.burn ∧ (t.takeIndex r).burnLeft = t.burnLeft ∧
      (t.takeIndex r).entryCount = r.count := by
  unfold Store.takeIndex; dsimp only; split <;> exact ⟨rfl, rfl, rfl, rfl, rfl⟩

/-! ## START UP (R159) -/

/-- The bounds taken from the settings hold the protected values. -/
theorem Settings.bounds_get (f : Settings) {id : SettingId} (h : id.protection ≠ none) :
    f.bounds.get id = f.get id := by
  cases id with
  | rating c p => fin_cases c <;> rfl
  | _ => first | rfl | exact absurd rfl h

/-- The store at start-up keeps its memory, has nothing staged and no burn, and follows its index. -/
theorem Store.startUp_keeps (t : Store) (err : Option Nat) :
    (t.startUp err).memory = t.memory ∧ (t.startUp err).staging = [] ∧ (t.startUp err).burn = .idle ∧
      (t.startUp err).burnLeft = [] ∧ (t.startUp err).entryCount = t.memory.readIndex.count :=
  Store.takeIndex_keeps _ _

theorem Store.startUp_follows (t : Store) (err : Option Nat) :
    (t.startUp err).follows (if err = none then .ok else .patchError) err := by
  have h : (t.startUp err).follows (if err.isSome then .patchError else .ok) err :=
    Store.takeIndex_follows { memory := t.memory,
                              status := if err.isSome then .patchError else .ok, errorEntry := err }
  cases err <;> exact h

/-- Start-up sets every record as the statements say. -/
theorem State.startUp_startedUp (s : State) (inp : StartInputs) :
    s.startedUp inp (s.startUp inp).decideAttn := by
  let err := (s.store.memory.replay s.store.memory.readIndex.count).2
  have hstore : (s.startUp inp).decideAttn.store = s.store.startUp err := rfl
  obtain ⟨hmem, hstg, hburn, hleft, hcount⟩ := s.store.startUp_keeps err
  unfold State.startedUp
  dsimp only
  rw [hstore, hcount]
  exact ⟨rfl, rfl, rfl, rfl, rfl, rfl, rfl, rfl, rfl, fun id hid => Settings.bounds_get _ hid, hmem, hstg,
    hburn, hleft, s.store.startUp_follows err, rfl⟩

/-- Settles O19: START UP, and the end of the reply to a taken RESTART, do the one start-up. -/
theorem startUpSetsEveryRecord : Obligations.StartUpSetsEveryRecord := by
  refine fun s inp => ⟨⟨_, rfl, s.startUp_startedUp inp⟩, fun hs hr => ⟨_, rfl, ?_⟩⟩
  rw [State.replyEnds, if_pos hs, if_pos hr]
  exact s.startUp_startedUp inp

/-! ## Reset -/

/-- Settles O3: law by law on the one state. -/
theorem resetMeetsTheLaws : Obligations.ResetMeetsTheLaws := by
  refine ⟨by decide, by decide, by decide, fun c => ?_, ?_, by decide, by decide, by decide, ?_, by decide,
    by decide, by decide, by decide, by decide, by decide, rfl, rfl⟩
  · fin_cases c <;> exact ⟨fun p => by cases p <;> decide, by decide⟩
  · decide
  · refine ⟨fun id => ?_, by decide, by decide, by decide⟩
    cases id with
    | rating c p => fin_cases c <;> cases p <;> decide
    | gain c => fin_cases c <;> decide
    | rampBand c => fin_cases c <;> decide
    | soakBand c => fin_cases c <;> decide
    | tripEnables c => fin_cases c <;> decide
    | attnMask c => fin_cases c <;> decide
    | fanOn c => fin_cases c <;> decide
    | fanOff c => fin_cases c <;> decide
    | _ => decide

end Sys2Proof.Machine

namespace Sys2Proof.Machine

/-! ## RELEASE from rest (R105, R109, R118, R119) -/

section Release
variable (e : Env) (k : Cavity)

/-- A lock at rest away from OPEN, where RELEASE may begin a drive. -/
@[reducible] def Lock.halted (l : Lock) : Prop := l.state = .locked ∨ l.state = .unknown

/-- RELEASE taken in LOCKED or UNKNOWN. -/
theorem Lock.takeRelease_halted {k : Cavity} {l : Lock} (h : l.halted) : l.takeRelease (k.lockEnv e) =
    if l.standsOpen then (l.resting .opened, [.opened])
    else if k.checkPasses e then (l.underway e .opening .opened 1 .towardOpen, []) else (l, []) := by
  have hmay : l.takeRelease (k.lockEnv e) =
      if l.mayRelease (k.lockEnv e) then l.finalLeg (k.lockEnv e) .opening .opened 1 else (l, []) := by
    obtain h | h := h <;> simp [Lock.takeRelease, h]
  have hiff : l.mayRelease (k.lockEnv e) = true ↔ l.standsOpen ∨ k.checkPasses e = true := by
    simp [Lock.mayRelease, Lock.atEnd_opening_iff]
  rw [hmay, Lock.finalLeg_opening]
  simp only [hiff]
  by_cases ho : l.standsOpen
  · rw [if_pos (.inl ho), if_pos ho, if_pos ho]
  · rw [if_neg ho, if_neg ho]
    cases hc : k.checkPasses e
    · rw [if_neg (by simpa using ho), if_neg (by simp)]
    · rw [if_pos (.inr rfl), if_pos rfl]

/-- RELEASE sent with the lock at rest in LOCKED or UNKNOWN: a bolt at the open end comes to rest there, which
ends the cycle of a cavity in UNLOCKING. -/
theorem Cavity.sendRelease_halted (h : k.lock.halted) : k.sendRelease e =
    if k.lock.standsOpen then
      if k.cc.state = .unlocking then ({ k with lock := k.lock.resting .opened } : Cavity).endInIdle e
      else { k with lock := k.lock.resting .opened }
    else { k with lock := k.releasedLock e } := by
  unfold Cavity.sendRelease Cavity.releasedLock Lock.released
  rw [Lock.takeRelease_halted e h]
  by_cases ho : k.lock.standsOpen
  · rw [if_pos ho, if_pos ho, Cavity.afterLock_one, Cavity.handOver_opened]
  · rw [if_neg ho, if_neg ho]
    cases hc : k.checkPasses e
    · simp [ho]
    · simp only [if_true, or_true, if_neg ho, Cavity.afterLock_nil]

/-- RELEASE sent with the lock JAMMED: where it begins a drive, or finds the bolt at the open end, LOCK JAM
is taken away. -/
theorem Cavity.sendRelease_jammed (h : k.lock.state = .jammed) : k.sendRelease e =
    if k.lock.standsOpen then
      if k.cc.state = .unlocking then
        ({ k.absent .lockJam with lock := k.lock.resting .opened } : Cavity).endInIdle e
      else { k.absent .lockJam with lock := k.lock.resting .opened }
    else if k.checkPasses e then
      { k.absent .lockJam with lock := k.lock.underway e .opening .opened 1 .towardOpen }
    else k := by
  have hmay : k.lock.mayRelease (k.lockEnv e) = true ↔ k.lock.standsOpen ∨ k.checkPasses e = true := by
    simp [Lock.mayRelease, Lock.atEnd_opening_iff]
  unfold Cavity.sendRelease Lock.takeRelease
  rw [h]
  simp only [hmay, Lock.finalLeg_opening]
  by_cases ho : k.lock.standsOpen
  · rw [if_pos (.inl ho), if_pos ho, if_pos ho]
    rfl
  · rw [if_neg ho, if_neg ho]
    cases hc : k.checkPasses e
    · rw [if_neg (by simpa using ho), if_neg (by simp)]
      rfl
    · rw [if_pos (.inr rfl), if_pos rfl]
      rfl

/-- The controller sends RELEASE again in UNLOCKING. -/
theorem Cavity.sendRelease_releasesAgain {e : Env} {k : Cavity} (hs : k.cc.state = .unlocking)
    (h : k.lock.halted) : k.releasesAgain e (k.sendRelease e) := by
  unfold Cavity.releasesAgain
  rw [Cavity.sendRelease_halted e k h]
  by_cases ho : k.lock.standsOpen
  · simp only [if_pos ho, if_pos hs]
    exact ⟨Cavity.endInIdle_endsIdle e rfl rfl rfl rfl rfl rfl, Cavity.endInIdle_lock e _ rfl⟩
  · simp only [if_neg ho]

/-- A start fails, RELEASE sent with the lock at rest in LOCKED or UNKNOWN. -/
theorem Cavity.failStart_startFails (why : StartFault) {e : Env} {k : Cavity} (h : k.lock.halted) :
    k.startFails e why (k.failStart e why fun k => k.sendRelease e) := by
  unfold Cavity.startFails Cavity.failStart
  dsimp only
  rw [Cavity.sendRelease_halted e ((k.writeEnd (.startFailed why)).enterState e .unlocking) h]
  have hs : ((k.writeEnd (.startFailed why)).enterState e .unlocking).lock = k.lock := rfl
  rw [hs]
  by_cases ho : k.lock.standsOpen
  · rw [if_pos ho, if_pos ho, if_pos (Cavity.enterState_state ..), Cavity.decideEntry_endInIdle]
    exact Cavity.endsIdle_of_unlocking rfl
  · rw [if_neg ho, if_neg ho]
    exact Cavity.intoUnlocking_of_quiet

end Release

/-! ## The reports that the controller hears (R14 to R18) -/

section Hears
variable {e : Env} {k : Cavity}

/-- How the controller sends RELEASE on a report of a lock drive. -/
abbrev releasing (e : Env) : Cavity → Cavity := fun k => k.sendRelease e

theorem Cavity.hears_unknown (h : k.lock.state = .unknown) :
    k.hearsUnknown e (k.handOver e (releasing e) .unknown) := by
  unfold Cavity.hearsUnknown
  by_cases hl : k.cc.state = .locking
  · have hd : k.handOver e (releasing e) .unknown = k.failStart e .lockJam (releasing e) := by
      simp [Cavity.handOver, Cavity.answer, hl]
    rw [if_pos hl, hd]
    exact Cavity.failStart_startFails .lockJam (.inr h)
  by_cases hu : k.cc.state = .unlocking
  · have hd : k.handOver e (releasing e) .unknown = k.sendRelease e := by
      simp [Cavity.handOver, Cavity.answer, hu]
    rw [if_neg hl, if_pos hu, hd]
    exact Cavity.sendRelease_releasesAgain hu (.inr h)
  · rw [if_neg hl, if_neg hu]
    cases hs : k.cc.state <;> simp_all [Cavity.handOver, Cavity.answer]

theorem Cavity.hears_opened (h : k.lock.state.travelling = false) (send : Cavity → Cavity) :
    k.hearsOpen e (k.handOver e send .opened) := by
  unfold Cavity.hearsOpen
  rw [Cavity.handOver_opened]
  by_cases hu : k.cc.state = .unlocking
  · simp only [if_pos hu]
    exact ⟨Cavity.endInIdle_endsIdle e rfl rfl rfl rfl rfl rfl, Cavity.endInIdle_lock e k h⟩
  · simp only [if_neg hu]

theorem Cavity.hears_refused (h : k.lock.state.travelling = false) (send : Cavity → Cavity) :
    k.hearsRefused e (k.handOver e send .lockRefused) := by
  unfold Cavity.hearsRefused
  by_cases hl : k.cc.state = .locking
  · have hd : k.handOver e send .lockRefused = (k.writeEnd (.startFailed .doorOpen)).endInIdle e := by
      simp [Cavity.handOver, Cavity.answer, hl]
    rw [if_pos hl, hd]
    exact ⟨Cavity.endInIdle_endsIdle e rfl rfl rfl rfl rfl rfl, Cavity.endInIdle_lock e _ h⟩
  · have hd : k.handOver e send .lockRefused = k.handOver e send .opened := by
      cases hs : k.cc.state <;> simp_all [Cavity.handOver, Cavity.answer]
    rw [if_neg hl, hd]
    exact Cavity.hears_opened h send

end Hears

/-! ## Momentary conditions and the jam (R119, R134, R136, R142) -/

section Jam
variable {e : Env} {k : Cavity}

/-- A momentary condition that joins the later causes in FAULTED, with what the controller then does: `f` does
nothing in FAULTED, and is `rest` where the condition brings no trip. -/
theorem Cavity.momentary_taken {c : Condition} {rest : Cavity → Cavity → Prop} {f : Cavity → Cavity}
    (hlock : k.lock.state.travelling = false) (hadd : e.page.addsLater c = true)
    (hf : ∀ m : Cavity, m.cc.state = .faulted → f m = m)
    (hrest : rest { k with cond := { k.cond with seen := k.cond.seen.add c } }
      (f { k with cond := { k.cond with seen := k.cond.seen.add c } })) :
    k.momentaryTaken e c rest (f (k.momentary e c)) := by
  unfold Cavity.momentaryTaken
  by_cases hs : k.cc.state = .faulted
  · have hm : k.momentary e c = { k with cond := { k.cond with
        seen := k.cond.seen.add c, trip := k.cond.trip.map fun x => { x with later := x.later.add c } } } := by
      simp [Cavity.momentary, Cavity.judge, hs, hadd]
    simp only [if_pos hs]
    rw [hm, hf _ (by exact hs)]
    rfl
  cases ht : tripsIn e.page k.cc.state c with
  | true =>
    simp only [if_neg hs, if_true]
    rw [Cavity.momentary_of_trips e k ht, hf _ (Cavity.trip_state ..)]
    exact ⟨Cavity.trip_trippedBy_one .., (Cavity.trip_lock ..).trans (Lock.takeStop_of_rests hlock),
      (Cavity.trip_cond ..).2⟩
  | false =>
    simp only [if_neg hs, Bool.false_eq_true, if_false]
    rw [Cavity.momentary_of_not_trips e k hs ht]
    exact hrest

/-- A lasting condition that arises. -/
theorem Cavity.onset_of_trips {c : Condition} (h : tripsIn e.page k.cc.state c = true) :
    k.onset e c = ({ k with cond := { k.cond with
      present := k.cond.present.add c, seen := k.cond.seen.add c } } : Cavity).trip e c 0 := by
  have hf : k.cc.state ≠ .faulted := fun hf => by simp [hf] at h
  simp [Cavity.onset, Cavity.judge, hf, CavState.trips_eq, h]

theorem Cavity.onset_of_not_trips {c : Condition} (hf : k.cc.state ≠ .faulted)
    (h : tripsIn e.page k.cc.state c = false) : k.onset e c = { k with cond := { k.cond with
      present := k.cond.present.add c, seen := k.cond.seen.add c } } := by
  simp [Cavity.onset, Cavity.judge, hf, CavState.trips_eq, h]

theorem Cavity.onset_of_faulted {c : Condition} (hf : k.cc.state = .faulted)
    (hadd : e.page.addsLater c = true) : k.onset e c = { k with cond := { k.cond with
      present := k.cond.present.add c, seen := k.cond.seen.add c,
      trip := k.cond.trip.map fun x => { x with later := x.later.add c } } } := by
  simp [Cavity.onset, Cavity.judge, hf, hadd]

/-- An entry of a state with the conditions present replaced. -/
theorem Cavity.enterState_withPresent (e : Env) (st : CavState) (k : Cavity) (m : CondSet) :
    ({ k with cond := { k.cond with present := m } } : Cavity).enterState e st =
      { k.enterState e st with cond := { k.cond with
          present := if st.keepsStarve then m else m.del .starved } } := by
  have h := Cavity.enterState_cond e st ({ k with cond := { k.cond with present := m } } : Cavity)
  have hself : ({ k with cond := { k.cond with present := m } } : Cavity).enterState e st =
      { k.enterState e st with
          cond := (({ k with cond := { k.cond with present := m } } : Cavity).enterState e st).cond } := rfl
  rw [hself, h]
  split <;> rfl

theorem CondSet.del_comm (m : CondSet) (c d : Condition) : (m.del c).del d = (m.del d).del c :=
  CondSet.ext fun x => by simp only [CondSet.has_del]; rw [Bool.and_right_comm]

theorem CondSet.del_add (m : CondSet) (c : Condition) : (m.add c).del c = m.del c :=
  CondSet.ext fun x => by
    simp only [CondSet.has_del, CondSet.has_add]
    by_cases h : x = c <;> simp [h]

/-- The cavity whose lock has just jammed: LOCK JAM present and seen. -/
def Cavity.jammed (k : Cavity) : Cavity :=
  { k with lock := k.lock.resting .jammed
           cond := { k.cond with present := k.cond.present.add .lockJam, seen := k.cond.seen.add .lockJam } }

/-- A start fails on a jam that trips nothing: its RELEASE takes LOCK JAM away where it begins a drive or the
bolt stands at the open end. -/
theorem Cavity.failStart_of_jam :
    if k.lock.standsOpen ∨ k.checkPasses e = true then
      ({ k.jammed with cond := { k.jammed.cond with present := k.cond.present.del .lockJam } } : Cavity).startFails
        e .lockJam (k.jammed.failStart e .lockJam (releasing e))
    else k.jammed.startFails e .lockJam (k.jammed.failStart e .lockJam (releasing e)) := by
  let freed : Cavity := { k.jammed with cond := { k.jammed.cond with present := k.cond.present.del .lockJam } }
  have hfreed : (((k.jammed.writeEnd (.startFailed .lockJam)).enterState e .unlocking).absent .lockJam) =
      (freed.writeEnd (.startFailed .lockJam)).enterState e .unlocking := by
    have h1 := Cavity.enterState_cond e .unlocking (k.jammed.writeEnd (.startFailed .lockJam))
    have h2 := Cavity.enterState_withPresent e .unlocking (k.jammed.writeEnd (.startFailed .lockJam))
      (k.cond.present.del .lockJam)
    refine Eq.trans ?_ h2.symm
    unfold Cavity.absent
    rw [h1]
    simp only [CavState.keepsStarve, Bool.false_eq_true, if_false]
    rw [CondSet.del_comm, ← CondSet.del_add k.cond.present]
    rfl
  have hsend := Cavity.sendRelease_jammed e
    ((k.jammed.writeEnd (.startFailed .lockJam)).enterState e .unlocking) rfl
  unfold Cavity.startFails Cavity.failStart releasing
  have hlock : ((k.jammed.writeEnd (.startFailed .lockJam)).enterState e .unlocking).lock =
      k.jammed.lock := rfl
  have hcheck : ((k.jammed.writeEnd (.startFailed .lockJam)).enterState e .unlocking).checkPasses e =
      k.checkPasses e := rfl
  dsimp only
  rw [hsend, hfreed, hlock, hcheck]
  by_cases ho : k.lock.standsOpen
  · have ho' : k.jammed.lock.standsOpen := ho
    rw [if_pos (.inl ho), if_pos ho', if_pos ho', if_pos (Cavity.enterState_state ..),
      Cavity.decideEntry_endInIdle]
    exact Cavity.endsIdle_of_unlocking (k := freed) rfl
  · have ho' : ¬ k.jammed.lock.standsOpen := ho
    by_cases hc : k.checkPasses e = true
    · have hr : freed.releasedLock e = k.jammed.lock.underway e .opening .opened 1 .towardOpen := by
        simp only [Cavity.releasedLock, Lock.released]
        rw [if_pos (.inr hc), if_neg ho']
      rw [if_pos (.inr hc), if_neg ho', if_neg ho', if_pos hc]
      rw [← hr]
      exact Cavity.intoUnlocking_of_quiet (k := freed)
    · have hr : k.jammed.releasedLock e = k.jammed.lock := if_neg (not_or.2 ⟨ho', hc⟩)
      rw [if_neg (not_or.2 ⟨ho, hc⟩), if_neg ho', if_neg ho', if_neg hc, hr]
      exact Cavity.intoUnlocking_of_quiet (k := k.jammed)

/-- The lock has jammed, and what the controller then hears. -/
theorem Cavity.jam_jams : k.jams e (k.afterLock e (releasing e) k.lock.jam) := by
  have hafter : k.afterLock e (releasing e) k.lock.jam =
      (({ k with lock := k.lock.resting .jammed } : Cavity).onset e .lockJam).answer e (releasing e)
        .jammed := rfl
  let l : Cavity := { k with lock := k.lock.resting .jammed }
  have hl : ({ l with cond := { l.cond with
      present := l.cond.present.add .lockJam, seen := l.cond.seen.add .lockJam } } : Cavity) = k.jammed := rfl
  have quiet {m : Cavity} (hm : m.cc.state ≠ .locking) : m.answer e (releasing e) .jammed = m := by
    simp [Cavity.answer, hm]
  unfold Cavity.jams
  rw [hafter]
  by_cases hf : k.cc.state = .faulted
  · simp only [if_pos hf]
    rw [Cavity.onset_of_faulted (k := l) hf rfl, quiet (by simp [l, hf])]
    rfl
  cases ht : tripsIn e.page k.cc.state .lockJam with
  | true =>
    simp only [if_neg hf, if_true]
    rw [Cavity.onset_of_trips (k := l) ht, quiet (by simp)]
    exact ⟨Cavity.trip_trippedBy_one .., Cavity.trip_lock ..⟩
  | false =>
    simp only [if_neg hf, Bool.false_eq_true, if_false]
    rw [Cavity.onset_of_not_trips (k := l) hf ht, hl]
    by_cases hs : k.cc.state = .locking
    · have hen : e.page.enabled .lockJam = false := by rw [hs] at ht; exact ht
      have ha : k.jammed.answer e (releasing e) .jammed = k.jammed.failStart e .lockJam (releasing e) := by
        simp [Cavity.answer, Cavity.jammed, hs, hen]
      simp only [if_pos hs]
      rw [ha]
      exact Cavity.failStart_of_jam
    · simp only [if_neg hs]
      exact quiet hs

end Jam

end Sys2Proof.Machine

namespace Sys2Proof.Machine

/-! ## A cleaning cycle begins (R16) -/

section Begin
variable {e : Env} {k : Cavity}

/-- Two decisions in a row, neither of which takes the fan OFF, are one decision by the last. -/
theorem Fan.decided_trans {f g h : Fan} {st st' : CavState} (hfg : f.decided st g)
    (hgh : g.decided st' h) (hg : g.command ≠ .off) (hh : h.command ≠ .off) : f.decided st' h := by
  obtain ⟨-, hp1, ht1⟩ := hfg
  obtain ⟨hc2, hp2, ht2⟩ := hgh
  refine ⟨hc2, hp2.trans hp1, ?_⟩
  rw [if_pos (.inr ⟨hh, hg⟩)] at ht2
  obtain ⟨h1, h2, h3⟩ := ht2
  rw [h1, h2, h3]
  by_cases hf : f.command = .off
  · rw [if_neg (by simp [hf, hg]), if_neg hg] at ht1
    rwa [if_neg (by simp [hf, hh]), if_neg hh]
  · rw [if_pos (.inr ⟨hg, hf⟩)] at ht1
    rwa [if_pos (.inr ⟨hh, hf⟩)]

/-- The policy gives OFF in IDLE alone. -/
theorem fanPolicy_ne_off {st : CavState} (h : st ≠ .idle) (p w s i : Bool) :
    fanPolicy st p w s i ≠ .off := by
  have hw := Fan.wanted_eq { probeView := p, warmView := w, segFlag := s, idleLow := i } st
  exact fun ho => h (Fan.wanted_off (hw.trans ho)).1

theorem Fan.decided_ne_off {f g : Fan} {st : CavState} (h : f.decided st g) (hst : st ≠ .idle) :
    g.command ≠ .off := by
  rw [h.1]
  exact fanPolicy_ne_off hst _ _ _ _

/-- A decided fan record with the views and the idle speed of the one before. -/
def Fan.redecided (st : CavState) (f g : Fan) : Prop :=
  f.decided st g ∧ g.idleLow = f.idleLow ∧ g.probeView = f.probeView ∧ g.warmView = f.warmView

/-- What COOLDOWN is entered with does not turn on a decision of the fan made in the same event. -/
theorem Cavity.intoCooldown_of_redecided {g : Fan} {st : CavState} {why : LastEnd} {k' : Cavity}
    (hst : st ≠ .idle) (hg : k.fan.redecided st g)
    (h : ({ k with fan := g } : Cavity).intoCooldown e why k') : k.intoCooldown e why k' := by
  obtain ⟨hdec, hlow, hprobe, hwarm⟩ := hg
  unfold Cavity.intoCooldown Cavity.entersUnless at h ⊢
  by_cases hc : causesIn e.page .cooldown k.cond.present = []
  · simp only [if_pos hc] at h ⊢
    obtain ⟨hcc, hprb, hlock, ⟨hch, hcond, hcat, hlow', hprobe', hwarm', hdec'⟩, hseg⟩ := h
    exact ⟨hcc, hprb, hlock, ⟨fun p hp => by rw [hch p hp]; cases p <;> rfl, hcond, hcat,
      hlow'.trans hlow, hprobe'.trans hprobe, hwarm'.trans hwarm, Fan.decided_trans hdec hdec'
        (Fan.decided_ne_off hdec hst) (Fan.decided_ne_off hdec' (by decide))⟩, hseg⟩
  · simp only [if_neg hc] at h ⊢
    exact h

/-- Nor does what a CLEANING cavity's program moves on to. -/
theorem Cavity.movesOn_of_redecided {g : Fan} {i : Nat} {k' : Cavity} (hst : k.cc.state = .cleaning)
    (hg : k.fan.redecided .cleaning g) (h : ({ k with fan := g } : Cavity).movesOn e i k') :
    k.movesOn e i k' := by
  unfold Cavity.movesOn at h ⊢
  dsimp only at h
  split at h
  next j stack hr =>
    obtain ⟨⟨hcc, hprb, hlock, hstarve, hch, hseg, hcat, hlow, hprobe, hwarm, hdec⟩, hcond⟩ := h
    obtain ⟨gdec, glow, gprobe, gwarm⟩ := hg
    rw [hst] at hdec
    refine ⟨⟨hcc, hprb, hlock, hstarve, fun p hp => by rw [hch p hp]; cases p <;> rfl, hseg, hcat,
      hlow.trans glow, hprobe.trans gprobe, hwarm.trans gwarm, ?_⟩, hcond⟩
    rw [hst]
    exact Fan.decided_trans gdec hdec (Fan.decided_ne_off gdec (by decide))
      (Fan.decided_ne_off hdec (by decide))
  next => exact Cavity.intoCooldown_of_redecided (by decide) hg h
  next sub j stack hr =>
    by_cases hb : e.page.tripEnables.testBit 9 = true
    · rw [if_pos hb] at h ⊢
      exact h
    · rw [if_neg hb] at h ⊢
      exact Cavity.intoCooldown_of_redecided
        (k := { k with cond := { k.cond with seen := k.cond.seen.add .program } }) (by decide) hg h

/-- Where no condition present trips in CLEANING, the decision after a move of the program is made already. -/
theorem Cavity.decideEntry_moveTo (hst : k.cc.state = .cleaning) (i : Nat)
    (hc : causesIn e.page .cleaning k.cond.present = []) :
    (k.moveTo e i).decideEntry e = k.moveTo e i := by
  unfold Cavity.moveTo
  split
  next j stack _ =>
    refine Cavity.decideEntry_of_nil e _ ?_
    rw [Cavity.enterSegment_cond e k (by simp [hst])]
    exact (congrArg (causesIn e.page · k.cond.present) hst).trans hc
  next => exact Cavity.decideEntry_decideEntry ..
  next sub j stack _ =>
    rw [Cavity.programFault_eq e k hst]
    dsimp only
    split
    · exact Cavity.decideEntry_of_nil e _ (by simp)
    · exact Cavity.decideEntry_decideEntry ..

/-- The record with which a LOCKED lock begins the cycle, the program not yet moved to its start. -/
def Cavity.begun (e : Env) (k : Cavity) : Cavity :=
  ({ k.enterState e .cleaning with
      cc := { (k.enterState e .cleaning).cc with speff := e.speffOfReading k.prb.cavity.reading,
                                                 cycle := 0, hold := 0, stack := [] } }
    : Cavity).setEvent .cycleBegun

theorem Cavity.enterCleaning_eq {i : Nat} (h : k.cc.startSeg = some i) :
    k.enterCleaning e = ((k.begun e).moveTo e i).decideEntry e := by
  simp only [Cavity.enterCleaning, h]
  rfl

/-- An entry to CLEANING or HELD changes nothing of the fan but what its decision does. -/
theorem Cavity.enterState_redecided : k.fan.redecided .cleaning (k.enterState e .cleaning).fan := by
  obtain ⟨-, -, -, hlow, hprobe, hwarm, hdec⟩ := Cavity.enterState_enters e .cleaning k
  exact ⟨hdec, hlow.trans (if_neg (by decide)), hprobe, hwarm⟩

/-- The begun record is the one of the statements, with the fan decided. -/
theorem Cavity.begun_eq : k.begun e =
    { k with
      cc := { k.cc with state := .cleaning, startSeg := none, cookSetpoint := 0, cookSet := 0, cycle := 0,
                        hold := 0, stack := [], speff := e.heldReading k.prb.cavity.reading,
                        events := maskAdd k.cc.events 0 }
      fan := (k.enterState e .cleaning).fan } := by
  have hcond : (k.enterState e .cleaning).cond = k.cond := Cavity.enterState_cond e .cleaning k
  have hself : k.begun e = { k.begun e with cond := (k.enterState e .cleaning).cond } := rfl
  rw [hself, hcond, ← Env.speffOfReading_eq]
  rfl

/-- The LOCKED report in LOCKING begins the cycle. -/
theorem Cavity.enterCleaning_begins {i : Nat} (hi : k.cc.startSeg = some i)
    (hc : causesIn e.page .cleaning k.cond.present = []) : k.beginsCleaning e i (k.enterCleaning e) := by
  have hpresent : (k.begun e).cond.present = k.cond.present := by rw [Cavity.begun_eq]
  rw [Cavity.enterCleaning_eq hi, Cavity.decideEntry_moveTo rfl i (by rw [hpresent]; exact hc)]
  refine Cavity.movesOn_of_redecided (g := (k.enterState e .cleaning).fan) rfl
    (Cavity.enterState_redecided (k := k)) ?_
  have hbegun := Cavity.begun_eq (e := e) (k := k)
  rw [← hbegun]
  exact Cavity.moveTo_movesOn e _ rfl i

theorem Cavity.hears_locked (h : k.lock.state = .locked) :
    k.hearsLocked e (k.handOver e (releasing e) .locked) := by
  unfold Cavity.hearsLocked
  by_cases hl : k.cc.state = .locking
  · have hd : k.handOver e (releasing e) .locked = k.enterCleaning e := by
      simp [Cavity.handOver, Cavity.answer, hl]
    rw [if_pos hl, hd]
    exact fun hc i hi => Cavity.enterCleaning_begins hi hc
  by_cases hu : k.cc.state = .unlocking
  · have hd : k.handOver e (releasing e) .locked = k.sendRelease e := by
      simp [Cavity.handOver, Cavity.answer, hu]
    rw [if_neg hl, if_pos hu, hd]
    exact Cavity.sendRelease_releasesAgain hu (.inl h)
  · rw [if_neg hl, if_neg hu]
    cases hs : k.cc.state <;> simp_all [Cavity.handOver, Cavity.answer]

end Begin

end Sys2Proof.Machine

namespace Sys2Proof.Machine

/-! ## LOCK SWITCH CHANGE (R102, R111, R116, R117, R123) -/

section Switch
variable {e : Env} {k : Cavity}

theorem Lock.not_standsOpen_of_locked {l : Lock} (h : l.standsLocked) : ¬ l.standsOpen := fun ho =>
  Bool.noConfusion (h.1.symm.trans ho.2)

theorem Lock.not_standsLocked_of_open {l : Lock} (h : l.standsOpen) : ¬ l.standsLocked := fun hl =>
  Bool.noConfusion (h.1.symm.trans hl.2)

/-- The turning point of a RELEASE drive at the locked end. -/
theorem Cavity.turnRelease_ends (h : k.lock.standsLocked) :
    k.afterLock e (releasing e) (k.lock.turnRelease (k.lockEnv e)) =
      if k.checkPasses e then { k with lock := k.lock.underway e .opening .opened 2 .towardOpen }
      else k.afterLock e (releasing e) k.lock.jam := by
  unfold Lock.turnRelease
  rw [Lock.finalLeg_opening, if_neg (Lock.not_standsOpen_of_locked h), Cavity.lockEnv_check]
  split <;> rfl

/-- The turning point of a LOCK drive at the open end. -/
theorem Cavity.turnLock_ends (h : k.lock.standsOpen) :
    k.afterLock e (releasing e) (k.lock.turnLock (k.lockEnv e)) =
      if k.lock.doorClosed then { k with lock := k.lock.underway e .closing .locked 2 .towardClosed }
      else ({ k with lock := k.lock.resting .opened } : Cavity).handOver e (releasing e) .lockRefused := by
  unfold Lock.turnLock
  rw [Lock.finalLeg_closing, if_neg (Lock.not_standsLocked_of_open h)]
  split <;> rfl

/-- The leg that runs ends at its end switch. -/
theorem Cavity.endLeg_legEnds (h : (k.lock.state = .closing ∧ k.lock.standsLocked) ∨
    (k.lock.state = .opening ∧ k.lock.standsOpen)) :
    k.legEnds e (k.afterLock e (releasing e) (k.lock.endLeg (k.lockEnv e))) := by
  unfold Cavity.legEnds
  obtain ⟨hs, hb⟩ | ⟨hs, hb⟩ := h
  · simp only [hs, if_true]
    by_cases hg : k.lock.goal = some .opened
    · have hl : k.lock.endLeg (k.lockEnv e) = k.lock.turnRelease (k.lockEnv e) := by
        simp [Lock.endLeg, hs, hg]
      rw [if_pos hg, hl, Cavity.turnRelease_ends hb]
      split
      · rfl
      · exact Cavity.jam_jams
    · have hl : k.lock.endLeg (k.lockEnv e) = k.lock.arrive .locked := by
        unfold Lock.endLeg
        rw [hs]
        split <;> simp_all
      rw [if_neg hg, hl]
      exact Cavity.hears_locked (k := { k with lock := k.lock.resting .locked }) rfl
  · simp only [hs, reduceCtorEq, if_false]
    by_cases hg : k.lock.goal = some .locked
    · have hl : k.lock.endLeg (k.lockEnv e) = k.lock.turnLock (k.lockEnv e) := by
        simp [Lock.endLeg, hs, hg]
      rw [if_pos hg, hl, Cavity.turnLock_ends hb]
      split
      · rfl
      · exact Cavity.hears_refused (k := { k with lock := k.lock.resting .opened }) rfl _
    · have hl : k.lock.endLeg (k.lockEnv e) = k.lock.arrive .opened := by
        unfold Lock.endLeg
        rw [hs]
        split <;> simp_all
      rw [if_neg hg, hl]
      exact Cavity.hears_opened (k := { k with lock := k.lock.resting .opened }) rfl (releasing e)

/-- In FAULTED the controller does nothing on UNKNOWN. -/
theorem Cavity.handOver_unknown_faulted {m : Cavity} (h : m.cc.state = .faulted) :
    m.handOver e (releasing e) .unknown = m := by
  simp [Cavity.handOver, Cavity.answer, h]

/-- A lock that has lost its locked end: LOCK LOST, and then the report of UNKNOWN. -/
theorem Cavity.lockLost_taken (l : Lock) :
    ({ k with lock := l.resting .unknown } : Cavity).momentaryTaken e .lockLost (Cavity.hearsUnknown e)
      (k.afterLock e (releasing e) (l.rest .unknown, [.lockLost, .unknown])) :=
  Cavity.momentary_taken (k := { k with lock := l.resting .unknown })
    (f := fun m => m.handOver e (releasing e) .unknown) rfl rfl (fun _ => Cavity.handOver_unknown_faulted)
    (Cavity.hears_unknown rfl)

/-- A lock that comes to rest in UNKNOWN without a lost lock. -/
theorem Cavity.restUnknown_heard (l : Lock) :
    ({ k with lock := l.resting .unknown } : Cavity).hearsUnknown e
      (k.afterLock e (releasing e) (l.rest .unknown, [.unknown])) :=
  Cavity.hears_unknown (k := { k with lock := l.resting .unknown }) rfl

theorem Lock.record_eq_iff (l : Lock) (sw : EndSwitch) (active : Bool) :
    l.record sw active = l ↔ l.endSwitch sw = active := by
  obtain ⟨st, g, a, t, m, lsw, osw, d, mn⟩ := l
  cases sw <;> simp [Lock.record, Lock.endSwitch, eq_comm]

/-- A change of an end switch of a fitted cavity does what the statements say. -/
theorem Cavity.switchChange_taken (sw : EndSwitch) (active : Bool) :
    k.switchTaken e sw active (k.switchChange sw active e) := by
  have hafter : k.switchChange sw active e =
      k.afterLock e (releasing e) (k.lock.switchChange (k.lockEnv e) sw active) := rfl
  unfold Cavity.switchTaken
  extract_lets _ l recorded unknown
  have hr : k.lock.record sw active = l := by cases sw <;> rfl
  clear_value l
  rw [hafter, Lock.switchChange, hr]
  by_cases hsame : k.lock.endSwitch sw = active
  · rw [if_pos hsame, if_pos (hr.symm.trans ((Lock.record_eq_iff ..).2 hsame))]
    rfl
  rw [if_neg hsame, if_neg fun h => hsame ((Lock.record_eq_iff ..).1 (hr.trans h))]
  have hnew : l.endSwitch sw = active := by
    rw [← hr]; cases sw <;> rfl
  have hafter' (rs : Lock × List LockReport) :
      k.afterLock e (releasing e) rs = recorded.afterLock e (releasing e) rs := rfl
  cases active with
  | true =>
    by_cases hboth : l.lockedSw = true ∧ l.openSw = true
    · rw [if_pos hboth]
      cases hs : l.state with
      | unknown =>
        rw [if_pos (Or.inl rfl), show l.afterSwitch (k.lockEnv e) sw true = (l, []) by
          simp [Lock.afterSwitch, hboth, hs]]
        rfl
      | jammed =>
        rw [if_pos (Or.inr rfl), show l.afterSwitch (k.lockEnv e) sw true = (l, []) by
          simp [Lock.afterSwitch, hboth, hs]]
        rfl
      | locked =>
        rw [if_neg (by simp), if_pos rfl, show l.afterSwitch (k.lockEnv e) sw true =
          (l.rest .unknown, [.lockLost, .unknown]) by simp [Lock.afterSwitch, hboth, hs]]
        exact Cavity.lockLost_taken l
      | opened | closing | opening =>
        rw [if_neg (by simp), if_neg (by simp), show l.afterSwitch (k.lockEnv e) sw true =
          (l.rest .unknown, [.unknown]) by simp [Lock.afterSwitch, hboth, hs]]
        exact Cavity.restUnknown_heard l
    · rw [if_neg hboth]
      have hswitch : l.afterSwitch (k.lockEnv e) sw true =
          if l.state.endsAt sw then l.endLeg (k.lockEnv e) else (l, []) := by
        simp only [Lock.afterSwitch, if_true]
        rw [if_neg (by simpa using hboth)]
      have hends : l.state.endsAt sw = true ↔
          (l.state = .closing ∧ sw = .locked) ∨ (l.state = .opening ∧ sw = .opened) := by
        cases l.state <;> cases sw <;> simp [LockState.endsAt]
      rw [hswitch]
      by_cases he : l.state.endsAt sw = true
      · rw [if_pos he, if_pos ⟨rfl, hends.1 he⟩, hafter']
        refine Cavity.endLeg_legEnds (k := recorded) ?_
        obtain ⟨hs, rfl⟩ | ⟨hs, rfl⟩ := hends.1 he
        · exact .inl ⟨hs, hnew, by simpa using fun ho => hboth ⟨hnew, ho⟩⟩
        · exact .inr ⟨hs, hnew, by simpa using fun ho => hboth ⟨ho, hnew⟩⟩
      · rw [if_neg he, if_neg fun h => he (hends.2 h.2), if_neg (by simp), if_neg (by simp)]
        rfl
  | false =>
    have hboth : ¬ (l.lockedSw = true ∧ l.openSw = true) := by
      rintro ⟨h1, h2⟩
      cases sw <;> simp_all [Lock.endSwitch]
    rw [if_neg hboth, if_neg (by simp)]
    by_cases hlost : l.state = .locked ∧ sw = .locked
    · have hswitch : l.afterSwitch (k.lockEnv e) sw false = (l.rest .unknown, [.lockLost, .unknown]) := by
        simp [Lock.afterSwitch, hlost.1, hlost.2]
      rw [if_pos ⟨rfl, hlost⟩, hswitch]
      exact Cavity.lockLost_taken l
    rw [if_neg fun h => hlost h.2]
    by_cases hopen : l.state = .opened ∧ sw = .opened
    · have hswitch : l.afterSwitch (k.lockEnv e) sw false = (l.rest .unknown, [.unknown]) := by
        simp [Lock.afterSwitch, hopen.1, hopen.2]
      rw [if_pos ⟨rfl, hopen⟩, hswitch]
      exact Cavity.restUnknown_heard l
    · have hswitch : l.afterSwitch (k.lockEnv e) sw false = (l, []) := by
        cases hs : l.state <;> cases sw <;> simp_all [Lock.afterSwitch]
      rw [if_neg fun h => hopen h.2, hswitch]
      rfl

/-- At an unfitted cavity the lock follows its switches. -/
theorem Cavity.followSwitch_followed (sw : EndSwitch) (active : Bool) :
    k.followSwitch sw active = k.switchFollowed sw active := by
  cases sw <;> rfl

/-- Settles O55: the cavity's lock takes the change, and no other cavity moves. -/
theorem lockSwitchesMoveTheLock : Obligations.LockSwitchesMoveTheLock := by
  intro s c sw active
  by_cases hf : s.fitted c = true
  · refine ⟨(s.onCav c (Cavity.switchChange sw active)).decideAttn, ?_, s.onCav_onlyCavity c _, ?_⟩
    · exact congrArg State.settled (if_pos hf)
    · rw [if_pos hf, State.decideAttn_cav, State.onCav_cav_same]
      exact Cavity.switchChange_taken sw active
  · refine ⟨(s.onCav c fun _ k => k.followSwitch sw active).decideAttn, ?_, s.onCav_onlyCavity c _, ?_⟩
    · exact congrArg State.settled (if_neg hf)
    · rw [if_neg hf, State.decideAttn_cav, State.onCav_cav_same]
      exact Cavity.followSwitch_followed sw active

end Switch

end Sys2Proof.Machine

namespace Sys2Proof.Machine

/-! ## DOOR SWITCH CHANGE (R114, R115) and TRAVEL TIMEOUT (R112, R113) -/

section Door
variable {e : Env} {k : Cavity}

theorem Cavity.decideEntry_state (e : Env) (k : Cavity) :
    (k.decideEntry e).cc.state = k.cc.state ∨ (k.decideEntry e).cc.state = .faulted := by
  obtain ⟨-, hk⟩ | ⟨c, rest, -, hk⟩ := Cavity.decideEntry_cases e k <;> rw [hk]
  · exact .inl rfl
  · exact .inr (Cavity.trip_state ..)

/-- RELEASE sent in UNLOCKING with the lock JAMMED leaves the cavity in UNLOCKING, or ends its cycle. -/
theorem Cavity.sendRelease_jammed_state (h : k.lock.state = .jammed) (hs : k.cc.state = .unlocking) :
    (k.sendRelease e).cc.state ≠ .locking := by
  rw [Cavity.sendRelease_jammed e k h]
  split
  · obtain hi | hi := Cavity.endInIdle_state e ({ k.absent .lockJam with lock := k.lock.resting .opened })
      <;> simp [hi]
  · split
    · exact fun hc => by simp [Cavity.absent, hs] at hc
    · simp [hs]

/-- A jam leaves no cavity in LOCKING. -/
theorem Cavity.jam_state : (k.afterLock e (releasing e) k.lock.jam).cc.state ≠ .locking := by
  let l : Cavity := { k with lock := k.lock.resting .jammed }
  have hafter : k.afterLock e (releasing e) k.lock.jam = (l.onset e .lockJam).answer e (releasing e) .jammed :=
    rfl
  rw [hafter]
  have quiet {m : Cavity} (hm : m.cc.state ≠ .locking) : (m.answer e (releasing e) .jammed).cc.state ≠
      .locking := by
    simp [Cavity.answer, hm]
  cases ht : tripsIn e.page k.cc.state .lockJam with
  | true =>
    rw [Cavity.onset_of_trips (k := l) ht]
    exact quiet (by simp)
  | false =>
    by_cases hf : k.cc.state = .faulted
    · rw [Cavity.onset_of_faulted (k := l) hf rfl]
      exact quiet (by simp [l, hf])
    rw [Cavity.onset_of_not_trips (k := l) hf ht]
    by_cases hs : k.cc.state = .locking
    · have hen : e.page.enabled .lockJam = false := by rw [hs] at ht; exact ht
      have ha : k.jammed.answer e (releasing e) .jammed = k.jammed.failStart e .lockJam (releasing e) := by
        simp [Cavity.answer, Cavity.jammed, hs, hen]
      refine fun hc => ?_
      have hc' : (k.jammed.failStart e .lockJam (releasing e)).cc.state = .locking := by rw [← ha]; exact hc
      obtain h | h := Cavity.decideEntry_state e
        (releasing e ((k.jammed.writeEnd (.startFailed .lockJam)).enterState e .unlocking))
      · exact Cavity.sendRelease_jammed_state (by rfl) (Cavity.enterState_state ..) (h.symm.trans hc')
      · exact absurd (h.symm.trans hc') (by decide)
    · exact quiet hs

/-- DOOR OPENED means nothing to a controller that is not in LOCKING. -/
theorem Cavity.handOver_doorOpened_of_ne (h : k.cc.state ≠ .locking) (send : Cavity → Cavity) :
    k.handOver e send .doorOpened = k := if_neg h

/-- DOOR OPENED in LOCKING: the start fails, with no RELEASE sent. -/
theorem Cavity.handOver_doorOpened (h : k.cc.state = .locking) (send : Cavity → Cavity) :
    k.handOver e send .doorOpened = k.failStart e .doorOpen id := if_pos h

/-- A change of the door switch of a fitted cavity does what the statements say. -/
theorem Cavity.doorChange_taken (closed : Bool) : k.doorTaken e closed (k.doorChange closed e) := by
  have hafter : k.doorChange closed e =
      k.afterLock e (releasing e) (k.lock.doorChange (k.lockEnv e) closed) := rfl
  unfold Cavity.doorTaken
  extract_lets _ recorded l turned
  rw [hafter]
  by_cases hsame : k.lock.doorClosed = closed ∨ closed = true
  · rw [if_pos hsame]
    obtain rfl | rfl := hsame
    · rw [Lock.doorChange, if_pos rfl]; rfl
    · unfold Lock.doorChange
      split
      next h => exact congrArg (fun b => ({ k with lock := { k.lock with doorClosed := b } } : Cavity)) h
      next => rfl
  rw [if_neg hsame]
  obtain ⟨hd, hc⟩ := not_or.1 hsame
  rw [Bool.not_eq_true] at hc
  subst hc
  have hchange : k.lock.doorChange (k.lockEnv e) false = match l.state with
      | .closing => l.doorTurn (k.lockEnv e)
      | .locked => (l, [.doorForced])
      | _ => (l, []) := by
    unfold Lock.doorChange
    rw [if_neg hd]
    rfl
  rw [hchange]
  cases hs : l.state with
  | locked =>
    rw [if_pos rfl]
    refine Cavity.momentary_taken (k := recorded) (f := id) ?_ rfl (fun _ _ => rfl) rfl
    exact (congrArg LockState.travelling hs).trans rfl
  | closing =>
    rw [if_neg (by simp), if_pos rfl]
    by_cases hcheck : k.checkPasses e = true
    · rw [if_pos hcheck]
      have hturn : k.afterLock e (releasing e) (l.doorTurn (k.lockEnv e)) =
          if l.standsOpen then (({ k with lock := l.resting .opened } : Cavity).handOver e (releasing e)
            .opened).handOver e (releasing e) .doorOpened
          else ({ k with lock := l.underway e .opening .opened l.attempt .towardOpen } : Cavity).handOver e
            (releasing e) .doorOpened := by
        have hleg : l.doorTurn (k.lockEnv e) =
            ((l.finalLeg (k.lockEnv e) .opening .opened l.attempt).1,
              (l.finalLeg (k.lockEnv e) .opening .opened l.attempt).2 ++ [.doorOpened]) := by
          unfold Lock.doorTurn
          rw [Cavity.lockEnv_check, if_pos hcheck]
        rw [hleg, Lock.finalLeg_opening]
        split <;> rfl
      rw [hturn]
      simp only [turned]
      by_cases ho : l.standsOpen
      · simp only [if_pos ho, Cavity.handOver_opened]
        by_cases hl : k.cc.state = .locking
        · rw [if_pos hl, if_neg (by simp [hl]), Cavity.handOver_doorOpened
            (k := { k with lock := l.resting .opened }) hl]
          exact Cavity.intoUnlocking_of_quiet
        rw [if_neg hl]
        by_cases hu : k.cc.state = .unlocking
        · rw [if_pos ⟨hu, ho⟩, if_pos hu, Cavity.handOver_doorOpened_of_ne]
          · exact ⟨Cavity.endInIdle_endsIdle e rfl rfl rfl rfl rfl rfl, Cavity.endInIdle_lock e _ rfl⟩
          · obtain hi | hi := Cavity.endInIdle_state e ({ k with lock := l.resting .opened }) <;>
              exact fun hc => by simp [hi] at hc
        · rw [if_neg fun h => hu h.1, if_neg hu]
          exact Cavity.handOver_doorOpened_of_ne (k := { k with lock := l.resting .opened }) hl _
      · simp only [if_neg ho]
        by_cases hl : k.cc.state = .locking
        · rw [if_pos hl, Cavity.handOver_doorOpened
            (k := { k with lock := l.underway e .opening .opened l.attempt .towardOpen }) hl]
          exact Cavity.intoUnlocking_of_quiet
        · rw [if_neg hl, if_neg fun h => ho h.2]
          exact Cavity.handOver_doorOpened_of_ne
            (k := { k with lock := l.underway e .opening .opened l.attempt .towardOpen }) hl _
    · rw [if_neg hcheck]
      have hturn : l.doorTurn (k.lockEnv e) = (l.jam.1, l.jam.2 ++ [.doorOpened]) := by
        unfold Lock.doorTurn
        rw [Cavity.lockEnv_check, if_neg hcheck]
      have hjam : k.afterLock e (releasing e) (l.jam.1, l.jam.2 ++ [.doorOpened]) =
          (recorded.afterLock e (releasing e) recorded.lock.jam).handOver e (releasing e) .doorOpened := rfl
      rw [hturn, hjam, Cavity.handOver_doorOpened_of_ne Cavity.jam_state]
      exact Cavity.jam_jams
  | unknown | opened | opening | jammed =>
    rw [if_neg (by simp), if_neg (by simp)]
    rfl

/-- Settles O56: the cavity's lock takes the change, and no other cavity moves. -/
theorem doorSwitchesTurnTheDrive : Obligations.DoorSwitchesTurnTheDrive := by
  intro s c closed
  by_cases hf : s.fitted c = true
  · refine ⟨(s.onCav c (Cavity.doorChange closed)).decideAttn, ?_, s.onCav_onlyCavity c _, ?_⟩
    · exact congrArg State.settled (if_pos hf)
    · rw [if_pos hf, State.decideAttn_cav, State.onCav_cav_same]
      exact Cavity.doorChange_taken closed
  · refine ⟨(s.onCav c fun _ k => k.followDoor closed).decideAttn, ?_, s.onCav_onlyCavity c _, ?_⟩
    · exact congrArg State.settled (if_neg hf)
    · rw [if_neg hf, State.decideAttn_cav, State.onCav_cav_same]
      rfl

end Door

section Timeout
variable {e : Env} {k : Cavity}

/-- The retry leg of a RELEASE drive, with the door closed. -/
theorem Cavity.retryRelease_taken (send : Cavity → Cavity) :
    k.afterLock e send (k.lock.retryRelease (k.lockEnv e)) =
      if k.lock.standsLocked then k.afterLock e send (k.lock.turnRelease (k.lockEnv e))
      else { k with lock := k.lock.underway e .closing .opened 2 .towardClosed } := by
  unfold Lock.retryRelease
  simp only [Lock.atEnd_closing_iff, Lock.drive_eq]
  split <;> rfl

/-- The retry leg of a LOCK drive, where the release check passes. -/
theorem Cavity.retryLock_taken (send : Cavity → Cavity) :
    k.afterLock e send (k.lock.retryLock (k.lockEnv e)) =
      if k.lock.standsOpen then k.afterLock e send (k.lock.turnLock (k.lockEnv e))
      else { k with lock := k.lock.underway e .opening .locked 2 .towardOpen } := by
  unfold Lock.retryLock
  simp only [Lock.atEnd_opening_iff, Lock.drive_eq]
  split <;> rfl

/-- The travel timer of a fitted cavity's drive expires. -/
theorem Cavity.travelTimeout_timedOut : k.timedOut e (k.travelTimeout e) := by
  have hafter : k.travelTimeout e = k.afterLock e (releasing e) (k.lock.timeout (k.lockEnv e)) := rfl
  unfold Cavity.timedOut
  rw [hafter]
  have hjam : k.jams e (k.afterLock e (releasing e) k.lock.jam) := Cavity.jam_jams
  by_cases hoff : k.lock.timer.status ≠ .running ∨ (k.lock.state ≠ .closing ∧ k.lock.state ≠ .opening)
  · have ht : k.lock.timeout (k.lockEnv e) = (k.lock, []) := by
      refine if_neg fun h => ?_
      simp only [Bool.and_eq_true, decide_eq_true_eq] at h
      obtain ⟨hrun, htr⟩ := h
      obtain h | ⟨h1, h2⟩ := hoff
      · exact h hrun
      · cases hs : k.lock.state <;> simp_all [LockState.travelling]
    rw [if_pos hoff, ht]
    rfl
  rw [if_neg hoff]
  push Not at hoff
  have hrun : (decide (k.lock.timer.status = .running) && k.lock.state.travelling) = true := by
    obtain ⟨hr, htr⟩ := hoff
    cases hs : k.lock.state <;> simp_all [LockState.travelling]
  rw [Lock.timeout, if_pos hrun]
  by_cases hat : k.lock.attempt = 1
  swap
  · rw [if_neg hat, if_pos hat]
    exact hjam
  rw [if_pos hat, if_neg (not_not.2 hat)]
  by_cases hg : k.lock.goal = some .opened
  · rw [if_pos hg, if_pos hg]
    by_cases hd : k.lock.doorClosed = true
    · rw [if_pos hd, if_neg (by simp [hd]), Cavity.retryRelease_taken]
      by_cases hl : k.lock.standsLocked
      · rw [if_pos hl, if_pos hl, Cavity.turnRelease_ends hl]
        split
        · rfl
        · exact hjam
      · rw [if_neg hl, if_neg hl]
    · rw [if_neg hd, if_pos (by simpa using hd)]
      exact hjam
  · rw [if_neg hg, if_neg hg, Cavity.lockEnv_check]
    by_cases hc : k.checkPasses e = true
    · rw [if_pos hc, if_neg (by simp [hc]), Cavity.retryLock_taken]
      by_cases ho : k.lock.standsOpen
      · rw [if_pos ho, if_pos ho, Cavity.turnLock_ends ho]
        split
        · rfl
        · exact Cavity.hears_refused (k := { k with lock := k.lock.resting .opened }) rfl _
      · rw [if_neg ho, if_neg ho]
    · rw [if_neg hc, if_pos (by simpa using hc)]
      exact hjam

/-- Settles O57: at a fitted cavity the drive takes the expiry, and at any other nothing moves. -/
theorem travelTimeoutsRetryOrJam : Obligations.TravelTimeoutsRetryOrJam := by
  intro s c
  by_cases hf : s.fitted c = true
  · obtain ⟨t, ht, honly, hcav⟩ := s.ifFitted_settled c Cavity.travelTimeout hf
    refine ⟨t, ht, ?_⟩
    rw [if_pos hf, hcav]
    exact ⟨honly, Cavity.travelTimeout_timedOut⟩
  · refine ⟨s.decideAttn, ?_, ?_⟩
    · exact congrArg State.settled (s.ifFitted_of_not c _ (by simpa using hf))
    · rw [if_neg hf]
      exact s.nothingMoves_self

end Timeout

end Sys2Proof.Machine

namespace Sys2Proof.Machine

/-! ## What the decisions of the controller leave of the probes (R64) -/

section Keeps
variable (e : Env) (k : Cavity)

theorem Cavity.trip_recovering (c : Condition) (later : CondSet) :
    (k.trip e c later).cc.recovering = k.cc.recovering := by
  obtain ⟨-, -, -, -, -, -, h⟩ := Cavity.trip_cc e c later k
  exact h

theorem Cavity.decideEntry_prb_cavity : (k.decideEntry e).prb.cavity = k.prb.cavity := by
  obtain ⟨-, hk⟩ | ⟨c, rest, -, hk⟩ := Cavity.decideEntry_cases e k <;> rw [hk]
  exact Cavity.trip_prb_cavity ..

theorem Cavity.decideEntry_recovering : (k.decideEntry e).cc.recovering = k.cc.recovering := by
  obtain ⟨-, hk⟩ | ⟨c, rest, -, hk⟩ := Cavity.decideEntry_cases e k <;> rw [hk]
  exact Cavity.trip_recovering ..

/-- A decision outside CLEANING and HELD leaves the probes and the detector. -/
theorem Cavity.decideEntry_prb (hc : k.cc.state ≠ .cleaning) (hh : k.cc.state ≠ .held) :
    (k.decideEntry e).prb = k.prb := by
  obtain ⟨-, hk⟩ | ⟨c, rest, -, hk⟩ := Cavity.decideEntry_cases e k <;> rw [hk]
  rw [Cavity.trip_prb, if_neg (not_or.2 ⟨hc, hh⟩)]

theorem Cavity.endInIdle_prb : (k.endInIdle e).prb = k.prb :=
  Cavity.decideEntry_prb e ((k.enterState e .idle).setEvent .cycleEnded)
    (by show CavState.idle ≠ _; decide) (by show CavState.idle ≠ _; decide)

theorem Cavity.endInIdle_recovering : (k.endInIdle e).cc.recovering = k.cc.recovering :=
  Cavity.decideEntry_recovering ..

theorem Cavity.enterCooldown_prb_cavity (why : LastEnd) :
    (k.enterCooldown e why).prb.cavity = k.prb.cavity := Cavity.decideEntry_prb_cavity ..

theorem Cavity.enterCooldown_recovering (why : LastEnd) :
    (k.enterCooldown e why).cc.recovering = k.cc.recovering := Cavity.decideEntry_recovering ..

/-- Where a move of the program leaves a CLEANING cavity, with its probe and its recovery as they were. -/
theorem Cavity.moveTo_keeps (hst : k.cc.state = .cleaning) (i : Nat) :
    (k.moveTo e i).prb.cavity = k.prb.cavity ∧ (k.moveTo e i).cc.recovering = k.cc.recovering ∧
      ((k.moveTo e i).cc.state = .cleaning ∨ (k.moveTo e i).cc.state = .cooldown ∨
        (k.moveTo e i).cc.state = .faulted) := by
  unfold Cavity.moveTo
  split
  · exact ⟨rfl, rfl, .inl hst⟩
  · exact ⟨Cavity.enterCooldown_prb_cavity .., Cavity.enterCooldown_recovering ..,
      .inr (Cavity.enterCooldown_state ..)⟩
  · rw [Cavity.programFault_eq e k hst]
    dsimp only
    split
    · exact ⟨Cavity.trip_prb_cavity .., Cavity.trip_recovering .., .inr (.inr (Cavity.trip_state ..))⟩
    · exact ⟨Cavity.enterCooldown_prb_cavity .., Cavity.enterCooldown_recovering ..,
        .inr (Cavity.enterCooldown_state ..)⟩

end Keeps

/-! ## The stages of a cavity sample (R62 to R64, R71, R106) -/

section Stages
variable {e : Env} {v : Int} {k : Cavity}

/-- The fan told of its fault view is decided by the model as the statements have it. -/
theorem Fan.viewing_eq (st : CavState) (fault : Bool) (f : Fan) : f.viewing st fault =
    ({ f with probeView := fault } : Fan).take (({ f with probeView := fault } : Fan).wanted st) := by
  rw [Fan.wanted_eq]
  unfold Fan.viewing Fan.take
  dsimp only
  by_cases h1 : fanPolicy st fault f.warmView f.segFlag f.idleLow = f.command
  · rw [if_pos h1, if_pos h1, h1]
  · by_cases h2 : fanPolicy st fault f.warmView f.segFlag f.idleLow = .off
    · rw [if_neg h1, if_neg h1, if_pos h2, if_pos h2, h2]
    · rw [if_neg h1, if_neg h1, if_neg h2, if_neg h2]
      rfl

/-- Of a sample that is not good, a fault of the probe that it does not begin stands or never was. -/
theorem Probe.after_of_good {lo hi v : Int} {p : Probe} (h : p.goodSample lo hi v = true) :
    (p.after lo hi v).reading = v ∧ (p.after lo hi v).fault = false ∧ p.faultReported lo hi v = false := by
  simp only [Probe.goodSample, Bool.and_eq_true, decide_eq_true_eq, Bool.or_eq_true,
    Bool.not_eq_true'] at h
  obtain ⟨hr, hf⟩ := h
  cases hp : p.fault with
  | false => simp [Probe.after, Probe.faultReported, hp, hr]
  | true =>
    have hg : 2 ≤ p.good := by simpa [hp] using hf
    simp [Probe.after, Probe.faultReported, Probe.goodSample, hp, hr, hg]

/-- What a sample is to the stages that follow its first. -/
def Probe.sampleClass (v : Int) (p : Probe) : SampleClass :=
  { good := p.goodSample (-400) 6000 v, onset := p.faultReported (-400) 6000 v,
    ended := p.fault && p.goodSample (-400) 6000 v }

/-- The cavity with its probe as the first stage leaves it. -/
def Cavity.probed (v : Int) (k : Cavity) : Cavity :=
  { k with prb := { k.prb with cavity := k.prb.cavity.after (-400) 6000 v } }

/-- A cavity sample is its stages. -/
theorem Cavity.cavitySample_eq :
    let cls := k.prb.cavity.sampleClass v
    let k2 := (k.probed v).reportCavityFault e cls
    let k3 := if cls.good then k2.checkOvertemp e else k2
    let k5 := (k3.releaseLaw e cls).markStage e cls
    let k6 := k5.recoverStage e (decide ((k.prb.cavity.after (-400) 6000 v).taken = 3))
    k.cavitySample e v = if cls.good then k6.goodSample e else k6 := by
  have hs : k.prb.cavity.sample Config.cavityLo Config.cavityHi v =
      (k.prb.cavity.after (-400) 6000 v, k.prb.cavity.sampleClass v) := Probe.sample_eq ..
  unfold Cavity.cavitySample
  rw [hs]
  rfl

/-- Stages 1 and 2 of a good sample that raises no OVERTEMP. -/
theorem Cavity.heard_eq (hg : k.prb.cavity.goodSample (-400) 6000 v = true)
    (hv : v ≤ (e.cfg.limits.cleanCeiling : Int) + e.cfg.limits.overtempMargin) :
    ((k.probed v).reportCavityFault e (k.prb.cavity.sampleClass v)).checkOvertemp e = k.heard v := by
  obtain ⟨hread, -, honset⟩ := Probe.after_of_good hg
  have hover (m : Cavity) (hm : m.prb.cavity.reading = v) : m.checkOvertemp e =
      { m with prb := { m.prb with overtemp := false },
               cond := { m.cond with present := if m.prb.overtemp then m.cond.present.del .overtemp
                                                else m.cond.present } } := by
    unfold Cavity.checkOvertemp
    rw [hm, decide_eq_false (not_lt.2 hv)]
    unfold Cavity.levelReport
    cases m.prb.overtemp <;> rfl
  cases hf : k.prb.cavity.fault with
  | false =>
    have hrep : (k.probed v).reportCavityFault e (k.prb.cavity.sampleClass v) = k.probed v := by
      simp [Cavity.reportCavityFault, Probe.sampleClass, honset, hf]
    rw [hrep, hover _ hread]
    simp only [Cavity.heard, hf, Bool.false_eq_true, if_false]
    have hno : ¬ (k.fan.stall = true ∧ k.fan.stall = false) := by simp
    rw [if_neg hno]
    rfl
  | true =>
    have hrep : (k.probed v).reportCavityFault e (k.prb.cavity.sampleClass v) =
        ({ (k.probed v).absent .sensor with fan := { k.fan with probeView := false } } : Cavity).decideFan := by
      simp only [Cavity.reportCavityFault, Probe.sampleClass, honset, hf, hg, Bool.and_self,
        Bool.false_eq_true, if_false, if_true]
      rfl
    rw [hrep, hover _ hread]
    simp only [Cavity.heard, hf, if_true, Fan.viewing_eq]
    unfold Cavity.decideFan Cavity.absent Cavity.probed
    dsimp only
    generalize ({ k.fan with probeView := false } : Fan).take
      (({ k.fan with probeView := false } : Fan).wanted k.cc.state) = f
    cases k.fan.stall <;> cases f.stall <;> rfl

/-- Stage 3 stops no motor that does not run toward open. -/
theorem Cavity.releaseLaw_of_not (cls : SampleClass) (h : k.lock.motor ≠ .towardOpen) :
    k.releaseLaw e cls = k := by
  unfold Cavity.releaseLaw
  split
  · have : k.lock.stopOpenDrive = (k.lock, []) := if_neg h
    rw [this]
    rfl
  · rfl

/-- A good sample that raises no OVERTEMP and stops no motor, in a cavity that is not to recover: what is
left of it is the detector's stage and the controller's. -/
theorem Cavity.cavitySample_quiet (hg : k.prb.cavity.goodSample (-400) 6000 v = true)
    (hv : v ≤ (e.cfg.limits.cleanCeiling : Int) + e.cfg.limits.overtempMargin)
    (hmotor : k.lock.motor = .towardOpen → v < e.cfg.limits.unlockLevel)
    (hrec : ((k.heard v).markStage e (k.prb.cavity.sampleClass v)).cc.recovering = false) :
    k.cavitySample e v = ((k.heard v).markStage e (k.prb.cavity.sampleClass v)).goodSample e := by
  obtain ⟨hread, -, honset⟩ := Probe.after_of_good hg
  have hgood : (k.prb.cavity.sampleClass v).good = true := hg
  have hlaw : (k.heard v).releaseLaw e (k.prb.cavity.sampleClass v) = k.heard v := by
    by_cases hm : k.lock.motor = .towardOpen
    · refine if_neg ?_
      have hr : (k.heard v).prb.cavity.reading = v := hread
      simp [Probe.sampleClass, honset, hr, hmotor hm]
    · exact Cavity.releaseLaw_of_not _ hm
  rw [Cavity.cavitySample_eq]
  simp only [hgood, if_true]
  rw [Cavity.heard_eq hg hv, hlaw]
  simp [Cavity.recoverStage, hrec]

end Stages

end Sys2Proof.Machine

namespace Sys2Proof.Machine

/-! ## The good-sample report at the controller (R24 to R26) -/

section GoodSample
variable {e : Env} {v : Int} {k : Cavity}

/-- Below the unlock level with the probe good, the release check passes. -/
theorem Cavity.checkPasses_of_good (hread : k.prb.cavity.reading = v) (hfault : k.prb.cavity.fault = false)
    (h : v < e.cfg.limits.unlockLevel) : k.checkPasses e = true := by
  simp [Cavity.checkPasses, hread, hfault, h]

/-- RELEASE sent from rest where the release check passes. -/
theorem Cavity.sendRelease_passing (hh : k.lock.halted) (hc : k.checkPasses e = true) : k.sendRelease e =
    if k.cc.state = .unlocking ∧ k.lock.standsOpen then
      ({ k with lock := k.lock.resting .opened } : Cavity).endInIdle e
    else { k with lock := k.lock.released e } := by
  have hr : k.releasedLock e = k.lock.released e := if_pos (.inr hc)
  rw [Cavity.sendRelease_halted e k hh, hr]
  by_cases ho : k.lock.standsOpen
  · have hl : k.lock.released e = k.lock.resting .opened := if_pos ⟨ho.1, ho.2⟩
    rw [if_pos ho, hl]
    by_cases hu : k.cc.state = .unlocking
    · rw [if_pos hu, if_pos ⟨hu, ho⟩]
    · rw [if_neg hu, if_neg fun h => hu h.1]
  · rw [if_neg ho, if_neg fun h => ho h.2]

/-- A cavity that goes to UNLOCKING with RELEASE, the check passing. -/
theorem Cavity.unlock_passing (why : LastEnd) (hh : k.lock.halted) (hc : k.checkPasses e = true) :
    let k' := (((k.writeEnd why).enterState e .unlocking).sendRelease e).decideEntry e
    if k.lock.standsOpen then k.endsIdle e why k.cond.present k' ∧ k'.lock = k.lock.resting .opened
    else k.intoUnlocking e (k.cc.unlockingWith why) (k.lock.released e) k.cond.present k.cond.trip k' := by
  have hsend := Cavity.sendRelease_passing (e := e) (k := (k.writeEnd why).enterState e .unlocking) hh hc
  dsimp only
  rw [hsend]
  by_cases ho : k.lock.standsOpen
  · rw [if_pos ho, if_pos ⟨Cavity.enterState_state .., ho⟩, Cavity.decideEntry_endInIdle]
    exact Cavity.endsIdle_of_unlocking rfl
  · have hno : ¬ (((k.writeEnd why).enterState e .unlocking).cc.state = .unlocking ∧
        ((k.writeEnd why).enterState e .unlocking).lock.standsOpen) := fun h => ho h.2
    rw [if_neg ho, if_neg hno]
    exact Cavity.intoUnlocking_of_quiet

/-- The controller takes a good sample in COOLDOWN, UNLOCKING or IDLE. -/
theorem Cavity.goodSample_taken (hread : k.prb.cavity.reading = v) (hfault : k.prb.cavity.fault = false)
    (hst : k.cc.state = .cooldown ∨ k.cc.state = .unlocking ∨ k.cc.state = .idle) :
    k.goodSampleTaken e v (k.goodSample e) := by
  unfold Cavity.goodSampleTaken
  dsimp only
  by_cases hv : (e.cfg.limits.unlockLevel : Int) ≤ v
  · rw [if_pos hv]
    exact if_pos (hread ▸ hv)
  rw [if_neg hv]
  have hc : k.checkPasses e = true := Cavity.checkPasses_of_good hread hfault (not_le.1 hv)
  by_cases hcool : k.cc.state = .cooldown
  · have hgs : k.goodSample e = if k.lock.state = .opened then k.endInIdle e
        else if k.lock.halted then ((k.enterState e .unlocking).sendRelease e).decideEntry e else k := by
      simp [Cavity.goodSample, hread, hv, hcool]
    rw [if_pos hcool, hgs]
    by_cases hopen : k.lock.state = .opened
    · rw [if_pos hopen, if_pos hopen]
      exact ⟨Cavity.endInIdle_endsIdle e rfl rfl rfl rfl rfl rfl,
        Cavity.endInIdle_lock e k (by rw [hopen]; rfl)⟩
    rw [if_neg hopen, if_neg hopen]
    by_cases hh : k.lock.halted
    · rw [if_pos hh, if_pos hh]
      exact Cavity.unlock_passing k.cc.lastEnd hh hc
    · rw [if_neg hh, if_neg hh]
  · have hgs : k.goodSample e = if k.lock.halted then k.sendRelease e else k := by
      obtain hs | hs | hs := hst
      · exact absurd hs hcool
      · simp [Cavity.goodSample, hread, hv, hs]
      · simp [Cavity.goodSample, hread, hv, hs]
    rw [if_neg hcool]
    by_cases hh : k.lock.halted
    · rw [if_pos hh, Cavity.sendRelease_passing hh hc] at hgs
      rw [hgs]
      by_cases hu : k.cc.state = .unlocking ∧ k.lock.standsOpen
      · rw [if_pos hu, if_pos ⟨hu.1, hh, hu.2⟩]
        exact ⟨Cavity.endInIdle_endsIdle e rfl rfl rfl rfl rfl rfl, Cavity.endInIdle_lock e _ rfl⟩
      · rw [if_neg hu, if_neg fun h => hu ⟨h.1, h.2.2⟩, if_pos hh]
    · rw [if_neg hh] at hgs
      rw [hgs, if_neg fun h => hh h.2.1, if_neg hh]

/-- In the other states the controller does nothing on a good sample. -/
theorem Cavity.goodSample_of_ne (h1 : k.cc.state ≠ .cooldown) (h2 : k.cc.state ≠ .unlocking)
    (h3 : k.cc.state ≠ .idle) : k.goodSample e = k := by
  unfold Cavity.goodSample
  split
  · rfl
  · cases hs : k.cc.state <;> simp_all

end GoodSample

/-! ## The armed detector (R57, R67, R68) -/

section Mark
variable {e : Env} {v : Int} {d : Detector} {k : Cavity}

/-- The cavity whose mark is confirmed, its program not yet moved. -/
def Cavity.marked (d : Detector) (k : Cavity) : Cavity :=
  { k with
    cc := { k.cc with markHeld := true, events := maskAdd k.cc.events (if d.dir = .rise then 2 else 3) }
    prb := { k.prb with mark := none } }

/-- A confirmed mark moves the program on in CLEANING from an arrived RAMP or a COAST, and nowhere else. -/
theorem Cavity.confirmMark_cases (e : Env) (d : Detector) (k : Cavity) :
    (∃ i, k.cc.segIndex = some i ∧ k.cc.state = .cleaning ∧
      (((e.segs.at i).kind = .ramp ∧ k.cc.arrived = true) ∨ (e.segs.at i).kind = .coast) ∧
      k.confirmMark e d.dir = (k.marked d).moveTo e
        (if (e.segs.at i).next = 255 then i + 1 else (e.segs.at i).next)) ∨
    ((∀ i, k.cc.segIndex = some i → ¬ (k.cc.state = .cleaning ∧
      (((e.segs.at i).kind = .ramp ∧ k.cc.arrived = true) ∨ (e.segs.at i).kind = .coast))) ∧
      k.confirmMark e d.dir = k.marked d) := by
  have hk : k.marked d = { k.setEvent (match d.dir with | .rise => .riseMark | .fall => .fallMark) with
      cc := { (k.setEvent (match d.dir with | .rise => CavEvent.riseMark | .fall => .fallMark)).cc with
        markHeld := true }
      prb := { k.prb with mark := none } } := by
    unfold Cavity.marked
    cases d.dir <;> rfl
  have hconf : k.confirmMark e d.dir = match (k.marked d).cc.state, (k.marked d).cc.segIndex with
      | .cleaning, some i =>
        match (e.segs.at i).kind with
        | .ramp => if (k.marked d).cc.arrived then (k.marked d).segmentEnds e else k.marked d
        | .coast => (k.marked d).segmentEnds e
        | _ => k.marked d
      | _, _ => k.marked d := by
    rw [hk]
    rfl
  cases hi : k.cc.segIndex with
  | none =>
    refine .inr ⟨fun i h => (Option.some_ne_none i h.symm).elim, ?_⟩
    rw [hconf]
    have hi' : (k.marked d).cc.segIndex = none := hi
    rw [hi']
    cases (k.marked d).cc.state <;> rfl
  | some i =>
    have hi' : (k.marked d).cc.segIndex = some i := hi
    have hst' : (k.marked d).cc.state = k.cc.state := rfl
    have harr' : (k.marked d).cc.arrived = k.cc.arrived := rfl
    rw [hi', hst', harr', Cavity.segmentEnds_eq e (k.marked d) hi'] at hconf
    by_cases hmove : k.cc.state = .cleaning ∧
        (((e.segs.at i).kind = .ramp ∧ k.cc.arrived = true) ∨ (e.segs.at i).kind = .coast)
    · refine .inl ⟨i, rfl, hmove.1, hmove.2, ?_⟩
      rw [hconf, hmove.1]
      obtain ⟨hr, ha⟩ | hc := hmove.2
      · simp only [hr, ha, if_true]
      · simp only [hc]
    · refine .inr ⟨fun j hj => by simp only [Option.some.injEq] at hj; subst hj; exact hmove, ?_⟩
      rw [hconf]
      cases hs : k.cc.state <;> simp only
      cases hkind : (e.segs.at i).kind <;> simp_all

theorem Cavity.confirmMark_confirms : k.confirms e d (k.confirmMark e d.dir) := by
  unfold Cavity.confirms
  obtain ⟨i, hi, hst, hkind, hk⟩ | ⟨hno, hk⟩ := Cavity.confirmMark_cases e d k
  · rw [hi, hk]
    dsimp only
    rw [if_pos ⟨hst, hkind⟩]
    exact Cavity.moveTo_movesOn e (k.marked d) hst _
  · rw [hk]
    cases hi : k.cc.segIndex with
    | none => rfl
    | some i =>
      dsimp only
      rw [if_neg (hno i hi)]
      rfl

/-- What a confirmed mark leaves of a cavity in CLEANING or HELD. -/
theorem Cavity.confirmMark_keeps (hst : k.cc.state = .cleaning ∨ k.cc.state = .held) :
    (k.confirmMark e d.dir).prb.cavity = k.prb.cavity ∧
      (k.confirmMark e d.dir).cc.recovering = k.cc.recovering ∧
      ((k.confirmMark e d.dir).cc.state = .cleaning ∨ (k.confirmMark e d.dir).cc.state = .held ∨
        (k.confirmMark e d.dir).cc.state = .cooldown ∨ (k.confirmMark e d.dir).cc.state = .faulted) := by
  obtain ⟨i, -, hc, -, hk⟩ | ⟨-, hk⟩ := Cavity.confirmMark_cases e d k
  · rw [hk]
    obtain ⟨hp, hr, hs⟩ := Cavity.moveTo_keeps e (k.marked d) hc
      (if (e.segs.at i).next = 255 then i + 1 else (e.segs.at i).next)
    exact ⟨hp, hr, by tauto⟩
  · rw [hk]
    obtain hst | hst := hst
    · exact ⟨rfl, rfl, .inl hst⟩
    · exact ⟨rfl, rfl, .inr (.inl hst)⟩

end Mark

end Sys2Proof.Machine

namespace Sys2Proof.Machine

/-! ## Marks, releases and recovery in a cavity sample (R24 to R26, R29, R57, R64, R68, R106) -/

section CavitySample
variable {e : Env} {v : Int} {d : Detector} {k : Cavity}

/-- What the command does to the sampled cavity, and that it does nothing else. -/
theorem State.cavitySample_taken {s : State} {c : CavNo} (v : Int) (hf : s.fitted c = true)
    {P : Cavity → Prop} (h : P ((s.cav c).cavitySample (s.env c) v)) :
    ∃ t, exec (.cavitySample c v) s = .next t ∧ s.onlyCavity c t ∧ P (t.cav c) := by
  obtain ⟨t, ht, honly, hcav⟩ := s.ifFitted_settled c (fun e k => k.cavitySample e v) hf
  exact ⟨t, ht, honly, hcav ▸ h⟩

/-- The armed detector takes a good sample. -/
theorem Cavity.markStage_good {cls : SampleClass} (hgood : cls.good = true) (hmark : k.prb.mark = some d)
    (hread : k.prb.cavity.reading = v) :
    k.markStage e cls =
      let far : Bool := if d.dir = .rise then decide (d.level ≤ v) else decide (v < d.level)
      if far = false then { k with prb := { k.prb with mark := some { d with count := 0 } } }
      else if d.count + 1 < e.cfg.part.markCount then
        { k with prb := { k.prb with mark := some { d with count := d.count + 1 } } }
      else k.confirmMark e d.dir := by
  have hfar : d.farSide v = if d.dir = .rise then decide (d.level ≤ v) else decide (v < d.level) := by
    unfold Detector.farSide
    cases d.dir <;> rfl
  unfold Cavity.markStage
  simp only [hmark, hgood, Bool.true_and, hread, ← hfar]
  cases d.farSide v with
  | false => rfl
  | true =>
    simp only [if_true, Bool.true_eq_false, if_false]
    by_cases hc : e.cfg.part.markCount ≤ d.count + 1
    · rw [if_pos hc, if_neg (not_lt.2 hc)]
    · rw [if_neg hc, if_pos (not_le.1 hc)]

/-- A good sample with a detector armed in CLEANING or HELD. -/
theorem Cavity.cavitySample_markThenSample (hst : k.cc.state = .cleaning ∨ k.cc.state = .held)
    (hmark : k.prb.mark = some d) (hg : k.prb.cavity.goodSample (-400) 6000 v = true)
    (hv : v ≤ (e.cfg.limits.cleanCeiling : Int) + e.cfg.limits.overtempMargin)
    (hrec : k.cc.recovering = false) (hmotor : k.lock.motor = .towardOpen → v < e.cfg.limits.unlockLevel) :
    k.markThenSample e v d (k.cavitySample e v) := by
  obtain ⟨hread, hfault, -⟩ := Probe.after_of_good hg
  have hstage := Cavity.markStage_good (e := e) (k := k.heard v) (cls := k.prb.cavity.sampleClass v) (v := v)
    hg hmark hread
  obtain ⟨cp, cr, cs⟩ := Cavity.confirmMark_keeps (e := e) (d := d) (k := k.heard v) hst
  have hkeep (m : Cavity) (hm : m.cc = k.cc) : m.cc.recovering = false ∧
      (m.cc.state = .cleaning ∨ m.cc.state = .held ∨ m.cc.state = .cooldown ∨ m.cc.state = .faulted) := by
    rw [hm]; exact ⟨hrec, by tauto⟩
  let m := (k.heard v).markStage e (k.prb.cavity.sampleClass v)
  have hm : k.markCounts e v d m ∧ m.prb.cavity = (k.heard v).prb.cavity ∧ m.cc.recovering = false ∧
      (m.cc.state = .cleaning ∨ m.cc.state = .held ∨ m.cc.state = .cooldown ∨ m.cc.state = .faulted) := by
    unfold Cavity.markCounts
    dsimp only at hstage ⊢
    generalize (if d.dir = .rise then decide (d.level ≤ v) else decide (v < d.level)) = far at hstage ⊢
    by_cases h1 : far = false
    · rw [if_pos h1] at hstage ⊢
      exact ⟨hstage, congrArg (·.prb.cavity) hstage, hkeep m (congrArg (·.cc) hstage)⟩
    rw [if_neg h1] at hstage ⊢
    by_cases h2 : d.count + 1 < e.cfg.part.markCount
    · rw [if_pos h2] at hstage ⊢
      exact ⟨hstage, congrArg (·.prb.cavity) hstage, hkeep m (congrArg (·.cc) hstage)⟩
    rw [if_neg h2] at hstage ⊢
    rw [show m = _ from hstage]
    exact ⟨Cavity.confirmMark_confirms, cp, cr.trans hrec, cs⟩
  obtain ⟨hcounts, hprb, hrecm, hstm⟩ := hm
  refine ⟨m, hcounts, ?_⟩
  rw [Cavity.cavitySample_quiet hg hv hmotor hrecm]
  by_cases hcool : m.cc.state = .cooldown
  · rw [if_pos hcool]
    exact Cavity.goodSample_taken (by rw [hprb]; exact hread) (by rw [hprb]; exact hfault) (.inl hcool)
  · rw [if_neg hcool]
    exact Cavity.goodSample_of_ne hcool (by grind) (by grind)

/-- What the record of a tripped cavity shows of it does not turn on the rest of the record. -/
theorem Cavity.trippedBy_of_same {slot : Option Nat} {causes : List Condition} {k k' : Cavity}
    (h : k.trippedBy slot causes) (hcc : k'.cc = k.cc) (htrip : k'.cond.trip = k.cond.trip)
    (hch : ∀ p, k'.channel p = k.channel p) (hcat : k'.fan.catalyst = k.fan.catalyst)
    (hcmd : k'.fan.command = .high) : k'.trippedBy slot causes := by
  obtain ⟨h1, h2, h3, h4, h5, h6, h7, h8, -⟩ := h
  exact ⟨by rw [hcc, h1], by rw [htrip, h2], by rw [htrip]; exact h3, by rw [hcc, h4], by rw [hcc, h5],
    by rw [hcc, h6], fun p hp => by rw [hch, h7 p hp], by rw [hcat, h8], hcmd⟩

/-- A probe fault that begins trips the cavity by SENSOR where the table says so. -/
theorem Cavity.reportCavityFault_of_trips {cls : SampleClass} (hon : cls.onset = true)
    (ht : tripsIn e.page k.cc.state .sensor = true) :
    let k' := k.reportCavityFault e cls
    k'.trippedBy e.slot [.sensor] ∧ k'.lock = k.lock.takeStop.1 ∧ k'.cc.recovering = k.cc.recovering ∧
      k'.prb = if k.cc.state = .cleaning ∨ k.cc.state = .held then { k.prb with mark := none } else k.prb := by
  let k1 : Cavity := { k with cond := { k.cond with
    present := k.cond.present.add .sensor, seen := k.cond.seen.add .sensor } }
  have hk : k.reportCavityFault e cls = ({ k1.trip e .sensor 0 with
      fan := { (k1.trip e .sensor 0).fan with probeView := true } } : Cavity).decideFan := by
    unfold Cavity.reportCavityFault
    rw [if_pos hon, Cavity.onset_of_trips ht]
  dsimp only
  rw [hk]
  have htrip := Cavity.trip_trippedBy_one e .sensor k1
  refine ⟨Cavity.trippedBy_of_same htrip rfl ?_ (fun p => ?_) ?_ ?_, ?_, ?_, ?_⟩
  · exact Cavity.decideFan_trip _
  · rw [Cavity.decideFan_channel]; cases p <;> rfl
  · exact (Fan.take_keeps _ _).2.2.2.2.2.2
  · rw [Cavity.decideFan_command]
    rw [show (_ : Cavity).cc.state = CavState.faulted from Cavity.trip_state ..]
    rfl
  · exact Cavity.trip_lock e k1 .sensor 0
  · exact Cavity.trip_recovering e k1 .sensor 0
  · exact Cavity.trip_prb e .sensor 0 k1

/-- Stage 3 in FAULTED: a motor that runs toward open is stopped in UNKNOWN, and the controller does nothing. -/
theorem Cavity.releaseLaw_faulted (h : k.cc.state = .faulted) {cls : SampleClass}
    (hcls : (cls.onset ||
      (cls.good && decide ((e.cfg.limits.unlockLevel : Int) ≤ k.prb.cavity.reading))) = true) :
    k.releaseLaw e cls =
      { k with lock := if k.lock.motor = .towardOpen then k.lock.resting .unknown else k.lock } := by
  have hk : k.releaseLaw e cls = k.afterLock e (releasing e) k.lock.stopOpenDrive := if_pos hcls
  rw [hk]
  unfold Lock.stopOpenDrive
  split
  · exact Cavity.handOver_unknown_faulted (m := { k with lock := k.lock.resting .unknown }) h
  · rfl

/-- A sample that is not good, in CLEANING or HELD with a detector armed. -/
theorem Cavity.cavitySample_markPutBack (hst : k.cc.state = .cleaning ∨ k.cc.state = .held)
    (hmark : k.prb.mark = some d) (hg : k.prb.cavity.goodSample (-400) 6000 v = false)
    (hrec : k.cc.recovering = false) : k.markPutBack e v d (k.cavitySample e v) := by
  have hgood : (k.prb.cavity.sampleClass v).good = false := hg
  have htrips : tripsIn e.page k.cc.state .sensor = true := by
    obtain h | h := hst <;> rw [h] <;> rfl
  rw [Cavity.cavitySample_eq]
  simp only [hgood, Bool.false_eq_true, if_false]
  unfold Cavity.markPutBack
  cases hon : k.prb.cavity.faultReported (-400) 6000 v with
  | true =>
    rw [if_pos rfl]
    obtain ⟨htrip, -, hr, hp⟩ := Cavity.reportCavityFault_of_trips (e := e) (k := k.probed v)
      (cls := k.prb.cavity.sampleClass v) hon htrips
    generalize (k.probed v).reportCavityFault e (k.prb.cavity.sampleClass v) = m at htrip hr hp ⊢
    have hmark' : m.prb.mark = none := by
      rw [hp, if_pos (show (k.probed v).cc.state = .cleaning ∨ (k.probed v).cc.state = .held from hst)]
    have hm : ∀ l : Lock,
        (({ m with lock := l } : Cavity).markStage e (k.prb.cavity.sampleClass v)).recoverStage e
        (decide ((k.prb.cavity.after (-400) 6000 v).taken = 3)) = { m with lock := l } := by
      intro l
      simp [Cavity.markStage, hmark', Cavity.recoverStage, hr, Cavity.probed, hrec]
    rw [Cavity.releaseLaw_faulted htrip.1 (by simp [Probe.sampleClass, hon]), hm]
    obtain ⟨-, -, -, -, -, -, -, -, hcmd⟩ := id htrip
    exact ⟨Cavity.trippedBy_of_same htrip rfl rfl (fun p => by cases p <;> rfl) rfl hcmd, hmark'⟩
  | false =>
    rw [if_neg (by simp)]
    have h2 : (k.probed v).reportCavityFault e (k.prb.cavity.sampleClass v) = k.probed v := by
      simp [Cavity.reportCavityFault, Probe.sampleClass, hon, hg]
    have h4 : (k.probed v).releaseLaw e (k.prb.cavity.sampleClass v) = k.probed v := by
      simp [Cavity.releaseLaw, Probe.sampleClass, hon, hg]
    rw [h2, h4]
    simp [Cavity.markStage, Cavity.probed, hmark, hgood, Cavity.recoverStage, hrec]

/-- Settles O45: a good sample at the armed detector, and one that is not good. -/
theorem marksAreConfirmedAndMoveTheProgram : Obligations.MarksAreConfirmedAndMoveTheProgram := by
  intro s c v d hst hmark
  refine ⟨fun ⟨hf, hg, hv, hrec, hmotor⟩ => ?_, fun hf hrec hg => ?_⟩
  · exact State.cavitySample_taken v hf (Cavity.cavitySample_markThenSample hst hmark hg hv hrec hmotor)
  · exact State.cavitySample_taken v hf (Cavity.cavitySample_markPutBack hst hmark hg hrec)

end CavitySample

end Sys2Proof.Machine

namespace Sys2Proof.Machine

/-! ## A motor toward open stopped by a sample (R64 stage 3, R106) -/

section Stopped
variable {e : Env} {v : Int} {k : Cavity}

/-- A lasting condition that arises changes the condition record alone, or trips. -/
theorem Cavity.onset_cases (e : Env) (k : Cavity) (c : Condition) :
    (∃ m, k.onset e c = { k with cond := m }) ∨
      ∃ m, k.onset e c = ({ k with cond := m } : Cavity).trip e c 0 := by
  by_cases hf : k.cc.state = .faulted
  · left
    simp only [Cavity.onset, Cavity.judge, if_pos hf]
    split <;> exact ⟨_, rfl⟩
  cases ht : tripsIn e.page k.cc.state c with
  | true => exact .inr ⟨_, Cavity.onset_of_trips ht⟩
  | false => exact .inl ⟨_, Cavity.onset_of_not_trips hf ht⟩

/-- The controller that hears UNKNOWN of a lock at rest there moves neither the probes nor the recovery; its
RELEASE moves the lock only where the bolt stands at the open end or the check passes. -/
theorem Cavity.hearUnknown_keeps (h : k.lock.state = .unknown) :
    let m := k.handOver e (releasing e) .unknown
    m.prb = k.prb ∧ m.cc.recovering = k.cc.recovering ∧
      (¬ k.lock.standsOpen → k.checkPasses e = false → m.lock = k.lock) := by
  have hreleased (m : Cavity) (ho : ¬ m.lock.standsOpen) (hc : m.checkPasses e = false) :
      m.releasedLock e = m.lock := if_neg (not_or.2 ⟨ho, by simp [hc]⟩)
  by_cases hl : k.cc.state = .locking
  · have hd : k.handOver e (releasing e) .unknown = k.failStart e .lockJam (releasing e) := by
      simp [Cavity.handOver, Cavity.answer, hl]
    dsimp only
    rw [hd]
    unfold Cavity.failStart releasing
    let m := (k.writeEnd (.startFailed .lockJam)).enterState e .unlocking
    have hsend := Cavity.sendRelease_halted e m (.inr h)
    rw [hsend]
    by_cases ho : k.lock.standsOpen
    · rw [if_pos (show m.lock.standsOpen from ho), if_pos (show m.cc.state = .unlocking from rfl),
        Cavity.decideEntry_endInIdle]
      exact ⟨Cavity.endInIdle_prb .., Cavity.endInIdle_recovering .., fun h => absurd ho h⟩
    · rw [if_neg (show ¬ m.lock.standsOpen from ho)]
      refine ⟨Cavity.decideEntry_prb _ _ (by decide : CavState.unlocking ≠ _)
        (by decide : CavState.unlocking ≠ _), Cavity.decideEntry_recovering .., fun _ hc => ?_⟩
      rw [hreleased m ho hc]
      exact Cavity.decideEntry_lock e m (by rw [show m.lock = k.lock from rfl, h]; rfl)
  by_cases hu : k.cc.state = .unlocking
  · have hd : k.handOver e (releasing e) .unknown = k.sendRelease e := by
      simp [Cavity.handOver, Cavity.answer, hu]
    dsimp only
    rw [hd, Cavity.sendRelease_halted e k (.inr h)]
    by_cases ho : k.lock.standsOpen
    · rw [if_pos ho, if_pos hu]
      exact ⟨Cavity.endInIdle_prb .., Cavity.endInIdle_recovering .., fun h => absurd ho h⟩
    · rw [if_neg ho]
      exact ⟨rfl, rfl, fun _ hc => hreleased k ho hc⟩
  · have hd : k.handOver e (releasing e) .unknown = k := by
      cases hs : k.cc.state <;> simp_all [Cavity.handOver, Cavity.answer]
    rw [hd]
    exact ⟨rfl, rfl, fun _ _ => rfl⟩

/-- Stages 4 to 6 do nothing to a cavity with no detector armed and no recovery to come, where no good sample
stands below the unlock level. -/
theorem Cavity.laterStages_still {cls : SampleClass} (b : Bool) (hmark : k.prb.mark = none)
    (hrec : k.cc.recovering = false)
    (hgood : cls.good = true → (e.cfg.limits.unlockLevel : Int) ≤ k.prb.cavity.reading) :
    (if cls.good then ((k.markStage e cls).recoverStage e b).goodSample e
      else (k.markStage e cls).recoverStage e b) = k := by
  have hstill : (k.markStage e cls).recoverStage e b = k := by
    simp [Cavity.markStage, hmark, Cavity.recoverStage, hrec]
  rw [hstill]
  split
  · next h => exact if_pos (hgood h)
  · rfl

/-- Stage 3 where the check no longer passes: the motor is stopped, and the controller hears it. -/
theorem Cavity.releaseLaw_stops {cls : SampleClass} (hm : k.lock.motor = .towardOpen)
    (hcls : (cls.onset ||
      (cls.good && decide ((e.cfg.limits.unlockLevel : Int) ≤ k.prb.cavity.reading))) = true) :
    k.releaseLaw e cls =
      ({ k with lock := k.lock.resting .unknown } : Cavity).handOver e (releasing e) .unknown := by
  have hk : k.releaseLaw e cls = k.afterLock e (releasing e) k.lock.stopOpenDrive := if_pos hcls
  have hl : k.lock.stopOpenDrive = (k.lock.resting .unknown, [.unknown]) := if_pos hm
  rw [hk, hl]
  rfl

/-- A cavity `m` as stages 1 and 2 leave it, its check no longer passing and its lock the one before or
stopped already: after the sample the lock stands in UNKNOWN, or the bolt was at the open end. -/
theorem Cavity.stages_stop {m : Cavity} {cls : SampleClass} (b : Bool) (hm : k.lock.motor = .towardOpen)
    (hlock : m.lock = k.lock ∨ (m.cc.state = .faulted ∧ m.lock = k.lock.resting .unknown))
    (hmark : m.prb.mark = none) (hrec : m.cc.recovering = false) (hcheck : m.checkPasses e = false)
    (hgood : cls.good = true → (e.cfg.limits.unlockLevel : Int) ≤ m.prb.cavity.reading)
    (hcls : (cls.onset ||
      (cls.good && decide ((e.cfg.limits.unlockLevel : Int) ≤ m.prb.cavity.reading))) = true) :
    let k5 := (m.releaseLaw e cls).markStage e cls
    let k' := if cls.good then (k5.recoverStage e b).goodSample e else k5.recoverStage e b
    (¬ k.lock.standsOpen → k'.lock = k.lock.resting .unknown) ∧
      (k' = ({ m with lock := k.lock.resting .unknown } : Cavity).handOver e (releasing e) .unknown) := by
  have hrule : m.releaseLaw e cls =
      ({ m with lock := k.lock.resting .unknown } : Cavity).handOver e (releasing e) .unknown := by
    obtain hl | ⟨hf, hl⟩ := hlock
    · rw [Cavity.releaseLaw_stops (by rw [hl]; exact hm) hcls, hl]
    · rw [Cavity.releaseLaw_of_not _ (by rw [hl]; exact nofun : m.lock.motor ≠ .towardOpen), ← hl]
      exact (Cavity.handOver_unknown_faulted hf).symm
  obtain ⟨hprb, hr, hl⟩ := Cavity.hearUnknown_keeps (e := e)
    (k := { m with lock := k.lock.resting .unknown }) rfl
  dsimp only
  rw [hrule, Cavity.laterStages_still b (by rw [hprb]; exact hmark) (hr.trans hrec) (by rw [hprb]; exact hgood)]
  exact ⟨fun ho => hl ho hcheck, rfl⟩

/-- A sample that makes the fault reported leaves the probe in fault, and is not good. -/
theorem Probe.after_of_reported {lo hi : Int} {p : Probe} (h : p.faultReported lo hi v = true) :
    (p.after lo hi v).fault = true ∧ p.goodSample lo hi v = false := by
  have hg : p.goodSample lo hi v = false := by
    by_contra hg
    obtain ⟨-, -, hn⟩ := Probe.after_of_good (Bool.not_eq_false _ ▸ hg)
    exact absurd h (by simp [hn])
  refine ⟨?_, hg⟩
  cases hf : p.fault with
  | true =>
    simp only [Probe.after, hf, if_true]
    by_cases hr : lo ≤ v ∧ v ≤ hi
    · rw [if_pos hr]
      by_cases h2 : 2 ≤ p.good
      · simp [Probe.goodSample, hf, hr, h2] at hg
      · rw [if_neg h2]
    · rw [if_neg hr]
  | false =>
    simp only [Probe.faultReported, hf, Bool.false_eq_true, if_false, Bool.and_eq_true, Bool.not_eq_true',
      decide_eq_true_eq, decide_eq_false_iff_not] at h
    simp [Probe.after, hf, h]

/-- The end of a probe fault, or none, moves neither the controller nor the probes nor the lock. -/
theorem Cavity.reportCavityFault_keeps {cls : SampleClass} (h : cls.onset = false) :
    (k.reportCavityFault e cls).cc = k.cc ∧ (k.reportCavityFault e cls).prb = k.prb ∧
      (k.reportCavityFault e cls).lock = k.lock := by
  unfold Cavity.reportCavityFault
  rw [if_neg (by simp [h])]
  split <;> exact ⟨rfl, rfl, rfl⟩

/-- The overtemperature check moves the probe's flag and the conditions, or trips. -/
theorem Cavity.checkOvertemp_keeps (e : Env) (k : Cavity) :
    (k.checkOvertemp e).prb.cavity = k.prb.cavity ∧ (k.checkOvertemp e).cc.recovering = k.cc.recovering ∧
      (k.prb.mark = none → (k.checkOvertemp e).prb.mark = none) ∧
      ((k.checkOvertemp e).lock = k.lock ∨
        ((k.checkOvertemp e).cc.state = .faulted ∧ (k.checkOvertemp e).lock = k.lock.takeStop.1)) := by
  unfold Cavity.checkOvertemp Cavity.levelReport
  dsimp only
  split
  · exact ⟨rfl, rfl, id, .inl rfl⟩
  split
  · obtain ⟨m, hm⟩ | ⟨m, hm⟩ := Cavity.onset_cases e
      ({ k with prb := { k.prb with overtemp := decide (_ < k.prb.cavity.reading) } } : Cavity) .overtemp
    · rw [hm]
      exact ⟨rfl, rfl, id, .inl rfl⟩
    · rw [hm]
      refine ⟨Cavity.trip_prb_cavity .., Cavity.trip_recovering .., fun hn => ?_,
        .inr ⟨Cavity.trip_state .., Cavity.trip_lock ..⟩⟩
      rw [Cavity.trip_prb]
      split
      · rfl
      · exact hn
  · exact ⟨rfl, rfl, id, .inl rfl⟩

theorem Lock.takeStop_cases (l : Lock) : l.takeStop.1 = l ∨ l.takeStop.1 = l.resting .unknown := by
  unfold Lock.takeStop
  split
  · exact .inr rfl
  · exact .inl rfl

/-- A probe fault that begins without a trip tells the monitor and the fan. -/
theorem Cavity.reportCavityFault_of_not_trips {cls : SampleClass} (hon : cls.onset = true)
    (hf : k.cc.state ≠ .faulted) (ht : tripsIn e.page k.cc.state .sensor = false) :
    k.reportCavityFault e cls = { k with
      fan := k.fan.viewing k.cc.state true
      cond := { k.cond with present := k.cond.present.add .sensor, seen := k.cond.seen.add .sensor } } := by
  let m : Cavity := { k with
    fan := { k.fan with probeView := true }
    cond := { k.cond with present := k.cond.present.add .sensor, seen := k.cond.seen.add .sensor } }
  have hk : k.reportCavityFault e cls = m.decideFan := by
    unfold Cavity.reportCavityFault
    rw [if_pos hon, Cavity.onset_of_not_trips hf ht]
  have hcond : m.decideFan.cond = m.cond := by
    refine Cavity.decideFan_cond m fun ho => ?_
    have hst := (Fan.wanted_off ho).1
    rw [hst] at ho
    exact absurd ho (by simp [m, Fan.wanted])
  have hself : m.decideFan = { m.decideFan with cond := m.decideFan.cond } := rfl
  rw [hk, hself, hcond, Fan.viewing_eq]
  rfl

/-- A sample at which the check of a motor toward open no longer passes. -/
theorem Cavity.cavitySample_openMotorStopped (hmark : k.prb.mark = none) (hrec : k.cc.recovering = false)
    (hf : k.cc.state ≠ .faulted) (hm : k.lock.motor = .towardOpen)
    (h : k.prb.cavity.faultReported (-400) 6000 v = true ∨
      (k.prb.cavity.goodSample (-400) 6000 v = true ∧ (e.cfg.limits.unlockLevel : Int) ≤ v)) :
    k.openMotorStopped e v (k.cavitySample e v) := by
  unfold Cavity.openMotorStopped
  rw [Cavity.cavitySample_eq]
  dsimp only
  cases hon : k.prb.cavity.faultReported (-400) 6000 v with
  | true =>
    obtain ⟨hfault, hg⟩ := Probe.after_of_reported hon
    have hgood : (k.prb.cavity.sampleClass v).good = false := hg
    have hon' : (k.prb.cavity.sampleClass v).onset = true := hon
    cases ht : tripsIn e.page k.cc.state .sensor with
    | true =>
      obtain ⟨htrip, hlock, hr, hp⟩ := Cavity.reportCavityFault_of_trips (e := e) (k := k.probed v) hon' ht
      have hmark' : ((k.probed v).reportCavityFault e (k.prb.cavity.sampleClass v)).prb.mark = none := by
        rw [hp]
        split
        · rfl
        · exact hmark
      have hcavity : ((k.probed v).reportCavityFault e (k.prb.cavity.sampleClass v)).prb.cavity =
          k.prb.cavity.after (-400) 6000 v := by
        rw [hp]; split <;> rfl
      obtain ⟨hrest, hk⟩ := Cavity.stages_stop (e := e) (k := k)
        (m := (k.probed v).reportCavityFault e (k.prb.cavity.sampleClass v))
        (cls := k.prb.cavity.sampleClass v) (decide ((k.prb.cavity.after (-400) 6000 v).taken = 3)) hm
        ((Lock.takeStop_cases k.lock).imp hlock.trans fun hl => ⟨htrip.1, hlock.trans hl⟩) hmark'
        (hr.trans hrec) (by simp [Cavity.checkPasses, hcavity, hfault]) (by simp [hgood]) (by simp [hon'])
      simp only [hgood, Bool.false_eq_true, if_false] at hrest hk ⊢
      refine ⟨hrest, ?_⟩
      rw [if_pos trivial, if_pos trivial, hk, Cavity.handOver_unknown_faulted
        (m := { (k.probed v).reportCavityFault e (k.prb.cavity.sampleClass v) with
          lock := k.lock.resting .unknown }) htrip.1]
      obtain ⟨-, -, -, -, -, -, -, -, hcmd⟩ := id htrip
      exact ⟨Cavity.trippedBy_of_same htrip rfl rfl (fun p => by cases p <;> rfl) rfl hcmd, rfl⟩
    | false =>
      have hrep := Cavity.reportCavityFault_of_not_trips (e := e) (k := k.probed v) hon' hf ht
      obtain ⟨hrest, hk⟩ := Cavity.stages_stop (e := e) (k := k)
        (m := (k.probed v).reportCavityFault e (k.prb.cavity.sampleClass v))
        (cls := k.prb.cavity.sampleClass v) (decide ((k.prb.cavity.after (-400) 6000 v).taken = 3)) hm
        (by rw [hrep]; exact .inl rfl) (by rw [hrep]; exact hmark) (by rw [hrep]; exact hrec)
        (by rw [hrep]; simp [Cavity.checkPasses, Cavity.probed, hfault]) (by simp [hgood]) (by simp [hon'])
      simp only [hgood, Bool.false_eq_true, if_false] at hrest hk ⊢
      refine ⟨hrest, ?_⟩
      rw [hk, hrep]
      exact Cavity.hears_unknown rfl
  | false =>
    obtain ⟨hg, hv⟩ := h.resolve_left (by simp [hon])
    obtain ⟨hread, -, -⟩ := Probe.after_of_good hg
    have hgood : (k.prb.cavity.sampleClass v).good = true := hg
    have hon' : (k.prb.cavity.sampleClass v).onset = false := hon
    obtain ⟨hcc, hprb, hlk⟩ := Cavity.reportCavityFault_keeps (e := e) (k := k.probed v) hon'
    generalize hm2 : (k.probed v).reportCavityFault e (k.prb.cavity.sampleClass v) = m2 at hcc hprb hlk
    obtain ⟨hcavity, hr, hmk, hl⟩ := Cavity.checkOvertemp_keeps e m2
    have hread' : (m2.checkOvertemp e).prb.cavity.reading = v := by rw [hcavity, hprb]; exact hread
    obtain ⟨hrest, hk⟩ := Cavity.stages_stop (e := e) (k := k) (m := m2.checkOvertemp e)
      (cls := k.prb.cavity.sampleClass v) (decide ((k.prb.cavity.after (-400) 6000 v).taken = 3)) hm
      (by
        rw [hlk] at hl
        obtain hl | ⟨hfl, hl⟩ := hl
        · exact .inl hl
        · exact (Lock.takeStop_cases k.lock).imp hl.trans fun h => ⟨hfl, hl.trans h⟩)
      (hmk (by rw [hprb]; exact hmark)) (by rw [hr, hcc]; exact hrec)
      (by simp [Cavity.checkPasses, hread', hv]) (fun _ => by rw [hread']; exact hv)
      (by simp [hgood, hread', hv])
    simp only [hgood, if_true] at hrest hk ⊢
    refine ⟨hrest, ?_⟩
    rw [if_neg (by simp)]
    intro hover
    rw [hk, ← hm2, Cavity.heard_eq hg hover]
    exact Cavity.hears_unknown rfl

/-- Settles O46: a good sample in COOLDOWN, UNLOCKING and IDLE, and a sample that stops a motor. -/
theorem goodSamplesReleaseTheLock : Obligations.GoodSamplesReleaseTheLock := by
  intro s c v hmark
  refine ⟨fun ⟨hf, hg, hv, hrec, hmotor⟩ hst => ?_, fun hf hrec hnf hm h => ?_⟩
  · refine State.cavitySample_taken v hf ?_
    obtain ⟨hread, hfault, -⟩ := Probe.after_of_good hg
    have hstage : ((s.cav c).heard v).markStage (s.env c) ((s.cav c).prb.cavity.sampleClass v) =
        (s.cav c).heard v := by
      simp [Cavity.markStage, Cavity.heard, hmark]
    rw [Cavity.cavitySample_quiet hg hv hmotor (by rw [hstage]; exact hrec), hstage]
    exact Cavity.goodSample_taken hread hfault hst
  · exact State.cavitySample_taken v hf (Cavity.cavitySample_openMotorStopped hmark hrec hnf hm h)

end Stopped

end Sys2Proof.Machine

namespace Sys2Proof.Machine

/-! ## Recovery in the third sample (R29, R65, R131) -/

section Recovery
variable {e : Env} {v : Int} {k : Cavity}

/-- Where no condition that trips there is present, RELEASE sent on the way to UNLOCKING leaves its lock record,
and ends the cycle in IDLE where the bolt stands at the open end. -/
theorem Cavity.recover_passing {m : Cavity} (hh : m.lock.halted) (hc : m.checkPasses e = true)
    (hi : causesIn e.page .idle m.cond.present = []) (hu : causesIn e.page .unlocking m.cond.present = []) :
    let k' := (((m.writeEnd .recovered).enterState e .unlocking).sendRelease e).decideEntry e
    k'.cc.recovering = m.cc.recovering ∧ k'.cc.lastEnd = .recovered ∧ k'.lock = m.lock.released e ∧
      k'.cc.state = (if m.lock.standsOpen then .idle else .unlocking) := by
  have hun := Cavity.unlock_passing (e := e) (k := m) .recovered hh hc
  dsimp only at hun ⊢
  have hrec : ((((m.writeEnd .recovered).enterState e .unlocking).sendRelease e).decideEntry e).cc.recovering =
      m.cc.recovering := by
    rw [Cavity.decideEntry_recovering,
      Cavity.sendRelease_passing (k := (m.writeEnd .recovered).enterState e .unlocking) hh hc]
    split
    · exact Cavity.endInIdle_recovering ..
    · rfl
  refine ⟨hrec, ?_⟩
  by_cases ho : m.lock.standsOpen
  · rw [if_pos ho] at hun ⊢
    obtain ⟨hend, hl⟩ := hun
    simp only [Cavity.endsIdle, Cavity.entersUnless, if_pos hi] at hend
    exact ⟨hend.2.1, hl.trans (if_pos ho).symm, hend.1⟩
  · rw [if_neg ho] at hun ⊢
    simp only [Cavity.intoUnlocking, Cavity.entersUnless, if_pos hu] at hun
    obtain ⟨hcc, -, hl, -⟩ := hun
    exact ⟨by rw [hcc]; rfl, hl, by rw [hcc]; rfl⟩

/-- A good sample brings nothing to a cavity whose lock is not at rest in LOCKED or UNKNOWN, but in COOLDOWN. -/
theorem Cavity.goodSample_of_not_halted (hh : ¬ k.lock.halted) (hs : k.cc.state ≠ .cooldown) :
    k.goodSample e = k := by
  obtain ⟨h1, h2⟩ := not_or.1 hh
  unfold Cavity.goodSample
  cases hst : k.cc.state <;> simp_all

/-- The recovery of a cavity that stands IDLE, its probe as the sample leaves it. -/
theorem Cavity.recover_idle {m : Cavity} (hs : m.cc.state = .idle)
    (hlock : m.lock.state = .opened ∨ m.lock.halted)
    (hi : causesIn e.page .idle m.cond.present = []) (hu : causesIn e.page .unlocking m.cond.present = [])
    (hc : causesIn e.page .cooldown m.cond.present = []) :
    let k' := m.recover e
    k'.cc.recovering = false ∧
      if m.lock.state = .opened then k'.cc = { m.cc with recovering := false } ∧ k'.lock = m.lock ∧
        k'.fan.idleLow = decide ((e.page.fanOff : Int) ≤ m.prb.cavity.reading)
      else if m.checkPasses e = true then k'.cc.lastEnd = .recovered ∧ k'.lock = m.lock.released e ∧
        k'.cc.state = (if m.lock.standsOpen then .idle else .unlocking)
      else k'.cc.lastEnd = .recovered ∧ k'.lock = m.lock ∧ k'.cc.state = .cooldown ∧
        k'.fan.command = .high ∧ k'.prb.cavity = m.prb.cavity := by
  let m0 : Cavity := { m with cc := { m.cc with recovering := false } }
  have hk : m.recover e = if m0.lock.state = .opened then m0.recoverIdle e
      else if m0.checkPasses e then
        (((m0.writeEnd .recovered).enterState e .unlocking).sendRelease e).decideEntry e
      else m0.enterCooldown e .recovered := by
    unfold Cavity.recover
    rw [if_neg (show ¬ _ = _ by simp [hs])]
    rfl
  dsimp only
  rw [hk]
  by_cases ho : m.lock.state = .opened
  · rw [if_pos (show m0.lock.state = .opened from ho), if_pos ho]
    exact ⟨rfl, rfl, rfl, (Fan.take_keeps _ _).2.1⟩
  rw [if_neg (show ¬ m0.lock.state = .opened from ho), if_neg ho]
  cases hcheck : m.checkPasses e with
  | true =>
    rw [if_pos (show m0.checkPasses e = true from hcheck), if_pos rfl]
    exact Cavity.recover_passing (m := m0) (hlock.resolve_left ho) hcheck hi hu
  | false =>
    rw [if_neg (show ¬ m0.checkPasses e = true from by rw [show m0.checkPasses e = false from hcheck]; simp),
      if_neg (by simp)]
    have hcool := Cavity.enterCooldown_intoCooldown e m0 .recovered
    simp only [Cavity.intoCooldown, Cavity.entersUnless, if_pos (show causesIn e.page .cooldown
      m0.cond.present = [] from hc)] at hcool
    obtain ⟨hcc, hprb, hl, ⟨-, -, -, -, -, -, hfan, -⟩, -⟩ := hcool
    exact ⟨by rw [hcc], by rw [hcc], hl, by rw [hcc], hfan, by rw [hprb]⟩

theorem Probe.after_taken (lo hi v : Int) (p : Probe) : (p.after lo hi v).taken = min 3 (p.taken + 1) := by
  unfold Probe.after
  split_ifs <;> rfl

/-- Nothing is a cause where nothing is present. -/
theorem causesIn_of_none (p : CavityPage) (st : CavState) {m : CondSet} (h : ∀ c, m.has c = false) :
    causesIn p st m = [] := by
  simp [causesIn, h]

/-- The third sample of a cavity that stands IDLE with its recovery to come. -/
theorem Cavity.cavitySample_recovers (hrec : k.cc.recovering = true) (htaken : k.prb.cavity.taken = 2)
    (hfault : k.prb.cavity.fault = true) (hs : k.cc.state = .idle) (hpresent : k.cond.present = 0)
    (hmark : k.prb.mark = none) (hm : k.lock.motor ≠ .towardOpen)
    (hlock : k.lock.state = .opened ∨ k.lock.halted)
    (hv : v ≤ (e.cfg.limits.cleanCeiling : Int) + e.cfg.limits.overtempMargin) :
    k.recovers e v (k.cavitySample e v) := by
  have hthird : (k.prb.cavity.after (-400) 6000 v).taken = 3 := by
    rw [Probe.after_taken, htaken]; rfl
  have hstage (m : Cavity) (hml : m.lock = k.lock) (hmm : m.prb.mark = none) (hmr : m.cc.recovering = true) :
      ((m.releaseLaw e (k.prb.cavity.sampleClass v)).markStage e (k.prb.cavity.sampleClass v)).recoverStage e
        (decide ((k.prb.cavity.after (-400) 6000 v).taken = 3)) = m.recover e := by
    rw [Cavity.releaseLaw_of_not _ (by rw [hml]; exact hm)]
    simp [Cavity.markStage, hmm, Cavity.recoverStage, hmr, hthird]
  rw [Cavity.cavitySample_eq]
  unfold Cavity.recovers
  dsimp only
  cases hg : k.prb.cavity.goodSample (-400) 6000 v with
  | true =>
    have hgood : (k.prb.cavity.sampleClass v).good = true := hg
    obtain ⟨hread, hsound, -⟩ := Probe.after_of_good hg
    have hnone : ∀ c, (k.heard v).cond.present.has c = false := by
      intro c
      simp only [Cavity.heard, hpresent]
      split_ifs <;> simp
    simp only [hgood, if_true]
    rw [Cavity.heard_eq hg hv, hstage (k.heard v) rfl hmark hrec]
    obtain ⟨hr, h⟩ := Cavity.recover_idle (e := e) (m := k.heard v) hs hlock
      (causesIn_of_none _ _ hnone) (causesIn_of_none _ _ hnone) (causesIn_of_none _ _ hnone)
    have hcheck : (k.heard v).checkPasses e = decide (v < e.cfg.limits.unlockLevel) := by
      simp [Cavity.checkPasses, Cavity.heard, hread, hsound]
    have hlk : (k.heard v).lock = k.lock := rfl
    rw [hcheck, hlk] at h
    by_cases ho : k.lock.state = .opened
    · rw [if_pos ho] at h ⊢
      obtain ⟨hcc, hl, hlow⟩ := h
      rw [Cavity.goodSample_of_not_halted (by rw [hl]; simp [ho]) (by rw [hcc]; exact hs ▸ nofun)]
      exact ⟨hr, hcc, hl, hlow⟩
    rw [if_neg ho] at h ⊢
    by_cases hb : v < e.cfg.limits.unlockLevel
    · rw [if_pos (by simpa using hb)] at h
      rw [if_pos ⟨trivial, hb⟩]
      obtain ⟨hend, hl, hst⟩ := h
      rw [Cavity.goodSample_of_not_halted]
      · exact ⟨hr, hend, hl, hst⟩
      · rw [hl]; unfold Lock.released; split <;> simp [Lock.resting, Lock.underway]
      · rw [hst]; split <;> simp
    · rw [if_neg (by simpa using hb)] at h
      rw [if_neg fun h => hb h.2]
      obtain ⟨hend, hl, hst, hfan, hprb⟩ := h
      have hid : ((k.heard v).recover e).goodSample e = (k.heard v).recover e := by
        refine if_pos ?_
        rw [hprb, show (k.heard v).prb.cavity.reading = v from hread]
        exact not_lt.1 hb
      rw [hid]
      exact ⟨hr, hend, hl, hst, hfan⟩
  | false =>
    have hgood : (k.prb.cavity.sampleClass v).good = false := hg
    have hon : k.prb.cavity.faultReported (-400) 6000 v = true := by
      simp [Probe.faultReported, hfault, htaken, hg]
    have hon' : (k.prb.cavity.sampleClass v).onset = true := hon
    have hrep := Cavity.reportCavityFault_of_not_trips (e := e) (k := k.probed v) hon'
      (by rw [show (k.probed v).cc.state = .idle from hs]; decide)
      (by rw [show (k.probed v).cc.state = .idle from hs]; rfl)
    have hsensor (st : CavState) (hst : tripsIn e.page st .sensor = false) :
        causesIn e.page st ((k.cond.present.add .sensor)) = [] := by
      rw [causesIn_eq_nil_iff]
      intro c hc
      obtain rfl : c = .sensor := by simpa [hpresent] using hc
      exact hst
    simp only [hgood, Bool.false_eq_true, if_false]
    rw [hstage _ (by rw [hrep]; rfl) (by rw [hrep]; exact hmark) (by rw [hrep]; exact hrec), hrep]
    obtain ⟨hr, h⟩ := Cavity.recover_idle (e := e) (m := { k.probed v with
        fan := k.fan.viewing k.cc.state true
        cond := { k.cond with present := k.cond.present.add .sensor, seen := k.cond.seen.add .sensor } }) hs hlock
      (hsensor _ rfl) (hsensor _ rfl) (hsensor _ rfl)
    have hsound := (Probe.after_of_reported hon).1
    have hcheck : ({ k.probed v with
        fan := k.fan.viewing k.cc.state true
        cond := { k.cond with present := k.cond.present.add .sensor, seen := k.cond.seen.add .sensor } }
          : Cavity).checkPasses e = false := by
      simp [Cavity.checkPasses, Cavity.probed, hsound]
    rw [hcheck] at h
    refine ⟨hr, ?_⟩
    by_cases ho : k.lock.state = .opened
    · rw [if_pos (show (k.probed v).lock.state = .opened from ho)] at h
      rw [if_pos ho]
      exact h
    · rw [if_neg (show ¬ (k.probed v).lock.state = .opened from ho), if_neg (by simp)] at h
      rw [if_neg ho, if_neg (by simp)]
      obtain ⟨hend, hl, hst, hfan, -⟩ := h
      exact ⟨hend, hl, hst, hfan⟩

/-- Settles O47. -/
theorem thirdSampleRecoversTheCavity : Obligations.ThirdSampleRecoversTheCavity := by
  intro s c v hf hrec htaken hfault hs hpresent hmark hm hlock hv
  exact State.cavitySample_taken v hf
    (Cavity.cavitySample_recovers hrec htaken hfault hs hpresent hmark hm hlock hv)

end Recovery

end Sys2Proof.Machine

namespace Sys2Proof.Machine

open Relation

/-! ## The kinds of change that a step is made of

Every command but a few changes one cavity at a time by one of the operations below, or nothing that the laws of
the cavities speak of. The laws are then shown of each kind of change once. -/

/-- The orders of R5 to R13, R143, R146 and R156 as a fitted cavity takes them. -/
inductive Cavity.Order (e : Env) (k : Cavity) : Cavity → Prop
  | start (i : Nat) : Order e k (k.cleanStart e i).1
  | hold : Order e k (k.cleanHold e).1
  | resume : Order e k (k.cleanResume e).1
  | abandon : Order e k (k.cleanAbandon e).1
  | cook (v : Int) (elems : Byte) : Order e k (k.cookSet e v elems).1
  | cookOff : Order e k (k.cookOff e).1
  | events (m : Byte) : Order e k (k.eventsAck m).1
  | conditions (m : Word16) : Order e k (k.conditionsAck m).1
  | clear : Order e k (k.faultClear e).1

/-- The events that a fitted cavity takes. -/
inductive Cavity.Event (e : Env) (k : Cavity) : Cavity → Prop
  | cavitySample (v : Int) : Event e k (k.cavitySample e v)
  | doorSample (v : Int) : Event e k (k.doorSample e v)
  | lockSwitch (sw : EndSwitch) (active : Bool) : Event e k (k.switchChange sw active e)
  | doorSwitch (closed : Bool) : Event e k (k.doorChange closed e)
  | timeout : Event e k (k.travelTimeout e)
  | review : Event e k (k.levelReview e)
  | pulse : Event e k (k.tachPulse e)
  | expiry : Event e k (k.tachExpiry e)
  | work : Event e k (k.windowWork e)

/-- What every cavity takes alike, fitted or not. -/
inductive Cavity.Common (e : Env) (k : Cavity) : Cavity → Prop
  | clearEvents : Common e k k.clearEvents
  | clampClean : Common e k (k.clampClean e)
  | clampCook : Common e k (k.clampCook e)
  | enables (old : CavityPage) : Common e k (k.enablesWritten old e)
  | starve : Common e k (k.moveStarve e)
  | mainsBack : Common e k (k.mainsBack e)
  | pass : Common e k k.passTime
  | shed (p : Position) : Common e k (k.setChannel p ((k.channel p).shedFrom e.slot))

/-- What the laws of the cavities read besides the cavities. -/
structure State.SameFrame (s t : State) : Prop where
  segs : t.segs = s.segs
  slot : t.sched.slot = s.sched.slot
  fitted : t.cfg.part.fittedCount = s.cfg.part.fittedCount
  unlock : t.cfg.limits.unlockLevel = s.cfg.limits.unlockLevel
  closed : t.link.rx = .closed ↔ s.link.rx = .closed

/-- The channels of a cavity right after a window start has placed them: no relay closed, and placements only
where there is demand. -/
def Cavity.NewlyPlaced (e : Env) (k k' : Cavity) : Prop :=
  k' = { k with cat := k'.cat, top := k'.top, base := k'.base, ring := k'.ring } ∧
    ∀ p, (k'.channel p).relay = false ∧ ((k'.channel p).placements ≠ [] → k.channelDemand e p ≠ 0)

/-- The kinds of change that a step is made of. -/
inductive State.Shift : State → State → Prop
  /-- Nothing that the laws of the cavities speak of. -/
  | aside {s t : State} (hf : s.SameFrame t) (hc : ∀ c, t.cav c = s.cav c) : Shift s t
  /-- The link opens (R149). -/
  | opens {s : State} (h : s.linkReady = true) (l : Link) (hl : l.rx ≠ .closed) : Shift s { s with link := l }
  | order {s : State} (c : CavNo) {k : Cavity} (hf : s.fitted c = true) (ho : s.link.rx ≠ .closed)
      (h : (s.cav c).Order (s.env c) k) : Shift s (s.setCav c k)
  | event {s : State} (c : CavNo) {k : Cavity} (hf : s.fitted c = true)
      (h : (s.cav c).Event (s.env c) k) : Shift s (s.setCav c k)
  | common {s : State} (c : CavNo) {k : Cavity} (h : (s.cav c).Common (s.env c) k) : Shift s (s.setCav c k)
  /-- The lock of an unfitted cavity follows its switches (R123). -/
  | follows {s : State} (c : CavNo) (hf : s.fitted c = false) (sw : EndSwitch) (active : Bool) :
      Shift s (s.setCav c ((s.cav c).followSwitch sw active))
  | followsDoor {s : State} (c : CavNo) (hf : s.fitted c = false) (closed : Bool) :
      Shift s (s.setCav c ((s.cav c).followDoor closed))
  /-- A value stored at the unlock level (R106, R166). -/
  | unlock {s : State} (v : Nat) : Shift s (s.storeSetting .unlockLevel v)
  /-- A value stored at the fitted count, every cavity being IDLE (R166). -/
  | fits {s : State} (v : Nat) (h : ∀ c, (s.cav c).cc.state = .idle) : Shift s (s.storeFitted v)
  /-- A value stored in a segment record while no cavity runs a program (R33). -/
  | segment {s : State} (g : SegStore) (h : ∀ c, (s.cav c).cc.state.runsProgram = false) :
      Shift s { s with segs := g }
  /-- The schedule of a new window (R76). -/
  | window {s t : State} (segs : t.segs = s.segs) (slot : t.sched.slot = some 0) (cfg : t.cfg = s.cfg)
      (link : t.link = s.link) (h : ∀ c, (s.cav c).NewlyPlaced (s.env c) (t.cav c)) : Shift s t
  /-- A slot begins (R77). -/
  | slot {s : State} {i j : Nat} (hs : s.sched.slot = some i) (hij : i ≤ j) : Shift s (s.beginSlot j)
  /-- The relays released and the window given up at a dropout (R87, R121). -/
  | dropout {s t : State} (segs : t.segs = s.segs) (slot : t.sched.slot = none) (cfg : t.cfg = s.cfg)
      (link : t.link.rx = s.link.rx) (h : ∀ c, t.cav c =
        { (s.cav c).abandonWindow (s.env c) with lock := (s.cav c).lock.mainsGone }) : Shift s t
  | starts {s : State} (inp : StartInputs) : Shift s (s.startUp inp)

/-- The state `t` comes from `s` by such changes. -/
def State.Shifts : State → State → Prop := ReflTransGen State.Shift

/-! ## What a step is made of -/

section Shifts
variable {s t u : State}

theorem State.Shifts.refl (s : State) : State.Shifts s s := ReflTransGen.refl

theorem State.Shifts.trans (h : State.Shifts s t) (h' : State.Shifts t u) : State.Shifts s u :=
  ReflTransGen.trans h h'

theorem State.Shifts.one (h : State.Shift s t) : State.Shifts s t := ReflTransGen.single h

theorem State.Shifts.aside (hf : s.SameFrame t) (hc : ∀ c, t.cav c = s.cav c) : State.Shifts s t :=
  .one (.aside hf hc)

theorem State.cav_cases {P : CavNo → Prop} (h0 : P 0) (h1 : P 1) (h2 : P 2) (c : CavNo) : P c := by
  revert c; rintro ⟨_ | _ | _ | n, h⟩ <;> first | assumption | omega

/-- A change of what stands beside the cavities, in a record update that leaves them. -/
theorem State.Shifts.beside (segs : t.segs = s.segs) (slot : t.sched.slot = s.sched.slot) (cfg : t.cfg = s.cfg)
    (closed : t.link.rx = .closed ↔ s.link.rx = .closed) (h0 : t.c0 = s.c0) (h1 : t.c1 = s.c1)
    (h2 : t.c2 = s.c2) : State.Shifts s t :=
  .aside ⟨segs, slot, by rw [cfg], by rw [cfg], closed⟩ (State.cav_cases h0 h1 h2)

theorem State.Shifts.attn : State.Shifts s s.decideAttn := .beside rfl rfl rfl Iff.rfl rfl rfl rfl

theorem State.Shifts.partEvent (v : PartEvent) : State.Shifts s (s.setPartEvent v) :=
  .beside rfl rfl rfl Iff.rfl rfl rfl rfl

/-- A common change of one cavity. -/
theorem State.Shifts.onCav (c : CavNo) {f : Env → Cavity → Cavity} (h : ∀ e k, Cavity.Common e k (f e k)) :
    State.Shifts s (s.onCav c f) := .one (.common c (h _ _))

theorem State.Shifts.onCavs {f : Env → Cavity → Cavity} (h : ∀ e k, Cavity.Common e k (f e k)) :
    State.Shifts s (s.onCavs f) :=
  ((State.Shifts.onCav 0 h).trans (State.Shifts.onCav 1 h)).trans (State.Shifts.onCav 2 h)

/-- An event at one cavity, where it is fitted. -/
theorem State.Shifts.ifFitted (c : CavNo) {f : Env → Cavity → Cavity} (h : ∀ e k, Cavity.Event e k (f e k)) :
    State.Shifts s (s.ifFitted c f) := by
  unfold State.ifFitted
  split
  next hf => exact .one (.event c hf (h _ _))
  next => exact .refl _

theorem State.Shifts.onFitted {f : Env → Cavity → Cavity} (h : ∀ e k, Cavity.Event e k (f e k)) :
    State.Shifts s (s.onFitted f) :=
  ((State.Shifts.ifFitted 0 h).trans (State.Shifts.ifFitted 1 h)).trans (State.Shifts.ifFitted 2 h)

/-- The link stays open over the changes of an order. -/
theorem State.Shifts.perCavityOrder (size : Nat) {order : List Byte → Env → Cavity → Cavity × Result}
    (ho : s.link.rx ≠ .closed) (h : ∀ g e k, Cavity.Order e k (order g e k).1) (r : Request) :
    State.Shifts s (perCavityOrder size order r s).1 := by
  unfold Machine.perCavityOrder
  suffices hgs : ∀ (gs : List (CavNo × List Byte)) (acc : State × List Byte), acc.1.link.rx ≠ .closed →
      State.Shifts acc.1 (gs.foldl (fun acc g => if acc.1.fitted g.1 then
        let (k, result) := order g.2 (acc.1.env g.1) (acc.1.cav g.1)
        (acc.1.setCav g.1 k, acc.2 ++ [result.code])
        else (acc.1, acc.2 ++ [Result.notFitted.code])) acc).1 from hgs _ (s, []) ho
  intro gs
  induction gs with
  | nil => exact fun _ _ => .refl _
  | cons g gs ih =>
    intro acc hacc
    rw [List.foldl_cons]
    split
    next hf =>
      refine State.Shifts.trans ?_ (ih _ ?_)
      · exact .one (.order g.1 hf hacc (h _ _ _))
      · simpa using hacc
    next => exact ih (acc.1, acc.2 ++ [Result.notFitted.code]) hacc

/-- A lowered budget sheds channels. -/
theorem State.Shifts.lowerBudget (v : Nat) : State.Shifts s (s.lowerBudget v) := by
  have hstep (u : State) (n : Nat) : State.Shifts u (u.walkStep n) := by
    unfold State.walkStep
    split
    · exact .refl _
    split
    · exact .one (.common (channelCav n) (.shed (channelPos n)))
    · exact .refl _
  have hwalk (ns : List Nat) : ∀ u : State, State.Shifts u (ns.foldl State.walkStep u) := by
    induction ns with
    | nil => exact fun _ => .refl _
    | cons n ns ih => exact fun u => (hstep u n).trans (ih _)
  unfold State.lowerBudget
  split
  · refine State.Shifts.trans (t := { s with sched := { s.sched with budget := v } }) ?_ (hwalk _ _)
    exact .beside rfl rfl rfl Iff.rfl rfl rfl rfl
  · exact .refl _

@[simp] theorem Settings.setPage_part (f : Settings) (c : CavNo) (p : CavityPage) :
    (f.setPage c p).part = f.part := by
  revert c; exact fun c => State.cav_cases (P := fun c => (f.setPage c p).part = f.part) rfl rfl rfl c
@[simp] theorem Settings.setPage_limits (f : Settings) (c : CavNo) (p : CavityPage) :
    (f.setPage c p).limits = f.limits := by
  revert c; exact fun c => State.cav_cases (P := fun c => (f.setPage c p).limits = f.limits) rfl rfl rfl c
@[simp] theorem Settings.setRatings_part (f : Settings) (c : CavNo) (r : Ratings) :
    (f.setRatings c r).part = f.part := by
  revert c; exact fun c => State.cav_cases (P := fun c => (f.setRatings c r).part = f.part) rfl rfl rfl c
@[simp] theorem Settings.setRatings_limits (f : Settings) (c : CavNo) (r : Ratings) :
    (f.setRatings c r).limits = f.limits := by
  revert c; exact fun c => State.cav_cases (P := fun c => (f.setRatings c r).limits = f.limits) rfl rfl rfl c

/-- A stored value changes neither the fitted count nor the unlock level, but at their own settings. -/
theorem Settings.set_keeps (f : Settings) {id : SettingId} (v : Nat) (hf : id ≠ .fittedCount)
    (hu : id ≠ .unlockLevel) : (f.set id v).part.fittedCount = f.part.fittedCount ∧
      (f.set id v).limits.unlockLevel = f.limits.unlockLevel := by
  cases id <;> simp_all [Settings.set]

/-- A value stored on pages 0 to 5, the fitted count but with every cavity IDLE. -/
theorem State.Shifts.storeSetting (id : SettingId) (v : Nat)
    (h : id = .fittedCount → ∀ c, (s.cav c).cc.state = .idle) : State.Shifts s (s.storeSetting id v) := by
  by_cases hf : id = .fittedCount
  · subst hf
    exact .one (.fits v (h rfl))
  by_cases hu : id = .unlockLevel
  · subst hu
    exact .one (.unlock v)
  obtain ⟨hfit, hun⟩ := s.cfg.set_keeps v hf hu
  have stored : State.Shifts s { s with cfg := s.cfg.set id v } :=
    .aside ⟨rfl, rfl, hfit, hun, Iff.rfl⟩ (State.cav_cases rfl rfl rfl)
  refine stored.trans ?_
  unfold State.storeSetting
  cases id <;> dsimp only
  case fittedCount => exact absurd rfl hf
  case unlockLevel => exact absurd rfl hu
  case budgetCeiling =>
    split
    · refine State.Shifts.trans ?_ (State.Shifts.lowerBudget _)
      exact .beside rfl rfl rfl Iff.rfl rfl rfl rfl
    · exact .refl _
  case cleanCeiling =>
    split
    · exact .onCavs fun e k => .clampClean
    · exact .refl _
  case cookCeiling =>
    split
    · exact .onCavs fun e k => .clampCook
    · exact .refl _
  case tripEnables c => exact .onCav c fun e k => .enables _
  all_goals exact .refl _

/-- The values of a SETTING WRITE. -/
theorem State.Shifts.writeValue (page idx : Nat) (w : Word16) : State.Shifts s (s.writeValue page idx w).1 := by
  unfold State.writeValue
  split
  · unfold writeSegValue
    split
    · exact .refl _
    split
    · exact .refl _
    split
    · exact .refl _
    split
    next hbusy _ =>
      refine .one (.segment _ ?_)
      have hb : s.anyCav (fun k => k.cc.state.runsProgram) = false := by simpa using hbusy
      simp only [State.anyCav, Bool.or_eq_false_iff] at hb
      exact State.cav_cases hb.1.1 hb.1.2 hb.2
    next => exact .refl _
  split
  · exact .refl _
  next id _ =>
    unfold State.writeSetting
    split
    · exact .refl _
    next hidle =>
      split
      · exact .refl _
      · refine .storeSetting id _ fun hid => ?_
        have hall : s.allCav (fun k => k.cc.state = .idle) = true := by simpa [hid] using hidle
        simp only [State.allCav, Bool.and_eq_true, decide_eq_true_eq] at hall
        exact State.cav_cases hall.1.1 hall.1.2 hall.2

theorem State.Shifts.writeRun (page : Nat) (ws : List Word16) :
    ∀ (s : State) (idx : Nat) (worst : Result) (n : Nat),
      State.Shifts s (State.writeRun page s idx ws worst n).1 := by
  induction ws with
  | nil => exact fun _ _ _ _ => .refl _
  | cons w ws ih =>
    intro s idx worst n
    unfold State.writeRun
    dsimp only
    split
    · exact .writeValue page idx w
    · exact State.Shifts.trans (State.Shifts.writeValue page idx w) (ih _ _ _ _)

/-! ### The window -/

/-- The state `u` stands between the clearing of the last window and the end of placement: only the channels
differ from `s`, no relay is closed, and what is placed has demand. -/
structure State.Scheduling (s u : State) : Prop where
  segs : u.segs = s.segs
  slot : u.sched.slot = some 0
  cfg : u.cfg = s.cfg
  link : u.link = s.link
  same : ∀ c, u.cav c = { s.cav c with cat := (u.cav c).cat, top := (u.cav c).top, base := (u.cav c).base,
                                       ring := (u.cav c).ring }
  channels : ∀ c p, ((u.cav c).channel p).relay = false ∧
    ((u.cav c).channel p).demand = (s.cav c).channelDemand (s.env c) p ∧
    (((u.cav c).channel p).placements ≠ [] → ((u.cav c).channel p).demand ≠ 0)

/-- The last window cleared, before anything is placed. -/
theorem State.newWindow_scheduling (s : State) : s.Scheduling s.takeVoltage.newWindow.rank where
  segs := rfl
  slot := rfl
  cfg := rfl
  link := rfl
  same := State.cav_cases rfl rfl rfl
  channels := State.cav_cases (fun p => by cases p <;> exact ⟨rfl, rfl, fun h => absurd rfl h⟩)
    (fun p => by cases p <;> exact ⟨rfl, rfl, fun h => absurd rfl h⟩)
    (fun p => by cases p <;> exact ⟨rfl, rfl, fun h => absurd rfl h⟩)

/-- One channel placed. -/
theorem State.Scheduling.placeChannel (h : s.Scheduling u) (n : Nat) : s.Scheduling (u.placeChannel n) := by
  obtain ⟨hsegs, hslot, hcfg, hlink, hsame, hch⟩ := h
  have hcav (c : CavNo) : (u.placeChannel n).cav c =
      if c = channelCav n then (u.cav c).setChannel (channelPos n) { u.chan n with
        placements := placedSlots u.slotLoad u.sched.budget n (u.chan n).demand (u.chan n).power
        granted := (placedSlots u.slotLoad u.sched.budget n (u.chan n).demand (u.chan n).power).length }
      else u.cav c := by
    unfold State.placeChannel State.setChan
    split
    next hc => subst hc; exact State.cav_setCav_same ..
    next hc => exact State.cav_setCav_other _ _ _ hc
  refine ⟨by simpa [State.placeChannel, State.setChan] using hsegs,
    by simpa [State.placeChannel, State.setChan] using hslot,
    by simpa [State.placeChannel, State.setChan] using hcfg,
    by simpa [State.placeChannel, State.setChan] using hlink, fun c => ?_, fun c p => ?_⟩
  · rw [hcav]
    split
    · have := hsame c
      generalize u.cav c = k at this ⊢
      rw [this]
      cases channelPos n <;> rfl
    · exact hsame c
  · rw [hcav]
    split
    next hc =>
      by_cases hp : p = channelPos n
      · subst hp hc
        obtain ⟨hr, hd, -⟩ := hch (channelCav n) (channelPos n)
        rw [Cavity.channel_setChannel_same]
        refine ⟨hr, hd, fun hne h0 => hne ?_⟩
        have h0 : (u.chan n).demand = 0 := h0
        simp [placedSlots, h0]
      · rw [Cavity.channel_setChannel_other _ _ hp]
        exact hch c p
    next => exact hch c p

/-- Every ranked channel placed. -/
theorem State.placeAll_scheduling (s : State) : s.Scheduling s.takeVoltage.newWindow.rank.placeAll := by
  have hall (ns : List Nat) : ∀ u, s.Scheduling u → s.Scheduling (ns.foldl State.placeChannel u) := by
    induction ns with
    | nil => exact fun _ h => h
    | cons n ns ih => exact fun u h => ih _ (h.placeChannel n)
  unfold State.placeAll
  split
  · exact s.newWindow_scheduling
  · exact hall _ _ s.newWindow_scheduling

/-- The schedule of a new window. -/
theorem State.Shifts.newSchedule : State.Shifts s s.takeVoltage.newWindow.rank.placeAll := by
  obtain ⟨hsegs, hslot, hcfg, hlink, hsame, hch⟩ := s.placeAll_scheduling
  refine .one (.window hsegs hslot hcfg hlink fun c => ⟨hsame c, fun p => ?_⟩)
  obtain ⟨hr, hd, hp⟩ := hch c p
  exact ⟨hr, hd ▸ hp⟩

theorem State.onCavs_slot (f : Env → Cavity → Cavity) : (s.onCavs f).sched = s.sched := by
  simp [State.onCavs, State.onCav]

theorem State.onCavs_cav (f : Env → Cavity → Cavity) (c : CavNo) :
    (s.onCavs f).cav c = f (s.env c) (s.cav c) :=
  State.cav_cases (P := fun c => (s.onCavs f).cav c = f (s.env c) (s.cav c)) rfl rfl rfl c

theorem State.cav_withSched (x : Sched) (c : CavNo) : ({ s with sched := x } : State).cav c = s.cav c :=
  State.cav_cases (P := fun c => ({ s with sched := x } : State).cav c = s.cav c) rfl rfl rfl c

/-- A window start. -/
theorem State.Shifts.windowStart : State.Shifts s s.windowStart := by
  unfold State.windowStart
  dsimp only
  refine State.Shifts.trans (State.Shifts.onFitted fun e k => .work) ?_
  generalize s.onFitted Cavity.windowWork = u
  have hslot := u.placeAll_scheduling.slot
  refine State.Shifts.trans State.Shifts.newSchedule ?_
  generalize u.takeVoltage.newWindow.rank.placeAll = w at hslot
  refine State.Shifts.trans (State.Shifts.onCavs fun e k => .starve) (.one (.slot (i := 0) ?_ (le_refl 0)))
  rw [State.onCavs_slot, hslot]

/-- The return of mains, and a cycle reading. -/
theorem State.Shifts.takeReading (volts : Nat) : State.Shifts s (s.takeReading volts) := by
  have crossed : State.Shifts s s.crossing := .beside rfl rfl rfl Iff.rfl rfl rfl rfl
  obtain ⟨-, h⟩ | ⟨-, -, h⟩ | ⟨-, -, h⟩ := s.takeReading_cases volts <;> rw [h]
  · exact crossed.trans (.beside rfl rfl rfl Iff.rfl rfl rfl rfl)
  · refine crossed.trans ?_
    unfold State.mainsReturn
    dsimp only
    refine State.Shifts.trans ?_ (State.Shifts.trans (State.Shifts.onCavs fun e k => .mainsBack) .windowStart)
    split <;> exact .beside rfl rfl rfl Iff.rfl rfl rfl rfl
  · exact crossed

/-- The crossing timer's expiry. -/
theorem State.Shifts.crossingExpired : State.Shifts s s.crossingExpired := by
  unfold State.crossingExpired
  dsimp only
  split
  · refine .one (.dropout ?_ ?_ ?_ ?_ fun c => ?_)
    · simp [State.onCavs, State.onCav, State.setPartEvent]
    · rw [State.onCavs_slot]
    · simp [State.onCavs, State.onCav]
    · simp [State.onCavs, State.onCav, State.setPartEvent]
    · rw [State.onCavs_cav]
      rw [State.cav_withSched, State.onCavs_cav]
      revert c
      exact State.cav_cases rfl rfl rfl
  · exact .beside rfl rfl rfl Iff.rfl rfl rfl rfl

/-! ### Requests and the link -/

/-- What the owning block makes of a request, the link being open. -/
theorem State.Shifts.serve (q : ReqKind) (r : Request) (ho : s.link.rx ≠ .closed) :
    State.Shifts s (q.serve r s).1 := by
  have besideLink {l : Link} (hl : l.rx = s.link.rx) : State.Shifts s { s with link := l } :=
    .beside rfl rfl rfl (by rw [show ({ s with link := l } : State).link.rx = s.link.rx from hl]) rfl rfl rfl
  have besideStore (t : Store) : State.Shifts s { s with store := t } := .beside rfl rfl rfl Iff.rfl rfl rfl rfl
  cases q with
  | cleanStart => exact .perCavityOrder 1 ho (fun g e k => .start _) r
  | cleanHold => exact .perCavityOrder 0 ho (fun g e k => .hold) r
  | cleanResume => exact .perCavityOrder 0 ho (fun g e k => .resume) r
  | cleanAbandon => exact .perCavityOrder 0 ho (fun g e k => .abandon) r
  | cookSet => exact .perCavityOrder 3 ho (fun g e k => .cook _ _) r
  | cookOff => exact .perCavityOrder 0 ho (fun g e k => .cookOff) r
  | eventsAck => exact .perCavityOrder 1 ho (fun g e k => .events _) r
  | conditionsAck => exact .perCavityOrder 2 ho (fun g e k => .conditions _) r
  | faultClear => exact .perCavityOrder 0 ho (fun g e k => .clear) r
  | budgetLend =>
    refine State.Shifts.trans ?_ (State.Shifts.lowerBudget _)
    exact .beside rfl rfl rfl Iff.rfl rfl rfl rfl
  | partEventsAck =>
    simp only [ReqKind.serve, servePartEventsAck]
    split
    · exact besideLink rfl
    · exact .refl _
  | restart =>
    simp only [ReqKind.serve, serveRestart]
    split
    · exact besideLink rfl
    · exact .refl _
  | cavityStatus =>
    simp only [ReqKind.serve, serveCavityStatus]
    split
    · have hall (cs : List CavNo) : ∀ u : State, State.Shifts u
          (cs.foldl (fun t c => t.onCav c fun _ k => k.clearEvents) u) := by
        induction cs with
        | nil => exact fun _ => .refl _
        | cons c cs ih => exact fun u => State.Shifts.trans (State.Shifts.onCav c fun e k => .clearEvents) (ih _)
      exact hall _ s
    · exact .refl _
  | partStatus =>
    simp only [ReqKind.serve, servePartStatus]
    split
    · exact besideLink rfl
    · exact .refl _
  | settingRead =>
    simp only [ReqKind.serve, serveSettingRead]
    split
    · split <;> exact .refl _
    · exact .refl _
  | settingWrite => exact State.Shifts.writeRun _ _ s _ _ _
  | storeStage => exact besideStore _
  | storeDiscard =>
    simp only [ReqKind.serve, serveStoreDiscard]
    split
    · exact .refl _
    · exact besideStore _
  | storeBurn =>
    simp only [ReqKind.serve, serveStoreBurn]
    split
    · exact besideStore _
    · exact .refl _
  | storeRead =>
    simp only [ReqKind.serve, serveStoreRead]
    split <;> exact .refl _
  | tripRecord | windowStatus => exact .refl _

theorem State.Shifts.sendReply (cls : BitVec 2) (code sel : Byte) (tag : BitVec 3) (payload : List Byte) :
    State.Shifts s (s.sendReply cls code sel tag payload) := .beside rfl rfl rfl Iff.rfl rfl rfl rfl

theorem State.Shifts.accept (q : ReqKind) (r : Request) (n : Nat) (ho : s.link.rx ≠ .closed) :
    State.Shifts s (s.accept q q.serve r n) := by
  unfold State.accept
  split
  · exact .sendReply ..
  · exact State.Shifts.trans (State.Shifts.serve q r ho) (.sendReply ..)

theorem State.Shifts.request (q : ReqKind) (r : Request) : State.Shifts s (s.request q q.serve r) := by
  unfold State.request
  split
  · exact .refl _
  next ho =>
    split
    · exact .partEvent _
    · exact .accept q r _ ho

theorem State.Shifts.takeByte (b : Byte) : State.Shifts s (s.takeByte b) := by
  unfold State.takeByte
  split
  · exact .refl _
  next hrx =>
    split
    · exact .beside rfl rfl rfl (by simp [hrx]) rfl rfl rfl
    · exact .refl _
  next hrx =>
    unfold State.assembleByte
    dsimp only
    split
    next hdone =>
      have judged (u : State) (hu : u.link.rx ≠ .closed) : State.Shifts u u.judgeFrame := by
        unfold State.judgeFrame
        dsimp only
        split
        · exact .partEvent _
        split
        · exact .refl _
        split
        · exact .refl _
        split
        · exact .partEvent _
        split
        · exact .sendReply ..
        · exact .accept _ _ _ hu
      have taken (l : Link) (hl : l.rx = .hunting) : State.Shifts s ({ s with link := l } : State).judgeFrame :=
        State.Shifts.trans (t := { s with link := l }) (.beside rfl rfl rfl (by simp [hl, hrx]) rfl rfl rfl)
          (judged _ (by simp [hl]))
      refine taken _ ?_
      simp
    next => exact .beside rfl rfl rfl (by simp [hrx]) rfl rfl rfl

/-! ### Every command -/

theorem exec_shifts {i : Instr} (h : exec i s = .next t) : State.Shifts s t := by
  have key (u : State) (hu : exec i s = u.settled) (hs : State.Shifts s u) : State.Shifts s t := by
    obtain rfl : u.decideAttn = t := by
      have := hu.symm.trans h
      simpa [State.settled] using this
    exact hs.trans .attn
  cases i with
  | startUp inp => exact key _ rfl (.one (.starts inp))
  | linkOpen =>
    refine key _ rfl ?_
    unfold State.openLink
    split
    next hr => exact .one (.opens hr _ (by simp))
    next => exact .refl _
  | receivedByte b => exact key _ rfl (.takeByte b)
  | frameCut =>
    refine key _ rfl ?_
    unfold State.cutFrame
    split
    next hr => exact .beside rfl rfl rfl (by simp [State.setPartEvent, hr]) rfl rfl rfl
    next => exact .refl _
  | replyEnd inp =>
    refine key _ rfl ?_
    unfold State.replyEnds
    split
    · split
      · exact .one (.starts inp)
      · exact .beside rfl rfl rfl Iff.rfl rfl rfl rfl
    · exact .refl _
  | cleanStart r => exact key _ rfl (.request .cleanStart r)
  | cleanHold r => exact key _ rfl (.request .cleanHold r)
  | cleanResume r => exact key _ rfl (.request .cleanResume r)
  | cleanAbandon r => exact key _ rfl (.request .cleanAbandon r)
  | cookSet r => exact key _ rfl (.request .cookSet r)
  | cookOff r => exact key _ rfl (.request .cookOff r)
  | eventsAck r => exact key _ rfl (.request .eventsAck r)
  | conditionsAck r => exact key _ rfl (.request .conditionsAck r)
  | faultClear r => exact key _ rfl (.request .faultClear r)
  | budgetLend r => exact key _ rfl (.request .budgetLend r)
  | partEventsAck r => exact key _ rfl (.request .partEventsAck r)
  | restart r => exact key _ rfl (.request .restart r)
  | cavityStatus r => exact key _ rfl (.request .cavityStatus r)
  | tripRecord r => exact key _ rfl (.request .tripRecord r)
  | windowStatus r => exact key _ rfl (.request .windowStatus r)
  | partStatus r => exact key _ rfl (.request .partStatus r)
  | settingRead r => exact key _ rfl (.request .settingRead r)
  | settingWrite r => exact key _ rfl (.request .settingWrite r)
  | storeStage r => exact key _ rfl (.request .storeStage r)
  | storeDiscard r => exact key _ rfl (.request .storeDiscard r)
  | storeBurn r => exact key _ rfl (.request .storeBurn r)
  | storeRead r => exact key _ rfl (.request .storeRead r)
  | byteProgrammingComplete b =>
    refine key _ rfl ?_
    unfold State.byteProgrammed
    dsimp only
    split <;> exact .beside rfl rfl rfl Iff.rfl rfl rfl rfl
  | cavitySample c v => exact key _ rfl (.ifFitted c fun e k => .cavitySample v)
  | doorSample c v => exact key _ rfl (.ifFitted c fun e k => .doorSample v)
  | windowStart =>
    refine key _ rfl ?_
    split
    · exact .windowStart
    · exact .refl _
  | slotBoundary =>
    refine key _ rfl ?_
    unfold State.nextSlot
    split
    next k hk =>
      split
      · exact .one (.slot hk (Nat.le_succ k))
      · exact .refl _
    next => exact .refl _
  | zeroCrossing => exact key _ rfl (.beside rfl rfl rfl Iff.rfl rfl rfl rfl)
  | cycleReading volts => exact key _ rfl (.takeReading volts)
  | dropout => exact key _ rfl .crossingExpired
  | lockSwitchChange c sw active =>
    refine key _ rfl ?_
    split
    next hf => exact .one (.event c hf (.lockSwitch sw active))
    next hf => exact .one (.follows c (by simpa using hf) sw active)
  | doorSwitchChange c closed =>
    refine key _ rfl ?_
    split
    next hf => exact .one (.event c hf (.doorSwitch closed))
    next hf => exact .one (.followsDoor c (by simpa using hf) closed)
  | travelTimeout c => exact key _ rfl (.ifFitted c fun e k => .timeout)
  | levelReview =>
    refine key _ rfl ?_
    exact State.Shifts.trans (State.Shifts.onFitted fun e k => .review) (.beside rfl rfl rfl Iff.rfl rfl rfl rfl)
  | tachPulse c => exact key _ rfl (.ifFitted c fun e k => .pulse)
  | tachTimerExpiry c => exact key _ rfl (.ifFitted c fun e k => .expiry)

/-- A step is made of such changes. -/
theorem step_shifts (h : step s = .next t) : State.Shifts s t := by
  unfold step at h
  split at h
  · obtain rfl : s.tick = t := by simpa using h
    refine State.Shifts.trans (t := s.onCavs fun _ k => k.passTime) (.onCavs fun e k => .pass) ?_
    exact .beside rfl rfl rfl Iff.rfl rfl rfl rfl
  next c rest _ =>
    refine State.Shifts.trans (t := { s with pending := rest }) ?_ (exec_shifts h)
    exact .beside rfl rfl rfl Iff.rfl rfl rfl rfl

/-- What every kind of change keeps, a step keeps. -/
theorem step_keeps {P : State → Prop} (hP : ∀ s t, State.Shift s t → P s → P t) (h : step s = .next t)
    (hs : P s) : P t := by
  have hall : ∀ u, State.Shifts s u → P u := by
    intro u hu
    induction hu with
    | refl => exact hs
    | tail _ hl ih => exact hP _ _ hl ih
  exact hall t (step_shifts h)

end Shifts

end Sys2Proof.Machine

namespace Sys2Proof.Machine

open Relation

/-! ## The course of a cavity

What the laws of heat and of the program read of a cavity. Reports, conditions, probes, the lock and the fan's
command come and go without a change of it. -/

/-- The part of a cavity's record that the heat and program laws read, the rest at start-up values. -/
def Cavity.course (k : Cavity) : Cavity :=
  { cc := { k.cc with events := 0, lastEnd := .none, cycle := 0, hold := 0 }
    prb := { mark := k.prb.mark }
    fan := { catalyst := k.fan.catalyst, segFlag := k.fan.segFlag }
    cat := k.cat, top := k.top, base := k.base, ring := k.ring, starve := k.starve }

/-- The course of an entry of a state. -/
def Cavity.entered (e : Env) (st : CavState) (k : Cavity) : Cavity :=
  { k.shedWhere e.slot fun p => !st.allows p with
    cc := k.cc.enter st
    starve := if st.keepsStarve then k.starve else 0
    fan := { k.fan with catalyst := k.fan.catalyst && decide (st = .cleaning) } }

/-- The course of a trip. -/
def Cavity.tripped (e : Env) (k : Cavity) : Cavity :=
  if k.cc.state = .cleaning || k.cc.state = .held then (k.entered e .faulted).clearProgram
  else k.entered e .faulted

/-- The course of an entry to COOLDOWN. -/
def Cavity.cooled (e : Env) (k : Cavity) : Cavity := (k.entered e .cooldown).clearProgram

/-- How the program goes on from a cavity in CLEANING: a timed segment, COOLDOWN, or a trip (R37, R45). -/
inductive Cavity.Onward (e : Env) (k : Cavity) : Cavity → Prop
  | segment {k' : Cavity} {i j : Nat} {stack : List Nat} (hr : resolve e.segs 6 i k.cc.stack = .entered j stack)
      (h : k'.course = (k.enterSegment e j stack).course) : Onward e k k'
  | cool {k' : Cavity} (h : k'.course = (k.cooled e).course) : Onward e k k'
  | trip {k' : Cavity} (h : k'.course = (k.tripped e).course) : Onward e k k'

/-- A cavity whose recovery is still to come does not leave IDLE and FAULTED while the link is closed. -/
def Cavity.Free (closed : Prop) (k : Cavity) : Prop :=
  closed → k.cc.state = .idle ∨ k.cc.state = .faulted → k.cc.recovering = false

/-- The changes of a cavity's course; `closed` says that the link is closed. -/
inductive Cavity.Move (e : Env) (closed : Prop) (k : Cavity) : Cavity → Prop
  | same {k' : Cavity} (h : k'.course = k.course) : Move e closed k k'
  /-- Entry of a state between two states outside the program. -/
  | enter {k' : Cavity} (st : CavState) (hk : ¬ k.cc.state.inProgram) (hst : ¬ st.inProgram)
      (hfree : st = .idle ∨ k.Free closed) (h : k'.course = (k.entered e st).course) : Move e closed k k'
  | trip {k' : Cavity} (h : k'.course = (k.tripped e).course) : Move e closed k k'
  | cool {k' : Cavity} (hfree : k.Free closed) (h : k'.course = (k.cooled e).course) : Move e closed k k'
  | hold {k' : Cavity} (hk : k.cc.state = .cleaning) (h : k'.course = (k.entered e .held).course) :
      Move e closed k k'
  | resume {k' : Cavity} (hk : k.cc.state = .held) (v : Nat) (h : k'.course =
      ({ k.entered e .cleaning with
          cc := { (k.entered e .cleaning).cc with speff := v, arrived := false }
          fan := { k.fan with catalyst := k.segCatalyst e } } : Cavity).course) : Move e closed k k'
  | begins {k' : Cavity} (hk : k.cc.state = .locking) (h : (k.begun e).Onward e k') : Move e closed k k'
  | onward {k' : Cavity} (hk : k.cc.state = .cleaning) (h : k.Onward e k') : Move e closed k k'
  /-- The start segment is chosen. -/
  | select (hk : k.cc.state = .locking) (i : Nat) :
      Move e closed k { k with cc := { k.cc with startSeg := some i } }
  /-- The cook fields are written. -/
  | cook (hk : k.cc.state = .cooking) (setpoint speff : Nat) (set : ElemSet) :
      Move e closed k { k with cc := { k.cc with cookSetpoint := setpoint, cookSet := set, speff := speff } }
  | sheds (q : Position → Bool) : Move e closed k (k.shedWhere e.slot q)
  /-- SPeff, demand and the counters of a segment move. -/
  | figures (elapsed soak speff demand : Nat) (arrived : Bool)
      (hp : k.cc.state.inProgram ∨ (elapsed = k.cc.elapsed ∧ soak = k.cc.soak ∧ arrived = k.cc.arrived))
      (hs : k.cc.state.zeroSpeff = true → speff ≤ k.cc.speff)
      (hd : k.cc.state.heats = false → demand ≤ k.cc.demand) :
      Move e closed k { k with cc := { k.cc with elapsed := elapsed, soak := soak, speff := speff,
                                                 demand := demand, arrived := arrived } }
  /-- The armed detector counts, or is disarmed by its mark. -/
  | mark {k' : Cavity} (hm : k.prb.mark ≠ none) (held : Bool) (m : Option Detector)
      (hh : m ≠ none → held = k.cc.markHeld)
      (h : k'.course = ({ k with cc := { k.cc with markHeld := held }
                                 prb := { k.prb with mark := m } } : Cavity).course) : Move e closed k k'
  | starve {k' : Cavity} (n : Nat) (hn : k.cc.state.inProgram ∨ n = 0)
      (h : k'.course = ({ k with starve := n } : Cavity).course) : Move e closed k k'
  /-- Recovery into UNLOCKING (R29). -/
  | recovers {k' : Cavity} (hr : k.cc.recovering = true) (h : k'.course =
      (({ k with cc := { k.cc with recovering := false } } : Cavity).entered e .unlocking).course) :
      Move e closed k k'
  | recovered : Move e closed k { k with cc := { k.cc with recovering := false } }

/-- The course of `k'` comes from that of `k` by such changes. -/
def Cavity.Moves (e : Env) (closed : Prop) : Cavity → Cavity → Prop := ReflTransGen (Cavity.Move e closed)

/-! ## The operations of a cavity are made of such moves -/

section Moves
variable {e : Env} {closed : Prop} {k m n : Cavity}

theorem Cavity.Moves.refl (k : Cavity) : k.Moves e closed k := ReflTransGen.refl

theorem Cavity.Moves.trans (h : k.Moves e closed m) (h' : m.Moves e closed n) : k.Moves e closed n :=
  ReflTransGen.trans h h'

theorem Cavity.Moves.one (h : k.Move e closed m) : k.Moves e closed m := ReflTransGen.single h

theorem Cavity.Moves.same (h : m.course = k.course) : k.Moves e closed m := .one (.same h)

/-- A change that the course does not see, before moves of it. -/
theorem Cavity.Moves.after (m : Cavity) (h : m.course = k.course) (h' : m.Moves e closed n) :
    k.Moves e closed n := (Cavity.Moves.same h).trans h'

@[simp] theorem Cavity.decideFan_course (k : Cavity) : k.decideFan.course = k.course := by
  obtain ⟨-, -, -, -, hseg, -, hcat⟩ := Fan.take_keeps k.fan (k.fan.wanted k.cc.state)
  unfold Cavity.course
  simp only [Cavity.decideFan]
  rw [hseg, hcat]

theorem Cavity.enterState_course (e : Env) (st : CavState) (k : Cavity) :
    (k.enterState e st).course = (k.entered e st).course := by
  unfold Cavity.enterState
  rw [Cavity.decideFan_course]
  by_cases h : st = .idle
  · simp only [h, if_true]
    rfl
  · simp only [h, if_false]
    rfl

theorem Cavity.trip_course (e : Env) (c : Condition) (later : CondSet) (k : Cavity) :
    (k.trip e c later).course = (k.tripped e).course := by
  have hin : (k.enterState e .faulted).course = (k.entered e .faulted).course := Cavity.enterState_course ..
  have hclear : (k.enterState e .faulted).clearProgram.course = (k.entered e .faulted).clearProgram.course := by
    have h (x y : Cavity) (hxy : x.course = y.course) : x.clearProgram.course = y.clearProgram.course := by
      have := congrArg (fun z : Cavity => z.clearProgram.course) hxy
      exact this
    exact h _ _ hin
  unfold Cavity.trip Cavity.tripped
  dsimp only
  split <;> split <;> first | exact hclear | exact hin

/-- An entry to COOLDOWN, before the decision of the entry. -/
theorem Cavity.enterCooldown_course (why : LastEnd) :
    (((k.writeEnd why).enterState e .cooldown).clearProgram).course = (k.cooled e).course := by
  have h := congrArg (fun z : Cavity => z.clearProgram.course)
    (Cavity.enterState_course e .cooldown (k.writeEnd why))
  exact h

/-! ### The condition monitor -/

theorem Cavity.Moves.trip (c : Condition) (later : CondSet) : k.Moves e closed (k.trip e c later) :=
  .one (.trip (Cavity.trip_course ..))

theorem Cavity.Moves.decideAmong (asked : Condition → Bool) : k.Moves e closed (k.decideAmong e asked) := by
  unfold Cavity.decideAmong
  split
  · exact .refl k
  · exact .trip _ _

theorem Cavity.Moves.decideEntry : k.Moves e closed (k.decideEntry e) := .decideAmong _

theorem Cavity.Moves.judge (c : Condition) : k.Moves e closed (k.judge e c) := by
  unfold Cavity.judge
  split
  · split
    · exact .same rfl
    · exact .refl k
  · split
    · exact .trip _ _
    · exact .refl k

theorem Cavity.Moves.onset (c : Condition) : k.Moves e closed (k.onset e c) :=
  .after { k with cond := { k.cond with present := k.cond.present.add c, seen := k.cond.seen.add c } } rfl
    (.judge c)

theorem Cavity.Moves.momentary (c : Condition) : k.Moves e closed (k.momentary e c) :=
  .after { k with cond := { k.cond with seen := k.cond.seen.add c } } rfl (.judge c)

/-! ### Entries of states -/

theorem Cavity.Moves.enterCooldown (why : LastEnd) (h : k.Free closed) :
    k.Moves e closed (k.enterCooldown e why) :=
  Cavity.Moves.trans (.one (.cool h (Cavity.enterCooldown_course why))) .decideEntry

/-- An entry of a state outside the program from one outside it. -/
theorem Cavity.Moves.enterState (st : CavState) (hk : ¬ k.cc.state.inProgram) (hst : ¬ st.inProgram)
    (hf : st = .idle ∨ k.Free closed) : k.Moves e closed (k.enterState e st) :=
  .one (.enter st hk hst hf (Cavity.enterState_course e st k))

theorem Cavity.Moves.endInIdle (hk : ¬ k.cc.state.inProgram) : k.Moves e closed (k.endInIdle e) :=
  Cavity.Moves.trans (Cavity.Moves.enterState .idle hk (by decide) (.inl rfl))
    (.after ((k.enterState e .idle).setEvent .cycleEnded) rfl .decideEntry)

/-- A cavity in a state other than IDLE and FAULTED is free to move. -/
theorem Cavity.free_of_ne (h1 : k.cc.state ≠ .idle) (h2 : k.cc.state ≠ .faulted) : k.Free closed :=
  fun _ h => (h.elim h1 h2).elim

/-! ### The program -/

/-- A move of the program in CLEANING is one of its ways onward. -/
theorem Cavity.moveTo_onward (hk : k.cc.state = .cleaning) (i : Nat) :
    ∃ m, k.Onward e m ∧ (m.Moves e closed (k.moveTo e i)) := by
  unfold Cavity.moveTo
  rw [show Config.maxPasses = 6 from rfl]
  cases hr : resolve e.segs 6 i k.cc.stack with
  | entered j stack => exact ⟨_, .segment hr rfl, .refl _⟩
  | finished j stack =>
    let k1 : Cavity := { k with cc := { k.cc with segIndex := some j, stack := stack } }
    exact ⟨_, .cool (Cavity.enterCooldown_course (k := k1) .completed),
      Cavity.Moves.decideEntry (k := ((k1.writeEnd .completed).enterState e .cooldown).clearProgram)⟩
  | failed sub j stack =>
    dsimp only
    rw [Cavity.programFault_eq e k hk]
    let k1 : Cavity := { k with cc := { k.cc with segIndex := j, stack := stack }
                                cond := { k.cond with seen := k.cond.seen.add .program } }
    have htrip : (k1.tripped e).course = (k.tripped e).course := by
      unfold Cavity.tripped
      simp only [k1, hk, decide_true, Bool.true_or, if_true]
      rfl
    dsimp only
    split
    · exact ⟨_, .trip ((Cavity.trip_course e .program 0 k1).trans htrip), .refl _⟩
    · exact ⟨_, .cool (Cavity.enterCooldown_course (k := k1) (.programFault sub)),
        Cavity.Moves.decideEntry
          (k := ((k1.writeEnd (.programFault sub)).enterState e .cooldown).clearProgram)⟩

theorem Cavity.Moves.moveTo (hk : k.cc.state = .cleaning) (i : Nat) : k.Moves e closed (k.moveTo e i) := by
  obtain ⟨m, ho, hm⟩ := Cavity.moveTo_onward (e := e) (closed := closed) hk i
  exact Cavity.Moves.trans (.one (.onward hk ho)) hm

theorem Cavity.Moves.segmentEnds (hk : k.cc.state = .cleaning) : k.Moves e closed (k.segmentEnds e) := by
  unfold Cavity.segmentEnds
  split
  · exact .moveTo hk _
  · exact .refl k

theorem Cavity.Moves.enterCleaning (hk : k.cc.state = .locking) : k.Moves e closed (k.enterCleaning e) := by
  cases hi : k.cc.startSeg with
  | none =>
    unfold Cavity.enterCleaning
    rw [hi]
    exact .refl k
  | some i =>
    rw [Cavity.enterCleaning_eq hi]
    obtain ⟨m, ho, hm⟩ := Cavity.moveTo_onward (e := e) (closed := closed) (k := k.begun e) rfl i
    exact Cavity.Moves.trans (.one (.begins hk ho)) (Cavity.Moves.trans hm .decideEntry)

/-! ### The lock's reports -/

/-- A way of sending RELEASE that moves the course as the laws allow. -/
def Cavity.Sends (e : Env) (closed : Prop) (send : Cavity → Cavity) : Prop :=
  ∀ k : Cavity, k.Moves e closed (send k)

theorem Cavity.Moves.failStart (why : StartFault) {send : Cavity → Cavity} (hsend : Cavity.Sends e closed send)
    (hk : k.cc.state = .locking) : k.Moves e closed (k.failStart e why send) := by
  unfold Cavity.failStart
  refine .after (k.writeEnd (.startFailed why)) rfl ?_
  refine Cavity.Moves.trans (.enterState .unlocking (by simp [Cavity.writeEnd, hk]) (by decide) (.inr ?_)) ?_
  · exact Cavity.free_of_ne (by simp [Cavity.writeEnd, hk]) (by simp [Cavity.writeEnd, hk])
  · exact Cavity.Moves.trans (hsend _) .decideEntry

theorem Cavity.Moves.handOver {send : Cavity → Cavity} (hsend : Cavity.Sends e closed send) (r : LockReport) :
    k.Moves e closed (k.handOver e send r) := by
  cases r with
  | jamPresent => exact .onset _
  | jamAbsent => exact .same rfl
  | lockLost => exact .momentary _
  | doorForced => exact .momentary _
  | locked =>
    simp only [Cavity.handOver, Cavity.answer]
    split
    next h => exact .enterCleaning h
    next => exact hsend k
    next => exact .refl k
  | opened =>
    rw [Cavity.handOver_opened]
    split
    next h => exact .endInIdle (by simp [h])
    next => exact .refl k
  | unknown =>
    simp only [Cavity.handOver, Cavity.answer]
    split
    next h => exact .failStart _ hsend h
    next => exact hsend k
    next => exact .refl k
  | jammed =>
    simp only [Cavity.handOver, Cavity.answer]
    split
    next h =>
      simp only [Bool.and_eq_true, decide_eq_true_eq] at h
      exact .failStart _ hsend h.1
    next => exact .refl k
  | doorOpened =>
    simp only [Cavity.handOver, Cavity.answer]
    split
    next h => exact .failStart _ (fun k => Cavity.Moves.refl k) h
    next => exact .refl k
  | lockRefused =>
    simp only [Cavity.handOver, Cavity.answer]
    split
    next h =>
      exact .after (k.writeEnd (.startFailed .doorOpen)) rfl (.endInIdle (by simp [Cavity.writeEnd, h]))
    next h => exact .endInIdle (by simp [h])
    next => exact .refl k

theorem Cavity.Moves.afterLock {send : Cavity → Cavity} (hsend : Cavity.Sends e closed send)
    (res : Lock × List LockReport) : k.Moves e closed (k.afterLock e send res) := by
  obtain ⟨l, rs⟩ := res
  suffices h : ∀ (rs : List LockReport) (m : Cavity), m.Moves e closed
      (rs.foldl (fun k r => k.handOver e send r) m) from
    .after { k with lock := l } rfl (h rs _)
  intro rs
  induction rs with
  | nil => exact fun m => .refl m
  | cons r rs ih => exact fun m => Cavity.Moves.trans (.handOver hsend r) (ih _)

theorem Cavity.Moves.sendRelease : k.Moves e closed (k.sendRelease e) :=
  .afterLock (fun k => Cavity.Moves.refl k) _

theorem Cavity.Moves.lockChanged (res : Lock × List LockReport) : k.Moves e closed (k.lockChanged e res) :=
  .afterLock (fun _ => Cavity.Moves.sendRelease) res

/-! ### Orders, with the link open -/

theorem Cavity.Order.moves (h : k.Order e m) (ho : ¬ closed) : k.Moves e closed m := by
  have free (x : Cavity) : x.Free closed := fun hc => absurd hc ho
  cases h with
  | start i =>
    unfold Cavity.cleanStart
    split_ifs with h1
    all_goals first | exact .refl k | skip
    dsimp only
    refine Cavity.Moves.trans (.enterState .locking (by simp_all) (by decide) (.inr (free k))) ?_
    refine Cavity.Moves.trans (.one (.select rfl i)) ?_
    exact Cavity.Moves.trans (.lockChanged _) .decideEntry
  | hold =>
    unfold Cavity.cleanHold
    split
    next h => exact Cavity.Moves.trans (.one (.hold h (Cavity.enterState_course ..))) .decideEntry
    next => exact .refl k
    next => exact .refl k
  | resume =>
    unfold Cavity.cleanResume
    split
    next h =>
      refine Cavity.Moves.trans (.one (.resume h (e.speffOfReading k.prb.cavity.reading) ?_)) .decideEntry
      have h := Cavity.enterState_course e .cleaning k
      have hset := congrArg (fun z : Cavity => ({ z with
        cc := { z.cc with speff := e.speffOfReading k.prb.cavity.reading, arrived := false }
        fan := { z.fan with catalyst := k.segCatalyst e } } : Cavity).course) h
      exact hset
    next => exact .refl k
  | abandon =>
    unfold Cavity.cleanAbandon
    split
    next h =>
      refine .after (k.writeEnd .abandoned) rfl ?_
      refine Cavity.Moves.trans (.enterState .unlocking (by simp [Cavity.writeEnd, h]) (by decide)
        (.inr (free _))) ?_
      exact Cavity.Moves.trans .sendRelease .decideEntry
    next => exact .enterCooldown _ (free k)
    next => exact .enterCooldown _ (free k)
    next => exact .refl k
    next => exact .refl k
    next => exact .refl k
  | cook v elems =>
    rw [Cavity.cookSet]
    split_ifs with h1 h2 h3 h4
    · exact .refl k
    · exact .refl k
    · exact .refl k
    · refine Cavity.Moves.trans (.enterState .cooking (by simp [h4]) (by decide) (.inr (free k))) ?_
      exact Cavity.Moves.trans (.one (.cook rfl _ _ _)) .decideEntry
    · have hc : k.cc.state = .cooking := by tauto
      refine Cavity.Moves.trans (.one (.sheds fun p => k.cc.cookSet.hasPos p &&
        !ElemSet.hasPos (BitVec.ofNat 3 elems.toNat) p)) ?_
      refine .one ?_
      exact Cavity.Move.cook (k := k.shedWhere e.slot fun p => k.cc.cookSet.hasPos p &&
        !ElemSet.hasPos (BitVec.ofNat 3 elems.toNat) p) hc (e.holdSetpoint v).1 ((e.holdSetpoint v).1 * 10)
        (BitVec.ofNat 3 elems.toNat)
  | cookOff =>
    unfold Cavity.cookOff
    split
    next => exact .refl k
    next h =>
      exact Cavity.Moves.trans (.enterState .idle (by simp [h]) (by decide) (.inl rfl)) .decideEntry
    next => exact .refl k
  | events b =>
    unfold Cavity.eventsAck
    split <;> exact .same rfl
  | conditions w =>
    unfold Cavity.conditionsAck
    split <;> exact .same rfl
  | clear =>
    unfold Cavity.faultClear
    by_cases hs : k.cc.state = .faulted
    swap
    · rw [if_pos hs]
      exact .refl k
    rw [if_neg (not_not.2 hs)]
    let k1 : Cavity := { k with cond := { k.cond with trip := none } }
    have hk1 : ¬ k1.cc.state.inProgram := by simp [k1, hs]
    dsimp only
    split_ifs
    · exact .refl k
    · exact .refl k
    · exact .after k1 rfl (.endInIdle hk1)
    · exact .after k1 rfl (Cavity.Moves.trans (.enterState .unlocking hk1 (by decide) (.inr (free _)))
        (Cavity.Moves.trans .sendRelease .decideEntry))

/-! ### Events -/

theorem Cavity.Moves.absent (c : Condition) : k.Moves e closed (k.absent c) := .same rfl

theorem Cavity.Moves.decideFan : k.Moves e closed k.decideFan := .same (Cavity.decideFan_course k)

/-- A change of the fan that the course does not see, and the fan decided. -/
theorem Cavity.Moves.fan (f : Fan) (hc : f.catalyst = k.fan.catalyst) (hs : f.segFlag = k.fan.segFlag) :
    k.Moves e closed ({ k with fan := f } : Cavity).decideFan := by
  refine .after { k with fan := f } ?_ .decideFan
  unfold Cavity.course
  simp only [hc, hs]

theorem Cavity.onset_fan_moves (c : Condition) (g : Fan → Fan) (hc : ∀ f, (g f).catalyst = f.catalyst)
    (hs : ∀ f, (g f).segFlag = f.segFlag) :
    k.Moves e closed ({ k.onset e c with fan := g (k.onset e c).fan } : Cavity).decideFan :=
  Cavity.Moves.trans (.onset c) (.fan _ (hc _) (hs _))

theorem Cavity.Moves.levelReport (c : Condition) (was now : Bool) :
    k.Moves e closed (k.levelReport e c was now) := by
  unfold Cavity.levelReport
  split_ifs
  · exact .refl k
  · exact .onset c
  · exact .absent c

theorem Cavity.Moves.reportCavityFault (cls : SampleClass) : k.Moves e closed (k.reportCavityFault e cls) := by
  unfold Cavity.reportCavityFault
  split_ifs
  · exact Cavity.onset_fan_moves .sensor (fun f => { f with probeView := true }) (fun _ => rfl) (fun _ => rfl)
  · exact Cavity.Moves.trans (.absent .sensor) (.fan _ rfl rfl)
  · exact .refl k

theorem Cavity.Moves.checkOvertemp : k.Moves e closed (k.checkOvertemp e) := by
  unfold Cavity.checkOvertemp
  dsimp only
  let now : Bool := (e.cfg.limits.cleanCeiling : Int) + e.cfg.limits.overtempMargin < k.prb.cavity.reading
  exact .after { k with prb := { k.prb with overtemp := now } } rfl (.levelReport ..)

theorem Cavity.Moves.releaseLaw (cls : SampleClass) : k.Moves e closed (k.releaseLaw e cls) := by
  unfold Cavity.releaseLaw
  split_ifs
  · exact .lockChanged _
  · exact .refl k

theorem Cavity.Moves.markStage (cls : SampleClass) : k.Moves e closed (k.markStage e cls) := by
  unfold Cavity.markStage
  cases hm : k.prb.mark with
  | none => exact .refl k
  | some d =>
    have hne : k.prb.mark ≠ none := by simp [hm]
    dsimp only
    split_ifs
    · have hmarked : k.Moves e closed (k.marked d) := .one (.mark hne true none (fun h => absurd rfl h) rfl)
      obtain ⟨i, -, hk, -, h⟩ | ⟨-, h⟩ := Cavity.confirmMark_cases e d k <;> rw [h]
      · exact hmarked.trans (Cavity.Moves.moveTo (k := k.marked d) hk _)
      · exact hmarked
    · exact .one (.mark hne k.cc.markHeld _ (fun _ => rfl) rfl)
    · exact .one (.mark hne k.cc.markHeld _ (fun _ => rfl) rfl)

/-- A change of the figures that a program keeps. -/
theorem Cavity.Moves.figure (cc : Controller) (hcc : cc = { k.cc with
      cycle := cc.cycle, hold := cc.hold, elapsed := cc.elapsed, soak := cc.soak, speff := cc.speff,
      demand := cc.demand, arrived := cc.arrived })
    (hp : k.cc.state.inProgram ∨
      (cc.elapsed = k.cc.elapsed ∧ cc.soak = k.cc.soak ∧ cc.arrived = k.cc.arrived))
    (hs : k.cc.state.zeroSpeff = true → cc.speff ≤ k.cc.speff)
    (hd : k.cc.state.heats = false → cc.demand ≤ k.cc.demand) :
    k.Moves e closed { k with cc := cc } := by
  refine Cavity.Moves.trans (.one (.figures cc.elapsed cc.soak cc.speff cc.demand cc.arrived hp hs hd)) ?_
  refine .same ?_
  rw [hcc]
  rfl

theorem Cavity.Moves.recover (hr : k.cc.recovering = true) : k.Moves e closed (k.recover e) := by
  unfold Cavity.recover
  let k1 : Cavity := { k with cc := { k.cc with recovering := false } }
  have hk1 : k.Moves e closed k1 := .one .recovered
  have hfree : k1.Free closed := fun _ _ => rfl
  dsimp only
  split_ifs with h1 h2 h3
  · exact hk1
  · exact hk1.trans (Cavity.Moves.fan (k := k1) _ rfl rfl)
  · refine Cavity.Moves.trans (.one (.recovers hr ?_)) (Cavity.Moves.trans .sendRelease .decideEntry)
    exact Cavity.enterState_course e .unlocking (k1.writeEnd .recovered)
  · exact hk1.trans (Cavity.Moves.enterCooldown (k := k1) _ hfree)

theorem Cavity.Moves.recoverStage (third : Bool) : k.Moves e closed (k.recoverStage e third) := by
  unfold Cavity.recoverStage
  split
  next h =>
    rw [Bool.and_eq_true] at h
    exact .recover h.2
  next => exact .refl k

theorem Cavity.Moves.goodSample : k.Moves e closed (k.goodSample e) := by
  unfold Cavity.goodSample
  dsimp only
  split
  · exact .refl k
  cases hs : k.cc.state <;> dsimp only
  case cooldown =>
    split_ifs
    · exact .endInIdle (by simp [hs])
    · refine Cavity.Moves.trans (.enterState .unlocking (by simp [hs]) (by decide) (.inr ?_)) ?_
      · exact Cavity.free_of_ne (by simp [hs]) (by simp [hs])
      · exact Cavity.Moves.trans .sendRelease .decideEntry
    · exact .refl k
  case unlocking | idle =>
    split_ifs
    · exact .sendRelease
    · exact .refl k
  all_goals exact .refl k

theorem Cavity.Moves.cavitySample (v : Int) : k.Moves e closed (k.cavitySample e v) := by
  rw [Cavity.cavitySample_eq]
  generalize k.prb.cavity.sampleClass v = cls
  generalize decide ((k.prb.cavity.after (-400) 6000 v).taken = 3) = third
  have hover (m : Cavity) : m.Moves e closed (if cls.good then m.checkOvertemp e else m) := by
    split
    · exact .checkOvertemp
    · exact .refl m
  have last (m : Cavity) : m.Moves e closed (if cls.good then m.goodSample e else m) := by
    split
    · exact .goodSample
    · exact .refl m
  refine .after (k.probed v) rfl ?_
  refine Cavity.Moves.trans ?_ (last _)
  refine Cavity.Moves.trans ?_ (.recoverStage third)
  refine Cavity.Moves.trans ?_ (.markStage cls)
  refine Cavity.Moves.trans ?_ (.releaseLaw cls)
  exact Cavity.Moves.trans (.reportCavityFault cls) (hover _)

theorem Cavity.Moves.doorSample (v : Int) : k.Moves e closed (k.doorSample e v) := by
  unfold Cavity.doorSample
  obtain ⟨p, cls⟩ := k.prb.door.sample Config.doorLo Config.doorHi v
  dsimp only
  refine .after { k with prb := { k.prb with door := p } } rfl (Cavity.Moves.trans (m := Cavity.reportDoorFault e
    cls { k with prb := { k.prb with door := p } }) ?_ ?_)
  · unfold Cavity.reportDoorFault
    split_ifs
    · exact .onset _
    · exact .absent _
    · exact .refl _
  · split
    swap
    · exact .refl _
    have hot (m : Cavity) : m.Moves e closed (m.decideDoorHot e) := by
      unfold Cavity.decideDoorHot
      dsimp only
      let now : Bool := (e.cfg.limits.doorTrip : Int) ≤ m.prb.door.reading
      exact .after { m with prb := { m.prb with doorHot := now } } rfl (.levelReport ..)
    have warm (m : Cavity) : m.Moves e closed (m.decideDoorWarm e) := by
      unfold Cavity.decideDoorWarm
      dsimp only
      split
      · exact .refl m
      · refine .after { m with prb := { m.prb with doorWarm := m.prb.warmNow e.cfg.limits.doorWarn } } rfl
          (Cavity.Moves.trans (.levelReport .doorWarm m.prb.doorWarm (m.prb.warmNow e.cfg.limits.doorWarn)) ?_)
        exact .fan _ rfl rfl
    exact (hot _).trans (warm _)

/-- The window-start work. -/
theorem Cavity.Moves.windowWork : k.Moves e closed (k.windowWork e) := by
  have free (m : Cavity) (h : m.cc.state.inProgram) : m.Free closed :=
    Cavity.free_of_ne (by obtain h | h := h <;> simp [h]) (by obtain h | h := h <;> simp [h])
  have stage1 : k.Moves e closed (k.stage1 e) := by
    unfold Cavity.stage1
    cases hs : k.cc.state <;> dsimp only
    case cleaning =>
      unfold Cavity.countCleaning
      dsimp only
      let k1 : Cavity := { k with cc := { k.cc with cycle := k.cc.cycle + 1 } }
      split_ifs
      · exact .after k1 rfl (.enterCooldown _ (free k1 (.inl hs)))
      · split
        · exact .same rfl
        · exact .figure _ rfl (.inl (.inl hs)) (fun h => le_refl _) (fun h => le_refl _)
    case held =>
      unfold Cavity.countHeld
      dsimp only
      let k1 : Cavity := { k with cc := { k.cc with hold := k.cc.hold + 1 } }
      split_ifs
      · exact .after k1 rfl (.enterCooldown _ (free k1 (.inr hs)))
      · exact .same rfl
    all_goals exact .refl k
  have stage2 (m : Cavity) : m.Moves e closed (m.stage2 e) := by
    unfold Cavity.stage2
    refine .figure _ rfl (.inr ⟨rfl, rfl, rfl⟩) (fun h => ?_) (fun h => le_refl _)
    cases hs : m.cc.state <;> simp_all [CavState.zeroSpeff]
  have stage3 (m : Cavity) : m.Moves e closed (m.stage3 e) := by
    unfold Cavity.stage3
    split
    next i hs hi =>
      have harr : m.Moves e closed (m.decideArrived e (e.segs.at i)) := by
        unfold Cavity.decideArrived
        split
        · exact .figure _ rfl (.inl (.inl hs)) (fun h => le_refl _) (fun h => le_refl _)
        · exact .refl m
      have hst : (m.decideArrived e (e.segs.at i)).cc.state = .cleaning := by
        unfold Cavity.decideArrived
        split <;> exact hs
      dsimp only
      refine harr.trans ?_
      split_ifs
      · exact .segmentEnds hst
      · exact .enterCooldown _ (free _ (.inl hst))
      · exact .segmentEnds hst
      · exact .refl _
    next => exact .refl m
  have stage4 (m : Cavity) : m.Moves e closed (m.stage4 e) := by
    unfold Cavity.stage4
    refine .figure _ rfl (.inr ⟨rfl, rfl, rfl⟩) (fun h => le_refl _) (fun h => ?_)
    have hno : m.formulaApplies e = false := by
      unfold Cavity.formulaApplies
      cases hs : m.cc.state <;> simp_all [CavState.heats]
    simp [hno]
  exact ((stage1.trans (stage2 _)).trans (stage3 _)).trans (stage4 _)

theorem Cavity.Event.moves (h : k.Event e m) : k.Moves e closed m := by
  cases h with
  | cavitySample v => exact .cavitySample v
  | doorSample v => exact .doorSample v
  | lockSwitch sw active => exact .lockChanged _
  | doorSwitch c => exact .lockChanged _
  | timeout => exact .lockChanged _
  | review =>
    unfold Cavity.levelReview
    split
    · exact .fan _ rfl rfl
    · exact .refl k
  | pulse =>
    unfold Cavity.tachPulse
    split
    · dsimp only
      split <;> exact .same rfl
    · exact .refl k
  | expiry =>
    unfold Cavity.tachExpiry
    cases k.fan.tach with
    | stopped => exact .refl k
    | settling => exact .same rfl
    | watching =>
      let stalls := !k.fan.pulseSeen && !k.fan.stall
      let f : Fan := { k.fan with tachLeft := Config.tachMs, pulseSeen := false, stall := k.fan.stall || stalls }
      dsimp only
      split
      · exact .after { k with fan := f } rfl (.onset _)
      · exact .same rfl
  | work => exact .windowWork

/-! ### What every cavity takes alike -/

theorem Cavity.Common.moves (h : k.Common e m) : k.Moves e closed m := by
  cases h with
  | clearEvents => exact .same rfl
  | clampClean =>
    exact .figure _ rfl (.inr ⟨rfl, rfl, rfl⟩) (fun _ => Nat.min_le_left _ _) (fun _ => le_refl _)
  | clampCook =>
    unfold Cavity.clampCook
    dsimp only
    split
    next h =>
      rw [Bool.and_eq_true, decide_eq_true_eq] at h
      exact .one (.cook h.1 _ _ _)
    next => exact .refl k
  | enables old => exact .decideAmong _
  | starve =>
    unfold Cavity.moveStarve
    cases hs : k.cc.state <;> dsimp only
    case cleaning =>
      split
      · have h1 : k.Moves e closed { k with starve := k.starve + 1 } := .one (.starve _ (.inl (.inl hs)) rfl)
        split
        · exact h1.trans (.onset _)
        · exact h1
      · exact .one (.starve 0 (.inr rfl) rfl)
    case held => exact .refl k
    all_goals exact .one (.starve 0 (.inr rfl) rfl)
  | mainsBack => exact .lockChanged _
  | pass => exact .same rfl
  | shed p =>
    have h : k.setChannel p ((k.channel p).shedFrom e.slot) = k.shedWhere e.slot fun q => decide (q = p) := by
      cases p <;> rfl
    rw [h]
    exact .one (.sheds _)

theorem Cavity.unlockLowered_moves : k.Moves e closed (k.unlockLowered e) := by
  unfold Cavity.unlockLowered
  split
  · exact .refl k
  · exact .lockChanged _

end Moves

end Sys2Proof.Machine

namespace Sys2Proof.Machine

/-! ## The heat law -/

/-- What the heat law asks of one cavity. -/
def Cavity.heatLawful (slot : Option Nat) (k : Cavity) : Prop :=
  (∀ p : Position, (k.channel p).lawful slot (k.cc.state.allows p) ∧
    ((k.channel p).relay = true → k.cc.state.allows p = true)) ∧
  (k.fan.catalyst = true → k.cc.state = .cleaning)

theorem State.heatLaw_iff (s : State) : s.HeatLaw ↔ ∀ c, (s.cav c).heatLawful s.sched.slot := Iff.rfl

section Channel
variable {slot : Option Nat} {a b : Bool} {ch : Channel}

theorem Channel.lawful_blank (hr : ch.relay = false) (hp : ch.placements = []) : ch.lawful slot a := by
  refine ⟨fun h => absurd h (by simp [hr]), fun h => ?_⟩
  cases slot <;> simp [Channel.holdsFrom, hp] at h

/-- A lawful channel with its relay closed holds a placement in the current slot. -/
theorem Channel.lawful.holds_of_relay (h : ch.lawful slot a) (hr : ch.relay = true) :
    ch.holdsFrom slot = true := by
  obtain ⟨j, hj, hmem⟩ := h.1 hr
  obtain rfl : slot = some j := hj
  exact List.any_eq_true.2 ⟨j, by simpa using hmem, by simp⟩

theorem Channel.lawful.allowed_of_relay (h : ch.lawful slot a) (hr : ch.relay = true) : a = true :=
  h.2 (h.holds_of_relay hr)

/-- A shed leaves a lawful channel lawful, whatever the state allows after it. -/
theorem Channel.lawful.shedFrom (h : ch.lawful slot a) : (ch.shedFrom slot).lawful slot b := by
  refine ⟨fun hr => ?_, fun hh => by simp at hh⟩
  by_cases hh : ch.holdsFrom slot = true
  · cases slot with
    | none => simp [Channel.holdsFrom] at hh
    | some j =>
      have hany : (ch.placements.any fun i => decide (j ≤ i)) = true := hh
      simp [Channel.shedFrom, hany] at hr
  · rw [Channel.shedFrom_of_not_holdsFrom ch (by simpa using hh)] at hr
    exact absurd (h.holds_of_relay hr) hh

end Channel

section HeatMoves
variable {e : Env} {closed : Prop} {slot : Option Nat} {k m : Cavity}

/-- The channels and the catalyst command suffice: a closed relay is placed in the current slot. -/
theorem Cavity.heatLawful_of (h : ∀ p, (k.channel p).lawful slot (k.cc.state.allows p))
    (hc : k.fan.catalyst = true → k.cc.state = .cleaning) : k.heatLawful slot :=
  ⟨fun p => ⟨h p, (h p).allowed_of_relay⟩, hc⟩

theorem Cavity.channel_course (p : Position) : k.course.channel p = k.channel p := by cases p <;> rfl

theorem Cavity.heatLawful_of_course (hm : m.course = k.course) (h : k.heatLawful slot) :
    m.heatLawful slot := by
  have hk : k.course.heatLawful slot :=
    ⟨fun p => by rw [Cavity.channel_course]; exact h.1 p, h.2⟩
  rw [← hm] at hk
  exact ⟨fun p => by rw [← Cavity.channel_course]; exact hk.1 p, hk.2⟩

/-- A shed of some channels, with a state that allows the others. -/
theorem Cavity.heatLawful.shedWhere {q : Position → Bool} (h : k.heatLawful slot) (hs : ∀ p,
    (m.channel p) = if q p then (k.channel p).shedFrom slot else k.channel p)
    (hq : ∀ p, q p = false → k.cc.state.allows p = true → m.cc.state.allows p = true)
    (hc : m.fan.catalyst = true → m.cc.state = .cleaning) : m.heatLawful slot := by
  refine Cavity.heatLawful_of (fun p => ?_) hc
  rw [hs]
  split
  · exact (h.1 p).1.shedFrom
  next hqp => exact ⟨(h.1 p).1.1, fun hh => hq p (by simpa using hqp) ((h.1 p).1.2 hh)⟩

theorem Cavity.heatLawful.entered (st : CavState) (h : k.heatLawful e.slot) :
    (k.entered e st).heatLawful e.slot := by
  refine h.shedWhere (q := fun p => !st.allows p) (fun p => by cases p <;> rfl) (fun p hp _ => ?_) fun hc => ?_
  · simpa [Cavity.entered, Controller.enter] using hp
  · simp only [Cavity.entered, Bool.and_eq_true, decide_eq_true_eq] at hc
    exact hc.2

/-- Channels, state and catalyst command as they were. -/
theorem Cavity.heatLawful.same (h : k.heatLawful slot) (hch : ∀ p, m.channel p = k.channel p)
    (hs : m.cc.state = k.cc.state) (hc : m.fan.catalyst = k.fan.catalyst) : m.heatLawful slot := by
  refine ⟨fun p => ?_, ?_⟩
  · rw [hch, hs]
    exact h.1 p
  · rw [hs, hc]
    exact h.2

theorem Cavity.heatLawful.clearProgram (h : k.heatLawful slot) : k.clearProgram.heatLawful slot :=
  h.same (fun p => by cases p <;> rfl) rfl rfl

theorem Cavity.heatLawful.tripped (h : k.heatLawful e.slot) : (k.tripped e).heatLawful e.slot := by
  unfold Cavity.tripped
  split
  · exact (h.entered .faulted).clearProgram
  · exact h.entered .faulted

/-- The program's ways onward, from CLEANING. -/
theorem Cavity.Onward.heatLawful (ho : k.Onward e m) (hk : k.cc.state = .cleaning)
    (h : k.heatLawful e.slot) : m.heatLawful e.slot := by
  cases ho with
  | @segment _ j _ _ hm =>
    refine Cavity.heatLawful_of_course hm (h.shedWhere (q := fun p => !(e.segs.at j).heats p) (fun p => ?_)
      (fun _ _ ha => ha) fun _ => hk)
    rw [Cavity.enterSegment_channel]
    cases (e.segs.at j).heats p <;> rfl
  | cool hm => exact Cavity.heatLawful_of_course hm (h.entered .cooldown).clearProgram
  | trip hm => exact Cavity.heatLawful_of_course hm h.tripped

/-- Every change of the course keeps the heat law. -/
theorem Cavity.Move.heatLawful (hmove : k.Move e closed m) (h : k.heatLawful e.slot) :
    m.heatLawful e.slot := by
  cases hmove with
  | same hm => exact Cavity.heatLawful_of_course hm h
  | enter st _ _ _ hm => exact Cavity.heatLawful_of_course hm (h.entered st)
  | trip hm => exact Cavity.heatLawful_of_course hm h.tripped
  | cool _ hm => exact Cavity.heatLawful_of_course hm (h.entered .cooldown).clearProgram
  | hold _ hm => exact Cavity.heatLawful_of_course hm (h.entered .held)
  | resume _ v hm =>
    refine Cavity.heatLawful_of_course hm (Cavity.heatLawful_of (fun p => ?_) fun _ => rfl)
    exact ((h.entered .cleaning).1 p).1
  | begins _ ho =>
    have hin : (k.enterState e .cleaning).heatLawful e.slot :=
      Cavity.heatLawful_of_course (Cavity.enterState_course ..) (h.entered .cleaning)
    exact ho.heatLawful rfl (hin.same (fun p => by cases p <;> rfl) rfl rfl)
  | onward hk ho => exact ho.heatLawful hk h
  | sheds q =>
    exact h.shedWhere (fun p => by cases p <;> rfl) (fun _ _ ha => ha) h.2
  | mark _ held d _ hm => exact Cavity.heatLawful_of_course hm (h.same (fun p => by cases p <;> rfl) rfl rfl)
  | starve n _ hm => exact Cavity.heatLawful_of_course hm (h.same (fun p => by cases p <;> rfl) rfl rfl)
  | recovers _ hm =>
    refine Cavity.heatLawful_of_course hm (Cavity.heatLawful.entered .unlocking ?_)
    exact h.same (fun p => by cases p <;> rfl) rfl rfl
  | select | cook | figures | recovered => exact h.same (fun p => by cases p <;> rfl) rfl rfl

theorem Cavity.Moves.heatLawful (hm : k.Moves e closed m) (h : k.heatLawful e.slot) :
    m.heatLawful e.slot := by
  induction hm with
  | refl => exact h
  | tail _ hl ih => exact hl.heatLawful ih

end HeatMoves

/-! ### Every kind of change keeps the heat law -/

section HeatShifts
variable {s t : State}

/-- What holds of every cavity holds after one is replaced by a cavity that it holds of. -/
theorem State.forall_setCav {P : CavNo → Cavity → Prop} {c : CavNo} {k : Cavity} (h : ∀ d, P d (s.cav d))
    (hk : P c k) (d : CavNo) : P d ((s.setCav c k).cav d) := by
  by_cases hd : d = c
  · subst hd
    rwa [State.cav_setCav_same]
  · rw [State.cav_setCav_other _ _ _ hd]
    exact h d

theorem State.HeatLaw.setCav {c : CavNo} {k : Cavity} (h : s.HeatLaw) (hk : k.heatLawful s.sched.slot) :
    (s.setCav c k).HeatLaw := by
  rw [State.heatLaw_iff, State.setCav_sched]
  exact State.forall_setCav (P := fun _ k => k.heatLawful s.sched.slot) h hk

theorem Cavity.state_of_heatWanted {e : Env} {k : Cavity} {p : Position} (h : k.heatWanted e p = true) :
    k.cc.state = .cleaning ∨ k.cc.state = .cooking := by
  unfold Cavity.heatWanted at h
  split at h
  next hs => exact .inr hs
  next hs _ => exact .inl hs
  next => exact absurd h (by decide)

/-- The catalyst command on is demand of the CAT channel in CLEANING alone, and a heating channel has demand
only where the state allows it. -/
theorem Cavity.allows_of_channelDemand {e : Env} {k : Cavity} {p : Position}
    (hc : k.fan.catalyst = true → k.cc.state = .cleaning) (h : k.channelDemand e p ≠ 0) :
    k.cc.state.allows p = true := by
  rw [CavState.allows_iff]
  cases p
  case cat =>
    refine .inl (hc ?_)
    by_contra hoff
    exact h (by simp [Cavity.channelDemand, hoff])
  all_goals
    simp only [Cavity.channelDemand, ne_eq, ite_eq_left_iff, Classical.not_imp, ite_eq_right_iff] at h
    obtain ⟨-, hw, -⟩ := h
    obtain hs | hs := Cavity.state_of_heatWanted hw
    · exact .inl hs
    · exact .inr ⟨hs, by decide⟩

/-- The channels of a new window. -/
theorem Cavity.NewlyPlaced.heatLawful {e : Env} {slot : Option Nat} {k m : Cavity} (h : k.NewlyPlaced e m)
    (hc : k.fan.catalyst = true → k.cc.state = .cleaning) : m.heatLawful slot := by
  obtain ⟨hm, hch⟩ := h
  have hs : m.cc.state = k.cc.state := by rw [hm]
  have hcat : m.fan.catalyst = k.fan.catalyst := by rw [hm]
  refine Cavity.heatLawful_of (fun p => ⟨fun hr => ?_, fun hh => ?_⟩) (by rw [hs, hcat]; exact hc)
  · exact absurd hr (by simp [(hch p).1])
  · rw [hs]
    refine Cavity.allows_of_channelDemand hc ((hch p).2 fun hnil => ?_)
    cases slot <;> simp [Channel.holdsFrom, hnil] at hh

theorem State.beginSlot_slot (s : State) (j : Nat) : (s.beginSlot j).sched.slot = some j := by
  unfold State.beginSlot
  rw [State.onCavs_slot]

theorem State.beginSlot_cav (s : State) (j : Nat) (c : CavNo) :
    (s.beginSlot j).cav c = (s.cav c).mapChannels fun _ ch => ch.setRelay j := by
  unfold State.beginSlot
  rw [State.onCavs_cav, State.cav_withSched]

/-- A slot begins: what is placed from it on was placed from an earlier one on. -/
theorem Channel.lawful.setRelay {i j : Nat} {a : Bool} {ch : Channel} (h : ch.lawful (some i) a) (hij : i ≤ j) :
    (ch.setRelay j).lawful (some j) a := by
  refine ⟨fun hr => ⟨j, rfl, hr⟩, fun hh => h.2 ?_⟩
  obtain ⟨n, hn, hle⟩ := List.any_eq_true.1 hh
  simp only [decide_eq_true_eq] at hle
  exact List.any_eq_true.2 ⟨n, hn, by simpa using hij.trans hle⟩

theorem Cavity.heatLawful_cavityAtStart (fitted : Bool) (sw : SwitchPositions) (slot : Option Nat) :
    (cavityAtStart fitted sw).heatLawful slot :=
  Cavity.heatLawful_of (fun p => by cases p <;> exact Channel.lawful_blank rfl rfl) nofun

/-- What a value stored at the fitted count changes. -/
theorem State.storeFitted_eq (s : State) (v : Nat) :
    (s.storeFitted v).segs = s.segs ∧ (s.storeFitted v).sched = s.sched ∧ (s.storeFitted v).link = s.link ∧
      (s.storeFitted v).cfg = s.cfg.set .fittedCount v ∧
      ∀ c, (s.storeFitted v).cav c = if s.fitted c = (s.storeFitted v).fitted c then s.cav c
        else (s.cav c).refit ((s.storeFitted v).fitted c) := by
  let u : State := { s with cfg := s.cfg.set .fittedCount v }
  let one (t : State) (c : CavNo) : State :=
    if s.fitted c = u.fitted c then t else t.onCav c fun _ k => k.refit (u.fitted c)
  have hone (t : State) (c : CavNo) : (one t c).segs = t.segs ∧ (one t c).sched = t.sched ∧
      (one t c).link = t.link ∧ (one t c).cfg = t.cfg ∧ ∀ d, (one t c).cav d =
        if d = c ∧ s.fitted c ≠ u.fitted c then (t.cav d).refit (u.fitted c) else t.cav d := by
    simp only [one]
    split
    next h => simp [h]
    next h =>
      refine ⟨by simp [State.onCav], by simp [State.onCav], by simp [State.onCav], by simp [State.onCav],
        fun d => ?_⟩
      by_cases hd : d = c
      · subst hd
        rw [if_pos ⟨rfl, h⟩, State.onCav, State.cav_setCav_same]
      · rw [if_neg (fun hdc => hd hdc.1), State.onCav, State.cav_setCav_other _ _ _ hd]
  have ht : s.storeFitted v = one (one (one u 0) 1) 2 := rfl
  obtain ⟨ha0, hb0, hc0, hd0, he0⟩ := hone u 0
  obtain ⟨ha1, hb1, hc1, hd1, he1⟩ := hone (one u 0) 1
  obtain ⟨ha2, hb2, hc2, hd2, he2⟩ := hone (one (one u 0) 1) 2
  rw [ht]
  have hfit (c : CavNo) : (one (one (one u 0) 1) 2).fitted c = u.fitted c := by
    simp only [State.fitted, hd2, hd1, hd0]
  refine ⟨by rw [ha2, ha1, ha0], by rw [hb2, hb1, hb0], by rw [hc2, hc1, hc0], by rw [hd2, hd1, hd0], ?_⟩
  have hnone (c : CavNo) : u.cav c = s.cav c := State.cav_cases (P := fun c => u.cav c = s.cav c) rfl rfl rfl c
  refine State.cav_cases ?_ ?_ ?_ <;> rw [hfit, he2, he1, he0, hnone] <;> simp

/-- What a value stored at the unlock level changes. -/
theorem State.storeUnlock_eq (s : State) (v : Nat) :
    let t := s.storeSetting .unlockLevel v
    t.segs = s.segs ∧ t.sched = s.sched ∧ t.link = s.link ∧ t.cfg = s.cfg.set .unlockLevel v ∧
      ∀ c, t.cav c = s.cav c ∧ s.cfg.limits.unlockLevel ≤ v ∨
      v < s.cfg.limits.unlockLevel ∧
        t.cav c = (s.cav c).unlockLowered (({ s with cfg := s.cfg.set .unlockLevel v } : State).env c) := by
  have hcav : ∀ c, ({ s with cfg := s.cfg.set .unlockLevel v } : State).cav c = s.cav c :=
    State.cav_cases rfl rfl rfl
  simp only [State.storeSetting]
  split
  next h =>
    refine ⟨by simp [State.onCavs, State.onCav], by simp [State.onCavs, State.onCav],
      by simp [State.onCavs, State.onCav], by simp [State.onCavs, State.onCav], fun c => .inr ⟨h, ?_⟩⟩
    rw [State.onCavs_cav, hcav]
  next h => exact ⟨rfl, rfl, rfl, rfl, fun c => .inl ⟨hcav c, not_lt.1 h⟩⟩

/-- Every kind of change keeps the heat law. -/
theorem State.Shift.heatLaw (h : State.Shift s t) (hs : s.HeatLaw) : t.HeatLaw := by
  cases h with
  | aside hf hc =>
    rw [State.heatLaw_iff, hf.slot]
    intro c
    rw [hc]
    exact hs c
  | opens h l hl => exact hs
  | order c hf ho h => exact hs.setCav ((h.moves (closed := False) id).heatLawful (hs c))
  | event c hf h => exact hs.setCav ((h.moves (closed := False)).heatLawful (hs c))
  | common c h => exact hs.setCav ((h.moves (closed := False)).heatLawful (hs c))
  | follows c hf sw active =>
    exact hs.setCav (Cavity.heatLawful.same (hs c) (fun p => by cases p <;> rfl) rfl rfl)
  | followsDoor c hf cl =>
    exact hs.setCav (Cavity.heatLawful.same (hs c) (fun p => by cases p <;> rfl) rfl rfl)
  | unlock v =>
    obtain ⟨-, hsched, -, -, hc⟩ := s.storeUnlock_eq v
    rw [State.heatLaw_iff, hsched]
    intro c
    obtain ⟨h, -⟩ | ⟨-, h⟩ := hc c
    · rw [h]
      exact hs c
    · rw [h]
      exact (Cavity.unlockLowered_moves (closed := False)
        (e := ({ s with cfg := s.cfg.set .unlockLevel v } : State).env c)).heatLawful (hs c)
  | fits v hidle =>
    obtain ⟨-, hsched, -, -, hc⟩ := s.storeFitted_eq v
    rw [State.heatLaw_iff, hsched]
    intro c
    rw [hc]
    split
    · exact hs c
    · exact Cavity.heatLawful_of (fun p => by
        have := ((hs c).1 p).1
        rw [hidle c] at this
        cases p <;> exact this) nofun
  | segment g _ => exact hs
  | window segs slot cfg link h =>
    rw [State.heatLaw_iff, slot]
    exact fun c => (h c).heatLawful (hs c).2
  | slot hi hij =>
    rw [State.heatLaw_iff]
    intro c
    rw [State.beginSlot_cav, State.beginSlot_slot]
    refine Cavity.heatLawful_of (fun p => ?_) (hs c).2
    rw [Cavity.channel_mapChannels]
    have := ((hs c).1 p).1
    rw [hi] at this
    exact this.setRelay hij
  | dropout segs slot cfg link h =>
    rw [State.heatLaw_iff, slot]
    intro c
    rw [h]
    refine Cavity.heatLawful_of (fun p => ⟨fun hr => ?_, nofun⟩) (hs c).2
    cases p <;> cases hr
  | starts inp =>
    exact State.cav_cases (P := fun c => Cavity.heatLawful none (((s.startUp inp)).cav c))
      (Cavity.heatLawful_cavityAtStart ..) (Cavity.heatLawful_cavityAtStart ..)
      (Cavity.heatLawful_cavityAtStart ..)

/-- Settles O7, change by change of what a step is made of. -/
theorem heatLawIsKept : Obligations.HeatLawIsKept := by
  unfold Obligations.HeatLawIsKept
  exact fun s t h hs => step_keeps (fun _ _ => State.Shift.heatLaw) h hs

end HeatShifts

end Sys2Proof.Machine

namespace Sys2Proof.Machine

/-! ## Unfitted cavities stay at their start-up values -/

section Unfitted
variable {s t : State} {e : Env} {k m : Cavity}

/-- A lock at rest by its switches stands in no travel. -/
theorem Lock.travelling_fromSwitches (l : Lock) : l.fromSwitches.state.travelling = false := by
  unfold Lock.fromSwitches Lock.rest lockStateOf
  cases l.lockedSw <;> cases l.openSw <;> rfl

/-- What a lock at rest by its switches makes of mains and of time. -/
theorem Lock.mainsGone_of_rest {l : Lock} (h : l = l.fromSwitches) : l.mainsGone = l.mainsGone.fromSwitches := by
  have ht : l.state.travelling = false := by rw [h]; exact l.travelling_fromSwitches
  rw [show l.mainsGone = { l with mains := false } by simp [Lock.mainsGone, ht]]
  exact congrArg (fun l : Lock => { l with mains := false }) h

theorem Lock.mainsBack_of_rest {l : Lock} {v : LockEnv} (h : l = l.fromSwitches) :
    l.mainsBack v = ({ l with mains := true }, []) := by
  have ht : l.state.travelling = false := by rw [h]; exact l.travelling_fromSwitches
  clear h
  unfold Lock.mainsBack
  cases hs : l.state <;> simp_all [LockState.travelling]

theorem Lock.stopOpenDrive_of_rest {l : Lock} (h : l = l.fromSwitches) : l.stopOpenDrive = (l, []) := by
  have hm : l.motor ≠ .towardOpen := by rw [h]; exact nofun
  exact if_neg hm

/-- Nothing trips where no condition is present. -/
theorem Cavity.decideAmong_of_no_cond (asked : Condition → Bool) (h : k.cond.present = 0) :
    k.decideAmong e asked = k := by
  unfold Cavity.decideAmong
  rw [List.filter_eq_nil_iff.2 fun c _ => by simp [h, CondSet.has_zero]]

/-- What every cavity takes alike leaves start-up values as they are. -/
theorem Cavity.Common.atStartUp (h : k.Common e m) (hk : k.atStartUp) : m.atStartUp := by
  obtain ⟨hcc, hprb, hfan, hcond, hstarve, hlock⟩ := hk
  cases h with
  | clearEvents => exact ⟨by simp [Cavity.clearEvents, hcc], hprb, hfan, hcond, hstarve, hlock⟩
  | clampClean => exact ⟨by simp [Cavity.clampClean, hcc], hprb, hfan, hcond, hstarve, hlock⟩
  | clampCook =>
    rw [show k.clampCook e = k by simp [Cavity.clampCook, hcc]]
    exact ⟨hcc, hprb, hfan, hcond, hstarve, hlock⟩
  | enables old =>
    rw [show k.enablesWritten old e = k from Cavity.decideAmong_of_no_cond _ (by rw [hcond])]
    exact ⟨hcc, hprb, hfan, hcond, hstarve, hlock⟩
  | starve =>
    rw [show k.moveStarve e = ({ k with starve := 0 } : Cavity).absent .starved by
      simp [Cavity.moveStarve, hcc]]
    exact ⟨hcc, hprb, hfan, by simp only [Cavity.absent, hcond]; decide, rfl, hlock⟩
  | mainsBack =>
    rw [show k.mainsBack e = { k with lock := { k.lock with mains := true } } by
      rw [Cavity.mainsBack, Lock.mainsBack_of_rest hlock]
      rfl]
    exact ⟨hcc, hprb, hfan, hcond, hstarve, congrArg (fun l : Lock => { l with mains := true }) hlock⟩
  | pass =>
    refine ⟨hcc, hprb, ?_, hcond, hstarve, congrArg (fun l : Lock => { l with timer := l.timer.pass }) hlock⟩
    simp only [Cavity.passTime, hfan]
    rfl
  | shed p => cases p <;> exact ⟨hcc, hprb, hfan, hcond, hstarve, hlock⟩

theorem State.beginSlot_cfg (s : State) (j : Nat) : (s.beginSlot j).cfg = s.cfg := by
  simp [State.beginSlot, State.onCavs, State.onCav]

/-- A lowered unlock level leaves an unfitted cavity as it is. -/
theorem Cavity.unlockLowered_of_atStartUp (hk : k.atStartUp) : k.unlockLowered e = k := by
  obtain ⟨-, -, -, -, -, hlock⟩ := hk
  unfold Cavity.unlockLowered
  rw [Lock.stopOpenDrive_of_rest hlock]
  split <;> rfl

/-- A change of the channels alone. -/
theorem Cavity.atStartUp_of_channels {cat top base ring : Channel} (hk : k.atStartUp) (h : m =
    { k with cat := cat, top := top, base := base, ring := ring }) : m.atStartUp := by
  rw [h]
  exact hk

/-- Every kind of change keeps unfitted cavities at their start-up values. -/
theorem State.Shift.unfittedLaw (h : State.Shift s t) (hs : s.UnfittedLaw) : t.UnfittedLaw := by
  have setCav {c : CavNo} {k : Cavity} (hk : s.fitted c = false → k.atStartUp) :
      (s.setCav c k).UnfittedLaw := by
    intro d hd
    rw [State.fitted, State.setCav_cfg] at hd
    exact State.forall_setCav (P := fun d k => s.fitted d = false → k.atStartUp) hs hk d hd
  cases h with
  | aside hf hc =>
    intro c hc'
    rw [State.fitted, hf.fitted] at hc'
    rw [hc]
    exact hs c hc'
  | opens h l hl => exact hs
  | order c hf ho h => exact setCav fun hc => absurd hf (by simp [hc])
  | event c hf h => exact setCav fun hc => absurd hf (by simp [hc])
  | common c h => exact setCav fun hc => h.atStartUp (hs c hc)
  | follows c hf sw active =>
    obtain ⟨hcc, hprb, hfan, hcond, hstarve, -⟩ := hs c hf
    exact setCav fun _ => ⟨hcc, hprb, hfan, hcond, hstarve, rfl⟩
  | followsDoor c hf cl =>
    obtain ⟨hcc, hprb, hfan, hcond, hstarve, hlock⟩ := hs c hf
    exact setCav fun _ => ⟨hcc, hprb, hfan, hcond, hstarve,
      congrArg (fun l : Lock => { l with doorClosed := cl }) hlock⟩
  | unlock v =>
    obtain ⟨-, -, -, hcfg, hc⟩ := s.storeUnlock_eq v
    intro c hf
    rw [State.fitted, hcfg] at hf
    obtain ⟨h, -⟩ | ⟨-, h⟩ := hc c
    · rw [h]
      exact hs c hf
    · rw [h, Cavity.unlockLowered_of_atStartUp (hs c hf)]
      exact hs c hf
  | fits v hidle =>
    obtain ⟨-, -, -, -, hc⟩ := s.storeFitted_eq v
    intro c hf
    rw [hc, hf]
    split
    next h => exact hs c h
    next => exact ⟨rfl, rfl, rfl, rfl, rfl, rfl⟩
  | segment g _ => exact hs
  | window segs slot cfg link h =>
    intro c hf
    rw [State.fitted, cfg] at hf
    exact Cavity.atStartUp_of_channels (hs c hf) (h c).1
  | slot hi hij =>
    intro c hf
    rw [State.fitted, State.beginSlot_cfg] at hf
    rw [State.beginSlot_cav]
    exact Cavity.atStartUp_of_channels (hs c hf) rfl
  | dropout segs slot cfg link h =>
    intro c hf
    rw [State.fitted, cfg] at hf
    rw [h]
    obtain ⟨hcc, hprb, hfan, hcond, hstarve, hlock⟩ := hs c hf
    exact ⟨hcc, hprb, hfan, hcond, hstarve, Lock.mainsGone_of_rest hlock⟩
  | starts inp =>
    have hk {fitted : Bool} (h : fitted = false) (sw : SwitchPositions) : (cavityAtStart fitted sw).atStartUp := by
      subst h
      exact ⟨rfl, rfl, rfl, rfl, rfl, rfl⟩
    exact State.cav_cases (P := fun c => (s.startUp inp).fitted c = false → ((s.startUp inp).cav c).atStartUp)
      (fun h => hk h _) (fun h => hk h _) (fun h => hk h _)

end Unfitted

end Sys2Proof.Machine

namespace Sys2Proof.Machine

/-! ## The place in the program -/

/-- A cavity whose recovery is still to come stands IDLE or FAULTED behind a closed link. -/
def Cavity.RecoversLate (closed : Prop) (k : Cavity) : Prop :=
  k.cc.recovering = true → closed ∧ (k.cc.state = .idle ∨ k.cc.state = .faulted)

/-- The timed segment that a cavity in its program stands in. -/
def Cavity.InSegment (g : SegStore) (k : Cavity) : Prop :=
  (∃ i ∈ k.cc.segIndex, i < 64 ∧ (g.at i).kind.timed ∧ (g.at i).complete = true ∧
    (k.cc.direction ≠ none ↔ (g.at i).kind = .ramp) ∧
    (k.prb.mark ≠ none → k.cc.markHeld = false ∧ (g.at i).kind.marks)) ∧
  k.cc.stack.length ≤ 3 ∧ (∀ j ∈ k.cc.stack, 1 ≤ j ∧ j ≤ 64)

/-- The program fields at their start-up values. -/
def Cavity.OutOfProgram (k : Cavity) : Prop :=
  k.cc.segIndex = none ∧ k.cc.stack = [] ∧ k.cc.elapsed = 0 ∧ k.cc.soak = 0 ∧ k.cc.direction = none ∧
    k.cc.arrived = false ∧ k.cc.markHeld = false ∧ k.prb.mark = none ∧ k.starve = 0

/-- The fields that stand only in their states. -/
def Controller.FieldsFit (cc : Controller) : Prop :=
  (cc.startSeg ≠ none → cc.state = .locking) ∧
    (cc.state ≠ .cooking → cc.cookSetpoint = 0 ∧ cc.cookSet = 0) ∧
    (cc.state.heats = false → cc.demand = 0) ∧ (cc.state.zeroSpeff = true → cc.speff = 0)

section Placed
variable {g : SegStore} {e : Env} {closed : Prop} {k m : Cavity}

theorem Cavity.placed.inSegment (h : k.placed g) (hs : k.cc.state.inProgram) : k.InSegment g := by
  have h := h.1
  rwa [if_pos hs] at h

theorem Cavity.placed.outOfProgram (h : k.placed g) (hs : ¬ k.cc.state.inProgram) : k.OutOfProgram := by
  have h := h.1
  rwa [if_neg hs] at h

theorem Cavity.placed.fields (h : k.placed g) : k.cc.FieldsFit := h.2

theorem Cavity.placed_of_inSegment (hs : k.cc.state.inProgram) (h : k.InSegment g) (hf : k.cc.FieldsFit) :
    k.placed g := ⟨by rwa [if_pos hs], hf⟩

theorem Cavity.placed_of_out (hs : ¬ k.cc.state.inProgram) (h : k.OutOfProgram) (hf : k.cc.FieldsFit) :
    k.placed g := ⟨by rwa [if_neg hs], hf⟩

theorem Cavity.placed_of_course (hm : m.course = k.course) (h : k.placed g) : m.placed g := by
  have hk : k.course.placed g := h
  rw [← hm] at hk
  exact hk

/-- The entry of a state leaves every field that stands only in its state. -/
theorem Controller.FieldsFit.enter {cc : Controller} (st : CavState) (h : cc.FieldsFit) :
    (cc.enter st).FieldsFit := by
  obtain ⟨hstart, -, -, -⟩ := h
  refine ⟨fun hs => ?_, fun hs => ?_, fun hs => ?_, fun hs => ?_⟩
  · by_contra hne
    exact hs (if_neg hne)
  · exact ⟨if_neg hs, if_neg hs⟩
  · exact if_neg (by simpa [Controller.enter] using hs)
  · exact if_pos hs

theorem CavState.not_inProgram_of_keepsStarve {st : CavState} (h : ¬ st.inProgram) : st.keepsStarve = false := by
  cases st <;> simp_all [CavState.keepsStarve]

/-- A state outside the program entered from outside it. -/
theorem Cavity.placed.entered_out {st : CavState} (h : k.placed g) (hk : ¬ k.cc.state.inProgram)
    (hst : ¬ st.inProgram) : (k.entered e st).placed g := by
  obtain ⟨hseg, hstack, hel, hso, hdir, harr, hheld, hmark, hstarve⟩ := h.outOfProgram hk
  refine Cavity.placed_of_out hst ⟨hseg, hstack, hel, hso, hdir, harr, hheld, hmark, ?_⟩ (h.fields.enter st)
  simp [Cavity.entered, hstarve]

/-- A state outside the program entered with the program cleared. -/
theorem Cavity.placed_entered_cleared {st : CavState} (h : k.cc.FieldsFit) (hst : ¬ st.inProgram) :
    (k.entered e st).clearProgram.placed g := by
  refine Cavity.placed_of_out hst ⟨rfl, rfl, rfl, rfl, rfl, rfl, rfl, rfl, ?_⟩ (h.enter st)
  exact if_neg (by simp [CavState.not_inProgram_of_keepsStarve hst])

theorem Cavity.placed.tripped (h : k.placed g) : (k.tripped e).placed g := by
  unfold Cavity.tripped
  split
  next hs => exact Cavity.placed_entered_cleared h.fields (by decide)
  next hs => exact h.entered_out (by simpa [not_or] using hs) (by decide)

/-! ### Resolution -/

/-- A call stack as R36 has it. -/
def StackFits (stack : List Nat) : Prop := stack.length ≤ 3 ∧ ∀ j ∈ stack, 1 ≤ j ∧ j ≤ 64

/-- A segment entered by a resolution is a complete timed one below 64, with a stack in its bounds. -/
theorem examine_entered {i j : Nat} {stack stack' : List Nat}
    (h : examine g i stack = .stop (.entered j stack')) :
    j < 64 ∧ (g.at j).kind.timed ∧ (g.at j).complete = true ∧ stack' = stack := by
  unfold examine at h
  split at h
  · cases h
  next hi =>
    dsimp only at h
    split at h <;> try split at h
    all_goals cases h
    next hempty hfinish hlink hcall hret hc =>
      refine ⟨not_le.1 hi, ?_, hc, rfl⟩
      cases hkind : (g.at i).kind <;> simp_all [SegKind.timed]

theorem examine_move {i j : Nat} {stack stack' : List Nat} (hs : StackFits stack)
    (h : examine g i stack = .move j stack') : StackFits stack' := by
  obtain ⟨hlen, hmem⟩ := hs
  unfold examine at h
  split at h
  · cases h
  next hi =>
    dsimp only at h
    split at h
    · cases h
    · cases h
    · cases h
      exact ⟨hlen, hmem⟩
    · split at h
      next hd =>
        cases h
        refine ⟨by simpa [Config.maxDepth] using hd, fun j hj => ?_⟩
        obtain hj | hj := List.mem_append.1 hj
        · exact hmem j hj
        · obtain rfl := List.mem_singleton.1 hj
          omega
      next => cases h
    · split at h
      next j hlast =>
        cases h
        exact ⟨by simp; omega, fun j hj => hmem j (List.mem_of_mem_dropLast hj)⟩
      next => cases h
    · split at h <;> cases h

theorem resolve_entered {n i j : Nat} {stack stack' : List Nat} (hs : StackFits stack)
    (h : resolve g n i stack = .entered j stack') :
    j < 64 ∧ (g.at j).kind.timed ∧ (g.at j).complete = true ∧ StackFits stack' := by
  induction n generalizing i stack with
  | zero =>
    unfold resolve at h
    split at h
    next r hr =>
      subst h
      obtain ⟨hj, ht, hc, rfl⟩ := examine_entered hr
      exact ⟨hj, ht, hc, hs⟩
    next => cases h
  | succ n ih =>
    unfold resolve at h
    split at h
    next r hr =>
      subst h
      obtain ⟨hj, ht, hc, rfl⟩ := examine_entered hr
      exact ⟨hj, ht, hc, hs⟩
    next hm => exact ih (examine_move hs hm) h
    next => cases h

/-- A timed segment entered from CLEANING. -/
theorem Cavity.placed_enterSegment {i j : Nat} {stack : List Nat} (hk : k.cc.state = .cleaning)
    (hf : k.cc.FieldsFit) (hs : StackFits k.cc.stack) (hr : resolve e.segs 6 i k.cc.stack = .entered j stack) :
    (k.enterSegment e j stack).placed e.segs := by
  obtain ⟨hj, ht, hc, hst⟩ := resolve_entered hs hr
  refine Cavity.placed_of_inSegment (.inl hk) ⟨⟨j, rfl, hj, ht, hc, ?_, fun hm => ⟨rfl, ?_⟩⟩, hst⟩ hf
  · show e.rampDir (e.segs.at j) k.cc.speff ≠ none ↔ _
    unfold Env.rampDir
    split <;> simp_all
  · have hm : e.arming (e.segs.at j) k.cc.speff ≠ none := hm
    unfold Env.arming at hm
    split at hm
    next hkind _ => exact .inl hkind
    next hkind _ => exact .inl hkind
    next hkind => exact .inr hkind
    next => exact absurd rfl hm

/-! ### The changes of the course -/

/-- The program's ways onward. -/
theorem Cavity.Onward.placed (ho : k.Onward e m) (hk : k.cc.state = .cleaning) (hf : k.cc.FieldsFit)
    (hs : StackFits k.cc.stack) : m.placed e.segs := by
  cases ho with
  | segment hr hm => exact Cavity.placed_of_course hm (Cavity.placed_enterSegment hk hf hs hr)
  | cool hm => exact Cavity.placed_of_course hm (Cavity.placed_entered_cleared hf (by decide))
  | trip hm =>
    refine Cavity.placed_of_course hm ?_
    rw [Cavity.tripped, hk]
    exact Cavity.placed_entered_cleared hf (by decide)

/-- The record with which a cycle begins is fit for the program. -/
theorem Cavity.begun_fits (hf : k.cc.FieldsFit) :
    (k.begun e).cc.FieldsFit ∧ StackFits (k.begun e).cc.stack := by
  rw [Cavity.begun_eq]
  obtain ⟨-, -, -, -⟩ := hf
  exact ⟨⟨fun h => absurd rfl h, fun _ => ⟨rfl, rfl⟩, nofun, nofun⟩, Nat.zero_le 3, nofun⟩

/-- A cavity in its program with another part of it kept. -/
theorem Cavity.placed.keeps (h : k.placed g) (hs : m.cc.state = k.cc.state) (hseg : k.InSegment g → m.InSegment g)
    (hout : ¬ k.cc.state.inProgram → k.OutOfProgram → m.OutOfProgram)
    (hf : k.cc.FieldsFit → m.cc.FieldsFit) : m.placed g := by
  by_cases hp : k.cc.state.inProgram
  · exact Cavity.placed_of_inSegment (by rwa [hs]) (hseg (h.inSegment hp)) (hf h.fields)
  · exact Cavity.placed_of_out (by rwa [hs]) (hout hp (h.outOfProgram hp)) (hf h.fields)

/-- Every change of the course keeps the place in the program. -/
theorem Cavity.Move.placed (hm : k.Move e closed m) (h : k.placed e.segs) (hr : k.RecoversLate closed) :
    m.placed e.segs := by
  cases hm with
  | same hm => exact Cavity.placed_of_course hm h
  | enter st hk hst _ hm => exact Cavity.placed_of_course hm (h.entered_out hk hst)
  | trip hm => exact Cavity.placed_of_course hm h.tripped
  | cool _ hm => exact Cavity.placed_of_course hm (Cavity.placed_entered_cleared h.fields (by decide))
  | hold hk hm =>
    refine Cavity.placed_of_course hm (Cavity.placed_of_inSegment (.inr rfl) (h.inSegment (.inl hk)) ?_)
    exact h.fields.enter .held
  | resume hk v hm =>
    refine Cavity.placed_of_course hm (Cavity.placed_of_inSegment (.inl rfl) (h.inSegment (.inr hk)) ?_)
    obtain ⟨hstart, hcook, hheat, -⟩ := h.fields.enter .cleaning
    exact ⟨hstart, hcook, hheat, nofun⟩
  | begins hk ho => exact ho.placed rfl (Cavity.begun_fits h.fields).1 (Cavity.begun_fits h.fields).2
  | onward hk ho => exact ho.placed hk h.fields (h.inSegment (.inl hk)).2
  | select hk i =>
    refine h.keeps rfl id (fun _ => id) fun hf => ?_
    exact ⟨fun _ => hk, hf.2⟩
  | cook hk v speff set =>
    refine h.keeps rfl id (fun _ => id) fun hf => ?_
    obtain ⟨hstart, -, hheat, -⟩ := hf
    exact ⟨hstart, fun hne => absurd hk hne, hheat, fun hz => absurd hz (by rw [hk]; decide)⟩
  | sheds q => exact h
  | figures elapsed soak speff demand arrived hp hs hd =>
    refine h.keeps rfl id (fun hk ho => ?_) fun hf => ?_
    · obtain ⟨rfl, rfl, rfl⟩ := hp.resolve_left hk
      exact ho
    · obtain ⟨hstart, hcook, hheat, hzero⟩ := hf
      exact ⟨hstart, hcook, fun hh => Nat.le_zero.1 ((hd hh).trans_eq (hheat hh)),
        fun hz => Nat.le_zero.1 ((hs hz).trans_eq (hzero hz))⟩
  | mark hne held d hh hm => 
    refine Cavity.placed_of_course hm (h.keeps rfl (fun hi => ?_) (fun _ ho => ?_) id)
    · obtain ⟨⟨i, hi, hlt, ht, hc, hdir, hmark⟩, hst⟩ := hi
      refine ⟨⟨i, hi, hlt, ht, hc, hdir, fun hd => ?_⟩, hst⟩
      obtain ⟨hheld, hmarks⟩ := hmark hne
      exact ⟨(hh hd).trans hheld, hmarks⟩
    · obtain ⟨-, -, -, -, -, -, -, hnone, -⟩ := ho
      exact absurd hnone hne
  | starve n hn hm =>
    refine Cavity.placed_of_course hm (h.keeps rfl id (fun hk ho => ?_) id)
    obtain ⟨hseg, hstack, hel, hso, hdir, harr, hheld, hmark, -⟩ := ho
    exact ⟨hseg, hstack, hel, hso, hdir, harr, hheld, hmark, hn.resolve_left hk⟩
  | recovers hrec hm =>
    obtain ⟨-, hst⟩ := hr hrec
    have hk : ¬ k.cc.state.inProgram := by obtain hst | hst := hst <;> simp [hst]
    have h' : ({ k with cc := { k.cc with recovering := false } } : Cavity).placed e.segs := h
    exact Cavity.placed_of_course hm (h'.entered_out hk (by decide))
  | recovered => exact h

/-! ### Recovery waits behind a closed link -/

theorem Cavity.RecoversLate.keeps (h : k.RecoversLate closed) (hr : m.cc.recovering = k.cc.recovering)
    (hs : m.cc.state = k.cc.state) : m.RecoversLate closed := by
  unfold Cavity.RecoversLate
  rw [hr, hs]
  exact h

theorem Cavity.recoversLate_of_done (h : m.cc.recovering = false) : m.RecoversLate closed :=
  fun hr => absurd hr (by simp [h])

/-- Elsewhere than in IDLE and FAULTED no recovery is to come. -/
theorem Cavity.RecoversLate.done (h : k.RecoversLate closed) (hf : k.Free closed) : k.cc.recovering = false := by
  by_contra hr
  obtain ⟨hc, hs⟩ := h (by simpa using hr)
  exact hr (hf hc hs)

theorem Cavity.recovering_of_course (h : m.course = k.course) : m.cc.recovering = k.cc.recovering := by
  have := congrArg (fun z : Cavity => z.cc.recovering) h
  exact this

theorem Cavity.state_of_course (h : m.course = k.course) : m.cc.state = k.cc.state := by
  have := congrArg (fun z : Cavity => z.cc.state) h
  exact this

theorem Cavity.tripped_state : (k.tripped e).cc.state = .faulted ∧
    (k.tripped e).cc.recovering = k.cc.recovering := by
  unfold Cavity.tripped
  split <;> exact ⟨rfl, rfl⟩

/-- The program's ways onward leave a recovery as it is. -/
theorem Cavity.Onward.recovering (ho : k.Onward e m) : m.cc.recovering = k.cc.recovering := by
  cases ho with
  | segment hr hm => exact (Cavity.recovering_of_course hm).trans rfl
  | cool hm => exact (Cavity.recovering_of_course hm).trans rfl
  | trip hm => exact (Cavity.recovering_of_course hm).trans Cavity.tripped_state.2

theorem Cavity.Move.recoversLate (hm : k.Move e closed m) (h : k.RecoversLate closed) :
    m.RecoversLate closed := by
  have stays (hs1 : k.cc.state ≠ .idle) (hs2 : k.cc.state ≠ .faulted) : k.cc.recovering = false :=
    h.done (Cavity.free_of_ne hs1 hs2)
  cases hm with
  | same hm => exact h.keeps (Cavity.recovering_of_course hm) (Cavity.state_of_course hm)
  | enter st hk hst hf hm =>
    obtain rfl | hf := hf
    · exact fun hr => ⟨(h ((Cavity.recovering_of_course hm).symm.trans hr)).1,
        .inl (Cavity.state_of_course hm)⟩
    · exact Cavity.recoversLate_of_done ((Cavity.recovering_of_course hm).trans (h.done hf))
  | trip hm =>
    refine fun hr => ⟨(h ?_).1, .inr ((Cavity.state_of_course hm).trans Cavity.tripped_state.1)⟩
    exact Cavity.tripped_state.2.symm.trans ((Cavity.recovering_of_course hm).symm.trans hr)
  | cool hf hm => exact Cavity.recoversLate_of_done ((Cavity.recovering_of_course hm).trans (h.done hf))
  | hold hk hm =>
    exact Cavity.recoversLate_of_done
      ((Cavity.recovering_of_course hm).trans (stays (by simp [hk]) (by simp [hk])))
  | resume hk v hm =>
    exact Cavity.recoversLate_of_done
      ((Cavity.recovering_of_course hm).trans (stays (by simp [hk]) (by simp [hk])))
  | begins hk ho =>
    refine Cavity.recoversLate_of_done (ho.recovering.trans ?_)
    rw [Cavity.begun_eq]
    exact stays (by simp [hk]) (by simp [hk])
  | onward hk ho => exact Cavity.recoversLate_of_done (ho.recovering.trans (stays (by simp [hk]) (by simp [hk])))
  | mark _ _ _ _ hm =>
    exact h.keeps ((Cavity.recovering_of_course hm).trans rfl) ((Cavity.state_of_course hm).trans rfl)
  | starve _ _ hm =>
    exact h.keeps ((Cavity.recovering_of_course hm).trans rfl) ((Cavity.state_of_course hm).trans rfl)
  | recovers _ hm => exact Cavity.recoversLate_of_done (Cavity.recovering_of_course hm)
  | select | cook | sheds | figures => exact h
  | recovered => exact Cavity.recoversLate_of_done rfl

/-! ### The flags of the segment -/

/-- The flag n of the segment that a cavity stands in. -/
def Cavity.segmentFlag (g : SegStore) (n : Nat) (k : Cavity) : Bool :=
  k.cc.segIndex.any fun i => (g.at i).flags.getLsbD n

/-- The catalyst command and the segment fan flag as the segment has them. -/
def Cavity.FlagsFit (g : SegStore) (k : Cavity) : Prop :=
  k.fan.catalyst = (decide (k.cc.state = .cleaning) && k.segmentFlag g 1) ∧
    k.fan.segFlag = (decide (k.cc.state = .cleaning ∨ k.cc.state = .held) && k.segmentFlag g 0)

theorem Cavity.flagsFit_of_course (hm : m.course = k.course) (h : k.FlagsFit g) : m.FlagsFit g := by
  have hk : k.course.FlagsFit g := h
  rw [← hm] at hk
  exact hk

theorem Cavity.flagsFit_out_iff (hs : ¬ k.cc.state.inProgram) :
    k.FlagsFit g ↔ k.fan.catalyst = false ∧ k.fan.segFlag = false := by
  have h : k.cc.state ≠ .cleaning ∧ k.cc.state ≠ .held := not_or.1 hs
  simp [Cavity.FlagsFit, h]

/-- The segment fan flag is off outside the program, and so cleared at its end. -/
theorem Cavity.flagsFit_entered_cleared {st : CavState} (hst : ¬ st.inProgram) :
    (k.entered e st).clearProgram.FlagsFit g := by
  rw [Cavity.flagsFit_out_iff hst]
  have h : decide (st = .cleaning) = false := by simpa using (not_or.1 hst).1
  exact ⟨by simp [Cavity.entered, Cavity.clearProgram, h], rfl⟩

theorem Cavity.FlagsFit.entered_out {st : CavState} (h : k.FlagsFit g) (hk : ¬ k.cc.state.inProgram)
    (hst : ¬ st.inProgram) : (k.entered e st).FlagsFit g := by
  obtain ⟨hc, hf⟩ := (Cavity.flagsFit_out_iff hk).1 h
  rw [Cavity.flagsFit_out_iff hst]
  exact ⟨by simp [Cavity.entered, hc], hf⟩

theorem Cavity.FlagsFit.tripped (h : k.FlagsFit g) : (k.tripped e).FlagsFit g := by
  unfold Cavity.tripped
  split
  next hs => exact Cavity.flagsFit_entered_cleared (by decide)
  next hs => exact h.entered_out (by simpa [not_or] using hs) (by decide)

theorem Cavity.Onward.flagsFit (ho : k.Onward e m) (hk : k.cc.state = .cleaning) : m.FlagsFit e.segs := by
  cases ho with
  | @segment _ j stack _ hm =>
    refine Cavity.flagsFit_of_course (hm.trans (Cavity.decideFan_course _)) ?_
    simp [Cavity.FlagsFit, Cavity.segmentFlag, hk, Segment.catalyst, Segment.fanHigh, maskHas]
  | cool hm => exact Cavity.flagsFit_of_course hm (Cavity.flagsFit_entered_cleared (by decide))
  | trip hm =>
    refine Cavity.flagsFit_of_course hm ?_
    rw [Cavity.tripped, hk]
    exact Cavity.flagsFit_entered_cleared (by decide)

theorem Cavity.Move.flagsFit (hm : k.Move e closed m) (hr : k.RecoversLate closed) (h : k.FlagsFit e.segs) :
    m.FlagsFit e.segs := by
  cases hm with
  | same hm => exact Cavity.flagsFit_of_course hm h
  | enter st hk hst _ hm => exact Cavity.flagsFit_of_course hm (h.entered_out hk hst)
  | trip hm => exact Cavity.flagsFit_of_course hm h.tripped
  | cool _ hm => exact Cavity.flagsFit_of_course hm (Cavity.flagsFit_entered_cleared (by decide))
  | hold hk hm =>
    have hf : k.fan.segFlag = (true && k.segmentFlag e.segs 0) := by simpa [hk] using h.2
    exact Cavity.flagsFit_of_course hm ⟨by simp [Cavity.entered, Controller.enter], hf⟩
  | resume hk v hm =>
    have hf : k.fan.segFlag = (true && k.segmentFlag e.segs 0) := by simpa [hk] using h.2
    refine Cavity.flagsFit_of_course hm ⟨?_, hf⟩
    cases hi : k.cc.segIndex <;>
      simp [Cavity.entered, Controller.enter, Cavity.segCatalyst, Cavity.segmentFlag, Segment.catalyst, maskHas, hi]
  | begins hk ho => exact ho.flagsFit rfl
  | onward hk ho => exact ho.flagsFit hk
  | mark _ _ _ _ hm => exact Cavity.flagsFit_of_course hm h
  | starve _ _ hm => exact Cavity.flagsFit_of_course hm h
  | recovers hrec hm =>
    obtain ⟨-, hst⟩ := hr hrec
    have hk : ¬ k.cc.state.inProgram := by obtain hst | hst := hst <;> simp [hst]
    have h' : ({ k with cc := { k.cc with recovering := false } } : Cavity).FlagsFit e.segs := h
    exact Cavity.flagsFit_of_course hm (h'.entered_out hk (by decide))
  | select | cook | sheds | figures | recovered => exact h

end Placed

/-! ### Every kind of change keeps the laws of the program -/

section ProgramShifts
variable {s t : State}

/-- What the laws of the program ask of one cavity. -/
def Cavity.ProgramLawful (g : SegStore) (closed : Prop) (k : Cavity) : Prop :=
  k.placed g ∧ k.RecoversLate closed

theorem State.programLaw_iff (s : State) :
    s.ProgramLaw ↔ ∀ c, (s.cav c).ProgramLawful s.segs (s.link.rx = .closed) := Iff.rfl

theorem State.segmentFlagLaw_iff (s : State) : s.SegmentFlagLaw ↔ ∀ c, (s.cav c).FlagsFit s.segs := Iff.rfl

section Cavities
variable {e : Env} {closed : Prop} {k m : Cavity}

theorem Cavity.Moves.programLawful (hm : k.Moves e closed m) (h : k.ProgramLawful e.segs closed) :
    m.ProgramLawful e.segs closed := by
  induction hm with
  | refl => exact h
  | tail _ hl ih => exact ⟨hl.placed ih.1 ih.2, hl.recoversLate ih.2⟩

theorem Cavity.Moves.flagsFit (hm : k.Moves e closed m) (h : k.ProgramLawful e.segs closed)
    (hf : k.FlagsFit e.segs) : m.FlagsFit e.segs := by
  induction hm with
  | refl => exact hf
  | tail hm hl ih => exact hl.flagsFit (Cavity.Moves.programLawful hm h).2 ih

/-- What a cavity's program is read from: its controller, its detector, its starvation counter and two flags. -/
theorem Cavity.ProgramLawful.same {g : SegStore} (h : k.ProgramLawful g closed) (hcc : m.cc = k.cc)
    (hprb : m.prb = k.prb) (hstarve : m.starve = k.starve) : m.ProgramLawful g closed := by
  unfold Cavity.ProgramLawful Cavity.placed Cavity.RecoversLate
  rw [hcc, hprb, hstarve]
  exact h

theorem Cavity.FlagsFit.same {g : SegStore} (h : k.FlagsFit g) (hcc : m.cc = k.cc) (hfan : m.fan = k.fan) :
    m.FlagsFit g := by
  unfold Cavity.FlagsFit Cavity.segmentFlag
  rw [hcc, hfan]
  exact h

/-- The start-up values of controller, probes, fan and starvation counter. -/
theorem Cavity.programLawful_startUp {g : SegStore} {b : Bool} (hb : b = true → closed)
    (hcc : k.cc = { recovering := b }) (hprb : k.prb = {}) (hstarve : k.starve = 0) :
    k.ProgramLawful g closed := by
  unfold Cavity.ProgramLawful Cavity.placed Cavity.RecoversLate
  rw [hcc, hprb, hstarve]
  exact ⟨⟨⟨rfl, rfl, rfl, rfl, rfl, rfl, rfl, rfl, rfl⟩, nofun, fun _ => ⟨rfl, rfl⟩, fun _ => rfl, fun _ => rfl⟩,
    fun hr => ⟨hb hr, .inl rfl⟩⟩

theorem Cavity.flagsFit_startUp {g : SegStore} (hs : k.cc.state = .idle) (hfan : k.fan = {}) :
    k.FlagsFit g := by
  rw [Cavity.flagsFit_out_iff (by simp [hs]), hfan]
  exact ⟨rfl, rfl⟩

end Cavities

theorem CavState.not_inProgram_of_not_runsProgram {st : CavState} (h : st.runsProgram = false) :
    ¬ st.inProgram := by
  cases st <;> simp_all [CavState.runsProgram]

theorem State.beginSlot_frame (s : State) (j : Nat) :
    (s.beginSlot j).segs = s.segs ∧ (s.beginSlot j).link = s.link := by
  simp [State.beginSlot, State.onCavs, State.onCav]

/-- Before the link opens every recovery is done (R29, R149). -/
theorem State.recovering_of_linkReady (h : s.linkReady = true) (hu : s.UnfittedLaw) (c : CavNo) :
    (s.cav c).cc.recovering = false := by
  by_cases hf : s.fitted c = true
  · obtain ⟨-, -, hall⟩ := (State.linkReady_iff s).1 h
    exact (hall c hf).1
  · rw [(hu c (by simpa using hf)).1]

/-- Every kind of change keeps the place in the program. -/
theorem State.Shift.programLaw (h : State.Shift s t) (hu : s.UnfittedLaw) (hs : s.ProgramLaw) :
    t.ProgramLaw := by
  have setCav {c : CavNo} {k : Cavity} (hk : k.ProgramLawful s.segs (s.link.rx = .closed)) :
      (s.setCav c k).ProgramLaw := by
    rw [State.programLaw_iff, State.setCav_segs, State.setCav_link]
    exact State.forall_setCav (P := fun _ k => k.ProgramLawful s.segs (s.link.rx = .closed)) hs hk
  cases h with
  | aside hf hc =>
    rw [State.programLaw_iff, hf.segs]
    intro c
    rw [hc]
    exact ⟨(hs c).1, fun hr => ⟨hf.closed.2 ((hs c).2 hr).1, ((hs c).2 hr).2⟩⟩
  | opens h l hl =>
    exact fun c => ⟨(hs c).1, fun hr => absurd hr (by
      rw [show ({ s with link := l } : State).cav c = s.cav c from
        State.cav_cases (P := fun c => ({ s with link := l } : State).cav c = s.cav c) rfl rfl rfl c]
      simp [State.recovering_of_linkReady h hu c])⟩
  | order c hf ho h => exact setCav ((h.moves ho).programLawful (hs c))
  | event c hf h => exact setCav (h.moves.programLawful (hs c))
  | common c h => exact setCav (h.moves.programLawful (hs c))
  | follows c hf sw active => exact setCav (Cavity.ProgramLawful.same (hs c) rfl rfl rfl)
  | followsDoor c hf cl => exact setCav (Cavity.ProgramLawful.same (hs c) rfl rfl rfl)
  | unlock v =>
    obtain ⟨hsegs, -, hlink, -, hc⟩ := s.storeUnlock_eq v
    rw [State.programLaw_iff, hsegs, hlink]
    intro c
    obtain ⟨h, -⟩ | ⟨-, h⟩ := hc c
    · rw [h]
      exact hs c
    · rw [h]
      exact Cavity.unlockLowered_moves.programLawful
        (e := ({ s with cfg := s.cfg.set .unlockLevel v } : State).env c) (hs c)
  | fits v hidle =>
    obtain ⟨hsegs, -, hlink, -, hc⟩ := s.storeFitted_eq v
    rw [State.programLaw_iff, hsegs, hlink]
    intro c
    rw [hc]
    split
    · exact hs c
    · exact Cavity.programLawful_startUp (b := false) nofun rfl rfl rfl
  | segment g hno =>
    intro c
    rw [show ({ s with segs := g } : State).cav c = s.cav c from
      State.cav_cases (P := fun c => ({ s with segs := g } : State).cav c = s.cav c) rfl rfl rfl c]
    have hk : ¬ (s.cav c).cc.state.inProgram := CavState.not_inProgram_of_not_runsProgram (hno c)
    exact ⟨Cavity.placed_of_out hk ((hs c).1.outOfProgram hk) (hs c).1.fields, (hs c).2⟩
  | window segs slot cfg link h =>
    rw [State.programLaw_iff, segs, link]
    intro c
    rw [(h c).1]
    exact Cavity.ProgramLawful.same (hs c) rfl rfl rfl
  | slot hi hij =>
    rw [State.programLaw_iff, (s.beginSlot_frame _).1, (s.beginSlot_frame _).2]
    intro c
    rw [State.beginSlot_cav]
    exact Cavity.ProgramLawful.same (hs c) rfl rfl rfl
  | dropout segs slot cfg link h =>
    rw [State.programLaw_iff, segs, link]
    intro c
    rw [h]
    exact Cavity.ProgramLawful.same (hs c) rfl rfl rfl
  | starts inp =>
    have hk (fitted : Bool) (sw : SwitchPositions) {g : SegStore} :
        (cavityAtStart fitted sw).ProgramLawful g ((s.startUp inp).link.rx = .closed) :=
      Cavity.programLawful_startUp (b := fitted) (fun _ => rfl) rfl rfl rfl
    exact State.cav_cases (P := fun c => ((s.startUp inp).cav c).ProgramLawful (s.startUp inp).segs
      ((s.startUp inp).link.rx = .closed)) (hk _ _) (hk _ _) (hk _ _)

/-- Every kind of change keeps the catalyst and fan flags of the segment. -/
theorem State.Shift.segmentFlagLaw (h : State.Shift s t) (hp : s.ProgramLaw) (hs : s.SegmentFlagLaw) :
    t.SegmentFlagLaw := by
  have setCav {c : CavNo} {k : Cavity} (hk : k.FlagsFit s.segs) : (s.setCav c k).SegmentFlagLaw := by
    rw [State.segmentFlagLaw_iff, State.setCav_segs]
    exact State.forall_setCav (P := fun _ k => k.FlagsFit s.segs) hs hk
  cases h with
  | aside hf hc =>
    rw [State.segmentFlagLaw_iff, hf.segs]
    intro c
    rw [hc]
    exact hs c
  | opens h l hl => exact hs
  | order c hf ho h => exact setCav ((h.moves ho).flagsFit (hp c) (hs c))
  | event c hf h => exact setCav (h.moves.flagsFit (hp c) (hs c))
  | common c h => exact setCav (h.moves.flagsFit (hp c) (hs c))
  | follows c hf sw active => exact setCav (Cavity.FlagsFit.same (hs c) rfl rfl)
  | followsDoor c hf cl => exact setCav (Cavity.FlagsFit.same (hs c) rfl rfl)
  | unlock v =>
    obtain ⟨hsegs, -, hlink, -, hc⟩ := s.storeUnlock_eq v
    rw [State.segmentFlagLaw_iff, hsegs]
    intro c
    obtain ⟨h, -⟩ | ⟨-, h⟩ := hc c
    · rw [h]
      exact hs c
    · rw [h]
      exact Cavity.unlockLowered_moves.flagsFit
        (e := ({ s with cfg := s.cfg.set .unlockLevel v } : State).env c) (hp c) (hs c)
  | fits v hidle =>
    obtain ⟨hsegs, -, hlink, -, hc⟩ := s.storeFitted_eq v
    rw [State.segmentFlagLaw_iff, hsegs]
    intro c
    rw [hc]
    split
    · exact hs c
    · exact Cavity.flagsFit_startUp rfl rfl
  | segment g hno =>
    intro c
    rw [show ({ s with segs := g } : State).cav c = s.cav c from
      State.cav_cases (P := fun c => ({ s with segs := g } : State).cav c = s.cav c) rfl rfl rfl c]
    have hk : ¬ (s.cav c).cc.state.inProgram := CavState.not_inProgram_of_not_runsProgram (hno c)
    exact (Cavity.flagsFit_out_iff hk).2 ((Cavity.flagsFit_out_iff hk).1 (hs c))
  | window segs slot cfg link h =>
    rw [State.segmentFlagLaw_iff, segs]
    intro c
    rw [(h c).1]
    exact Cavity.FlagsFit.same (hs c) rfl rfl
  | slot hi hij =>
    rw [State.segmentFlagLaw_iff, (s.beginSlot_frame _).1]
    intro c
    rw [State.beginSlot_cav]
    exact Cavity.FlagsFit.same (hs c) rfl rfl
  | dropout segs slot cfg link h =>
    rw [State.segmentFlagLaw_iff, segs]
    intro c
    rw [h]
    exact Cavity.FlagsFit.same (hs c) rfl rfl
  | starts inp =>
    have hk (fitted : Bool) (sw : SwitchPositions) {g : SegStore} : (cavityAtStart fitted sw).FlagsFit g :=
      Cavity.flagsFit_startUp rfl rfl
    exact State.cav_cases (P := fun c => ((s.startUp inp).cav c).FlagsFit (s.startUp inp).segs)
      (hk _ _) (hk _ _) (hk _ _)

/-- Settles O9, change by change of what a step is made of, the flags on the strength of the places. -/
theorem programLawsAreKept : Obligations.ProgramLawsAreKept := by
  unfold Obligations.ProgramLawsAreKept
  intro s t h hu
  have program (s t : State) (hst : State.Shift s t) (hs : s.UnfittedLaw ∧ s.ProgramLaw) :
      t.UnfittedLaw ∧ t.ProgramLaw := ⟨hst.unfittedLaw hs.1, hst.programLaw hs.1 hs.2⟩
  refine ⟨fun hp => (step_keeps program h ⟨hu, hp⟩).2, fun hp hf => ?_⟩
  have both (s t : State) (hst : State.Shift s t)
      (hs : (s.UnfittedLaw ∧ s.ProgramLaw) ∧ s.SegmentFlagLaw) :
      (t.UnfittedLaw ∧ t.ProgramLaw) ∧ t.SegmentFlagLaw :=
    ⟨program s t hst hs.1, hst.segmentFlagLaw hs.1.2 hs.2⟩
  exact (step_keeps both h ⟨⟨hu, hp⟩, hf⟩).2

end ProgramShifts

end Sys2Proof.Machine

namespace Sys2Proof.Machine

/-! ## The lock drive keeps its shape and the release law -/

/-- A lock drive's record has its shape, and its motor runs toward open only where the check passes. -/
def Lock.Lawful (check : Bool) (l : Lock) : Prop := l.shaped ∧ (l.motor = .towardOpen → check = true)

section Lawful
variable {v : LockEnv} {check : Bool} {l : Lock}

theorem Lock.lawful_rest {st : LockState} (ht : st.travelling = false) (hl : st = .locked → l.standsLocked)
    (ho : st = .opened → l.standsOpen) : (l.rest st).Lawful check := by
  refine ⟨⟨?_, hl, ho⟩, nofun⟩
  rw [show (l.rest st).state.travelling = false from ht]
  exact ⟨rfl, rfl, rfl, rfl⟩

theorem Lock.lawful_rest_unknown : (l.rest .unknown).Lawful check := Lock.lawful_rest rfl nofun nofun

theorem Lock.lawful_rest_jammed : (l.rest .jammed).Lawful check := Lock.lawful_rest rfl nofun nofun

theorem Lock.freshTimer_status (l : Lock) (v : LockEnv) :
    (l.freshTimer v).status = if l.mains then .running else .paused := by
  unfold Lock.freshTimer
  cases l.mains <;> rfl

/-- A leg that begins, toward open where the check passes. -/
theorem Lock.lawful_drive {st : LockState} {g : Goal} {n : Nat} (hn : n = 1 ∨ n = 2)
    (ht : st.travelling = true) (hc : st = .opening → check = true) : (l.drive v st g n).Lawful check := by
  refine ⟨⟨?_, fun h => ?_, fun h => ?_⟩, fun hm => hc ?_⟩
  · rw [show (l.drive v st g n).state.travelling = true from ht]
    exact ⟨nofun, hn, rfl, l.freshTimer_status v⟩
  · rw [show st = .locked from h] at ht
    cases ht
  · rw [show st = .opened from h] at ht
    cases ht
  · simp only [Lock.drive] at hm
    split at hm
    · cases st <;> simp_all [LockState.motor]
    · cases hm

/-- A leg toward closed, at rest at its end where the bolt stands there. -/
theorem Lock.lawful_finalLeg_closing {n : Nat} (hn : n = 1 ∨ n = 2) :
    (l.finalLeg v .closing .locked n).1.Lawful check := by
  unfold Lock.finalLeg
  split
  next h => exact Lock.lawful_rest rfl (fun _ => (Lock.atEnd_closing_iff l).1 h) nofun
  next => exact Lock.lawful_drive hn rfl nofun

/-- A leg toward open, which needs the check but where the bolt stands at the open end. -/
theorem Lock.lawful_finalLeg_opening {n : Nat} (hn : n = 1 ∨ n = 2) (hc : l.atEnd .opening || check) :
    (l.finalLeg v .opening .opened n).1.Lawful check := by
  unfold Lock.finalLeg
  split
  next h => exact Lock.lawful_rest rfl nofun fun _ => (Lock.atEnd_opening_iff l).1 h
  next h => exact Lock.lawful_drive hn rfl fun _ => by simpa [h] using hc

theorem Lock.lawful_turnLock (ho : l.standsOpen) : (l.turnLock v).1.Lawful check := by
  unfold Lock.turnLock
  split
  · exact Lock.lawful_finalLeg_closing (.inr rfl)
  · exact Lock.lawful_rest rfl nofun fun _ => ho

theorem Lock.lawful_turnRelease : (l.turnRelease v).1.Lawful v.check := by
  unfold Lock.turnRelease
  split
  next h => exact Lock.lawful_finalLeg_opening (.inr rfl) (by simp [h])
  next => exact Lock.lawful_rest_jammed

/-- The record of a drive in travel, taken apart. -/
theorem Lock.shaped.inTravel (h : l.shaped) (ht : l.state.travelling = true) :
    l.goal ≠ none ∧ (l.attempt = 1 ∨ l.attempt = 2) ∧ l.motor = (if l.mains then l.state.motor else .stop) ∧
      l.timer.status = (if l.mains then .running else .paused) := by
  have h := h.1
  rwa [if_pos ht] at h

theorem Lock.shaped.atRest (h : l.shaped) (ht : l.state.travelling = false) :
    l.goal = none ∧ l.attempt = 1 ∧ l.motor = .stop ∧ l.timer = .halted := by
  have h := h.1
  rwa [if_neg (by simp [ht])] at h

/-- A drive in travel, with its goal and attempt set anew. -/
theorem Lock.Lawful.retarget (h : l.Lawful check) (ht : l.state.travelling = true) (g : Goal) :
    ({ l with goal := some g, attempt := 1, timer := l.freshTimer v } : Lock).Lawful check := by
  obtain ⟨-, -, hmotor, -⟩ := h.1.inTravel ht
  obtain ⟨⟨-, hlocked, hopened⟩, hcheck⟩ := h
  refine ⟨⟨?_, hlocked, hopened⟩, hcheck⟩
  rw [if_pos ht]
  exact ⟨nofun, .inl rfl, hmotor, l.freshTimer_status v⟩

theorem Lock.Lawful.takeLock (h : l.Lawful check) : (l.takeLock v).1.Lawful check := by
  have leg : (l.finalLeg v .closing .locked 1).1.Lawful check := Lock.lawful_finalLeg_closing (.inl rfl)
  unfold Lock.takeLock
  split
  case h_6 hs =>
    split
    · exact h.retarget (by rw [hs]; rfl) _
    · exact h
  case h_4 => exact h
  case h_5 =>
    split_ifs
    · exact h
    · exact leg
    · exact h
  all_goals
    split
    · exact leg
    · exact h

theorem Lock.Lawful.takeRelease (h : l.Lawful v.check) : (l.takeRelease v).1.Lawful v.check := by
  have leg (hm : l.mayRelease v = true) : (l.finalLeg v .opening .opened 1).1.Lawful v.check :=
    Lock.lawful_finalLeg_opening (.inl rfl) hm
  unfold Lock.takeRelease
  split
  case h_1 => exact h
  case h_5 =>
    split_ifs with h1 h2
    · exact h
    · exact leg (by simp [Lock.mayRelease, h2])
    · exact h
  case h_6 hs =>
    split
    · exact h.retarget (by rw [hs]; rfl) _
    · exact h
  all_goals
    split
    next hm => exact leg hm
    next => exact h

theorem Lock.Lawful.takeStop (h : l.Lawful check) : l.takeStop.1.Lawful check := by
  unfold Lock.takeStop
  split
  · exact Lock.lawful_rest_unknown
  · exact h

/-- The end of the running leg, at its end switch. -/
theorem Lock.lawful_endLeg (h : (l.state = .closing ∧ l.standsLocked) ∨ (l.state = .opening ∧ l.standsOpen)) :
    (l.endLeg v).1.Lawful v.check := by
  unfold Lock.endLeg
  obtain ⟨hs, hb⟩ | ⟨hs, hb⟩ := h <;> rw [hs]
  · cases l.goal with
    | none => exact Lock.lawful_rest rfl (fun _ => hb) nofun
    | some g =>
      cases g with
      | locked => exact Lock.lawful_rest rfl (fun _ => hb) nofun
      | opened => exact Lock.lawful_turnRelease
  · cases l.goal with
    | none => exact Lock.lawful_rest rfl nofun fun _ => hb
    | some g =>
      cases g with
      | locked => exact Lock.lawful_turnLock hb
      | opened => exact Lock.lawful_rest rfl nofun fun _ => hb

/-- A switch's new position, recorded where the lock is at neither end. -/
theorem Lock.Lawful.record (h : l.Lawful check) (hl : l.state ≠ .locked) (ho : l.state ≠ .opened)
    (sw : EndSwitch) (active : Bool) : (l.record sw active).Lawful check := by
  obtain ⟨⟨hshape, -, -⟩, hcheck⟩ := h
  cases sw <;> exact ⟨⟨hshape, fun h => absurd h hl, fun h => absurd h ho⟩, hcheck⟩

/-- A recorded change of a switch, and what follows from it. -/
theorem Lock.Lawful.switchChange (h : l.Lawful v.check) (sw : EndSwitch) (active : Bool) :
    (l.switchChange v sw active).1.Lawful v.check := by
  unfold Lock.switchChange
  split
  · exact h
  next hne =>
    have hnew : (l.record sw active).endSwitch sw = active := by cases sw <;> rfl
    have hst : (l.record sw active).state = l.state := by cases sw <;> rfl
    obtain ⟨-, hlocked, hopened⟩ := h.1
    unfold Lock.afterSwitch
    cases active with
    | true =>
      rw [if_pos rfl]
      split_ifs with hboth hends
      · rw [hst]
        split
        next hs => exact h.record (by simp [hs]) (by simp [hs]) _ _
        next hs => exact h.record (by simp [hs]) (by simp [hs]) _ _
        next => exact Lock.lawful_rest_unknown
        next => exact Lock.lawful_rest_unknown
      · refine Lock.lawful_endLeg ?_
        cases sw <;> cases hs : l.state <;>
          simp_all [LockState.endsAt, Lock.record, Lock.standsLocked, Lock.standsOpen]
      · refine h.record (fun hs => ?_) (fun hs => ?_) _ _
        · obtain ⟨h1, h2⟩ := hlocked hs
          cases sw <;> simp_all [Lock.endSwitch, Lock.record]
        · obtain ⟨h1, h2⟩ := hopened hs
          cases sw <;> simp_all [Lock.endSwitch, Lock.record]
    | false =>
      have recorded (hl : ¬ (l.state = .locked ∧ sw = .locked)) (ho : ¬ (l.state = .opened ∧ sw = .opened)) :
          (l.record sw false).Lawful v.check := by
        refine h.record (fun hs => ?_) (fun hs => ?_) _ _
        · obtain ⟨h1, h2⟩ := hlocked hs
          cases sw with
          | locked => exact hl ⟨hs, rfl⟩
          | opened => exact hne h2
        · obtain ⟨h1, h2⟩ := hopened hs
          cases sw with
          | locked => exact hne h2
          | opened => exact ho ⟨hs, rfl⟩
      rw [if_neg (by decide), hst]
      split
      next => exact Lock.lawful_rest_unknown
      next => exact Lock.lawful_rest_unknown
      next hl ho => exact recorded (fun h => hl h.1 h.2) (fun h => ho h.1 h.2)

/-- The door's new position recorded. -/
theorem Lock.Lawful.recordDoor (h : l.Lawful check) (closed : Bool) :
    ({ l with doorClosed := closed } : Lock).Lawful check := h

theorem Lock.Lawful.doorChange (h : l.Lawful v.check) (closed : Bool) :
    (l.doorChange v closed).1.Lawful v.check := by
  unfold Lock.doorChange
  split
  · exact h
  dsimp only
  split
  · exact h.recordDoor closed
  split
  next hs =>
    obtain ⟨-, hattempt, -, -⟩ := h.1.inTravel (by rw [show l.state = .closing from hs]; rfl)
    unfold Lock.doorTurn
    dsimp only
    split
    next hc => exact Lock.lawful_finalLeg_opening hattempt (by simp [hc])
    next => exact Lock.lawful_rest_jammed
  next => exact h.recordDoor closed
  next => exact h.recordDoor closed

theorem Lock.Lawful.timeout (h : l.Lawful v.check) : (l.timeout v).1.Lawful v.check := by
  unfold Lock.timeout
  split_ifs with h1 h2 h3 h4 h5
  · unfold Lock.retryRelease
    split
    · exact Lock.lawful_turnRelease
    · exact Lock.lawful_drive (.inr rfl) rfl nofun
  · exact Lock.lawful_rest_jammed
  · unfold Lock.retryLock
    split
    next ho => exact Lock.lawful_turnLock ((Lock.atEnd_opening_iff l).1 ho)
    next => exact Lock.lawful_drive (.inr rfl) rfl fun _ => h5
  · exact Lock.lawful_rest_jammed
  · exact Lock.lawful_rest_jammed
  · exact h

theorem Lock.Lawful.mainsGone (h : l.Lawful check) : l.mainsGone.Lawful check := by
  obtain ⟨⟨hshape, hlocked, hopened⟩, hcheck⟩ := h
  unfold Lock.mainsGone
  split
  next ht =>
    rw [if_pos ht] at hshape
    obtain ⟨hgoal, hattempt, -, htimer⟩ := hshape
    refine ⟨⟨?_, hlocked, hopened⟩, nofun⟩
    rw [if_pos ht]
    refine ⟨hgoal, hattempt, rfl, ?_⟩
    unfold Timer.pause
    cases hm : l.mains <;> simp_all
  next ht =>
    rw [if_neg ht] at hshape
    exact ⟨⟨by rwa [if_neg ht], hlocked, hopened⟩, hcheck⟩

theorem Lock.Lawful.mainsBack (h : l.Lawful v.check) : (l.mainsBack v).1.Lawful v.check := by
  obtain ⟨⟨hshape, hlocked, hopened⟩, hcheck⟩ := h
  have resumed (ht : l.state.travelling = true) : l.goal ≠ none ∧ (l.attempt = 1 ∨ l.attempt = 2) ∧
      l.timer.resume.status = .running := by
    rw [if_pos ht] at hshape
    obtain ⟨hgoal, hattempt, -, htimer⟩ := hshape
    refine ⟨hgoal, hattempt, ?_⟩
    unfold Timer.resume
    cases hm : l.mains <;> simp_all
  unfold Lock.mainsBack
  dsimp only
  split
  next hs =>
    obtain ⟨hgoal, hattempt, htimer⟩ := resumed (by rw [hs]; rfl)
    refine ⟨⟨?_, hlocked, hopened⟩, nofun⟩
    rw [if_pos (by rw [hs]; rfl)]
    exact ⟨hgoal, hattempt, by simp [hs, LockState.motor], htimer⟩
  next hs =>
    obtain ⟨hgoal, hattempt, htimer⟩ := resumed (by rw [hs]; rfl)
    split
    next hc =>
      refine ⟨⟨?_, hlocked, hopened⟩, fun _ => hc⟩
      rw [if_pos (by rw [hs]; rfl)]
      exact ⟨hgoal, hattempt, by simp [hs, LockState.motor], htimer⟩
    next => exact Lock.lawful_rest_unknown
  next hc ho =>
    have ht : ¬ l.state.travelling = true := by cases hs : l.state <;> simp_all [LockState.travelling]
    rw [if_neg ht] at hshape
    exact ⟨⟨by rwa [if_neg ht], hlocked, hopened⟩, hcheck⟩

/-- A millisecond changes nothing but the time left of a running timer. -/
theorem Lock.Lawful.pass (h : l.Lawful check) : ({ l with timer := l.timer.pass } : Lock).Lawful check := by
  obtain ⟨⟨hshape, hlocked, hopened⟩, hcheck⟩ := h
  have hstatus : l.timer.pass.status = l.timer.status := by
    unfold Timer.pass
    split <;> rfl
  refine ⟨⟨?_, hlocked, hopened⟩, hcheck⟩
  dsimp only
  rw [hstatus]
  split
  next ht => rwa [if_pos ht] at hshape
  next ht =>
    rw [if_neg ht] at hshape
    obtain ⟨hgoal, hattempt, hmotor, htimer⟩ := hshape
    exact ⟨hgoal, hattempt, hmotor, by rw [htimer]; rfl⟩

end Lawful

end Sys2Proof.Machine

namespace Sys2Proof.Machine

open Relation

/-! ## What the lock and door laws read of a cavity -/

/-- The states in which neither a start nor a program nor a trip stands. -/
def CavState.quiet (st : CavState) : Prop :=
  st = .idle ∨ st = .cooking ∨ st = .cooldown ∨ st = .unlocking

/-- The changes of a cavity that leave its lock alone, but for the STOP of a trip. -/
inductive Cavity.Act (k m : Cavity) : Prop
  | still (hl : m.lock = k.lock) (hp : m.prb.cavity = k.prb.cavity) (hs : m.cc.state = k.cc.state)
      (hi : m.cc.startSeg = k.cc.startSeg)
  | leaves (hl : m.lock = k.lock) (hp : m.prb.cavity = k.prb.cavity) (hs : m.cc.state.quiet)
  | trips (hl : m.lock = k.lock.takeStop.1) (hp : m.prb.cavity = k.prb.cavity) (hs : m.cc.state = .faulted)
  | within (hl : m.lock = k.lock) (hp : m.prb.cavity = k.prb.cavity) (hk : k.cc.state.inProgram)
      (hm : m.cc.state.inProgram)

def Cavity.Acts : Cavity → Cavity → Prop := ReflTransGen Cavity.Act

section Acts
variable {e : Env} {k m n : Cavity}

theorem Cavity.Acts.refl (k : Cavity) : k.Acts k := ReflTransGen.refl
theorem Cavity.Acts.trans (h : k.Acts m) (h' : m.Acts n) : k.Acts n := ReflTransGen.trans h h'
theorem Cavity.Acts.one (h : k.Act m) : k.Acts m := ReflTransGen.single h

theorem Cavity.Acts.still (hl : m.lock = k.lock) (hp : m.prb.cavity = k.prb.cavity)
    (hs : m.cc.state = k.cc.state) (hi : m.cc.startSeg = k.cc.startSeg) : k.Acts m := .one (.still hl hp hs hi)

/-- Changes after one that leaves lock, state and start segment alone. -/
theorem Cavity.Acts.afterStill (h : m.Acts n) (hl : m.lock = k.lock) (hp : m.prb.cavity = k.prb.cavity)
    (hs : m.cc.state = k.cc.state) (hi : m.cc.startSeg = k.cc.startSeg) : k.Acts n :=
  (Cavity.Acts.still hl hp hs hi).trans h

theorem Cavity.Acts.trip (c : Condition) (later : CondSet) : k.Acts (k.trip e c later) := by
  exact .one (.trips (Cavity.trip_lock ..) (Cavity.trip_prb_cavity ..) (Cavity.trip_state ..))

theorem Cavity.Acts.decideAmong (asked : Condition → Bool) : k.Acts (k.decideAmong e asked) := by
  unfold Cavity.decideAmong
  split
  · exact .refl k
  · exact .trip _ _

theorem Cavity.Acts.decideEntry : k.Acts (k.decideEntry e) := .decideAmong _

theorem Cavity.Acts.judge (c : Condition) : k.Acts (k.judge e c) := by
  unfold Cavity.judge
  split_ifs
  · exact .still rfl rfl rfl rfl
  · exact .refl k
  · exact .trip _ _
  · exact .refl k

theorem Cavity.Acts.absent (c : Condition) : k.Acts (k.absent c) := .still rfl rfl rfl rfl

theorem Cavity.Acts.onset (c : Condition) : k.Acts (k.onset e c) :=
  Cavity.Acts.trans (m := { k with cond := { k.cond with present := k.cond.present.add c,
                                                         seen := k.cond.seen.add c } })
    (.still rfl rfl rfl rfl) (.judge c)

theorem Cavity.Acts.momentary (c : Condition) : k.Acts (k.momentary e c) :=
  Cavity.Acts.trans (m := { k with cond := { k.cond with seen := k.cond.seen.add c } })
    (.still rfl rfl rfl rfl) (.judge c)

/-- An entry of a quiet state. -/
theorem Cavity.Acts.enterState {st : CavState} (h : st.quiet) : k.Acts (k.enterState e st) :=
  .one (.leaves rfl rfl h)

theorem Cavity.Acts.endInIdle : k.Acts (k.endInIdle e) :=
  Cavity.Acts.trans (m := (k.enterState e .idle).setEvent .cycleEnded) (.one (.leaves rfl rfl (.inl rfl)))
    .decideEntry

theorem Cavity.Acts.enterCooldown (why : LastEnd) : k.Acts (k.enterCooldown e why) :=
  Cavity.Acts.trans (m := ((k.writeEnd why).enterState e .cooldown).clearProgram)
    (.one (.leaves rfl rfl (.inr (.inr (.inl rfl))))) .decideEntry

/-- The program moves on from CLEANING. -/
theorem Cavity.Acts.moveTo (hk : k.cc.state = .cleaning) (i : Nat) : k.Acts (k.moveTo e i) := by
  unfold Cavity.moveTo
  split
  next j stack _ => exact .one (.within rfl rfl (.inl hk) (.inl hk))
  next j stack _ =>
    refine Cavity.Acts.trans (m := { k with cc := { k.cc with segIndex := some j, stack := stack } })
      (.still rfl rfl rfl rfl) (.enterCooldown _)
  next sub j stack _ =>
    unfold Cavity.programFault
    dsimp only
    refine Cavity.Acts.trans (m := { k with cc := { k.cc with segIndex := j, stack := stack } })
      (.still rfl rfl rfl rfl) (Cavity.Acts.trans (.momentary (e := e) .program) ?_)
    split
    · exact .refl _
    · exact .enterCooldown _

theorem Cavity.Acts.segmentEnds (hk : k.cc.state = .cleaning) : k.Acts (k.segmentEnds e) := by
  unfold Cavity.segmentEnds
  split
  · exact .moveTo hk _
  · exact .refl k

/-! ### Orders without the lock -/

theorem Cavity.Acts.cleanHold : k.Acts (k.cleanHold e).1 := by
  unfold Cavity.cleanHold
  split
  next h =>
    exact Cavity.Acts.trans (m := k.enterState e .held) (.one (.within rfl rfl (.inl h) (.inr rfl))) .decideEntry
  next => exact .refl k
  next => exact .refl k

theorem Cavity.Acts.cleanResume : k.Acts (k.cleanResume e).1 := by
  unfold Cavity.cleanResume
  split
  next h =>
    dsimp only
    refine Cavity.Acts.trans (.one (.within ?_ ?_ (.inr h) (.inl ?_))) .decideEntry <;> rfl
  next => exact .refl k

theorem Cavity.Acts.cookSet (v : Int) (elems : Byte) : k.Acts (k.cookSet e v elems).1 := by
  rw [Cavity.cookSet]
  split_ifs with h1 h2 h3 h4
  · exact .refl k
  · exact .refl k
  · exact .refl k
  · dsimp only
    refine Cavity.Acts.trans (.one (.leaves ?_ ?_ (.inr (.inl ?_)))) .decideEntry <;> rfl
  · exact .still rfl rfl rfl rfl

theorem Cavity.Acts.cookOff : k.Acts (k.cookOff e).1 := by
  unfold Cavity.cookOff
  split
  · exact .refl k
  · exact Cavity.Acts.trans (.enterState (.inl rfl)) .decideEntry
  · exact .refl k

theorem Cavity.Acts.eventsAck (b : Byte) : k.Acts (k.eventsAck b).1 := by
  unfold Cavity.eventsAck
  split <;> exact .still rfl rfl rfl rfl

theorem Cavity.Acts.conditionsAck (w : Word16) : k.Acts (k.conditionsAck w).1 := by
  unfold Cavity.conditionsAck
  split <;> exact .still rfl rfl rfl rfl

/-! ### Events without the lock -/

theorem Cavity.Acts.levelReport (c : Condition) (was now : Bool) : k.Acts (k.levelReport e c was now) := by
  unfold Cavity.levelReport
  split_ifs
  · exact .refl k
  · exact .onset c
  · exact .absent c

theorem Cavity.Acts.fan (f : Fan) : k.Acts ({ k with fan := f } : Cavity).decideFan :=
  .still rfl rfl rfl rfl

theorem Cavity.Acts.reportCavityFault (cls : SampleClass) : k.Acts (k.reportCavityFault e cls) := by
  unfold Cavity.reportCavityFault
  split_ifs
  · exact Cavity.Acts.trans (.onset .sensor) (.fan _)
  · exact Cavity.Acts.trans (.absent .sensor) (.fan _)
  · exact .refl k

theorem Cavity.Acts.checkOvertemp : k.Acts (k.checkOvertemp e) := by
  let now : Bool := (e.cfg.limits.cleanCeiling : Int) + e.cfg.limits.overtempMargin < k.prb.cavity.reading
  exact Cavity.Acts.trans (m := { k with prb := { k.prb with overtemp := now } }) (.still rfl rfl rfl rfl)
    (.levelReport ..)

theorem Cavity.Acts.markStage (cls : SampleClass) : k.Acts (k.markStage e cls) := by
  unfold Cavity.markStage
  split
  · exact .refl k
  next d _ =>
    split_ifs
    · have hmarked : k.Acts (k.marked d) := .still rfl rfl rfl rfl
      obtain ⟨i, -, hk, -, h⟩ | ⟨-, h⟩ := Cavity.confirmMark_cases e d k <;> rw [h]
      · exact hmarked.trans (Cavity.Acts.moveTo (k := k.marked d) hk _)
      · exact hmarked
    · exact .still rfl rfl rfl rfl
    · exact .still rfl rfl rfl rfl

theorem Cavity.Acts.doorSample (v : Int) : k.Acts (k.doorSample e v) := by
  have fault (m : Cavity) (cls : SampleClass) : m.Acts (m.reportDoorFault e cls) := by
    unfold Cavity.reportDoorFault
    split_ifs
    · exact .onset _
    · exact .absent _
    · exact .refl _
  have hot (m : Cavity) : m.Acts (m.decideDoorHot e) := by
    let now : Bool := (e.cfg.limits.doorTrip : Int) ≤ m.prb.door.reading
    exact Cavity.Acts.trans (m := { m with prb := { m.prb with doorHot := now } }) (.still rfl rfl rfl rfl)
      (.levelReport ..)
  have warm (m : Cavity) : m.Acts (m.decideDoorWarm e) := by
    unfold Cavity.decideDoorWarm
    dsimp only
    split
    · exact .refl m
    · let now : Bool := m.prb.warmNow e.cfg.limits.doorWarn
      refine Cavity.Acts.trans (m := { m with prb := { m.prb with doorWarm := now } }) (.still rfl rfl rfl rfl) ?_
      exact Cavity.Acts.trans (.levelReport (e := e) .doorWarm m.prb.doorWarm now) (.fan _)
  unfold Cavity.doorSample
  obtain ⟨p, cls⟩ := k.prb.door.sample Config.doorLo Config.doorHi v
  dsimp only
  refine Cavity.Acts.trans (m := { k with prb := { k.prb with door := p } }) (.still rfl rfl rfl rfl)
    (Cavity.Acts.trans (fault _ cls) ?_)
  split
  · exact (hot _).trans (warm _)
  · exact .refl _

theorem Cavity.Acts.windowWork : k.Acts (k.windowWork e) := by
  have stage1 : k.Acts (k.stage1 e) := by
    unfold Cavity.stage1 Cavity.countCleaning Cavity.countHeld
    dsimp only
    split
    · split_ifs
      · exact Cavity.Acts.afterStill (.enterCooldown _) rfl rfl rfl rfl
      · split <;> exact .still rfl rfl rfl rfl
    · split_ifs
      · exact Cavity.Acts.afterStill (.enterCooldown _) rfl rfl rfl rfl
      · exact .still rfl rfl rfl rfl
    · exact .refl k
  have stage3 (m : Cavity) : m.Acts (m.stage3 e) := by
    unfold Cavity.stage3
    split
    next i hs hi =>
      have harr : m.Acts (m.decideArrived e (e.segs.at i)) ∧
          (m.decideArrived e (e.segs.at i)).cc.state = .cleaning := by
        unfold Cavity.decideArrived
        split
        · exact ⟨.still rfl rfl rfl rfl, hs⟩
        · exact ⟨.refl m, hs⟩
      obtain ⟨harr, hst⟩ := harr
      dsimp only
      refine harr.trans ?_
      split_ifs
      · exact .segmentEnds hst
      · exact .enterCooldown _
      · exact .segmentEnds hst
      · exact .refl _
    next => exact .refl m
  have stage2 (m : Cavity) : m.Acts (m.stage2 e) := .still rfl rfl rfl rfl
  have stage4 (m : Cavity) : m.Acts (m.stage4 e) := .still rfl rfl rfl rfl
  exact ((stage1.trans (stage2 _)).trans (stage3 _)).trans (stage4 _)

theorem Cavity.Acts.levelReview : k.Acts (k.levelReview e) := by
  unfold Cavity.levelReview
  split
  · exact .fan _
  · exact .refl k

theorem Cavity.Acts.tachPulse : k.Acts (k.tachPulse e) := by
  unfold Cavity.tachPulse
  split
  · dsimp only
    split
    · exact Cavity.Acts.afterStill (.absent _) rfl rfl rfl rfl
    · exact .still rfl rfl rfl rfl
  · exact .refl k

theorem Cavity.Acts.tachExpiry : k.Acts (k.tachExpiry e) := by
  unfold Cavity.tachExpiry
  split
  · exact .refl k
  · exact .still rfl rfl rfl rfl
  · dsimp only
    split
    · exact Cavity.Acts.afterStill (.onset _) rfl rfl rfl rfl
    · exact .still rfl rfl rfl rfl

/-! ### What every cavity takes alike, but mains and time -/

theorem Cavity.Acts.clampCook : k.Acts (k.clampCook e) := by
  unfold Cavity.clampCook
  dsimp only
  split
  · exact .still rfl rfl rfl rfl
  · exact .refl k

theorem Cavity.Acts.moveStarve : k.Acts (k.moveStarve e) := by
  unfold Cavity.moveStarve
  split
  · split
    · dsimp only
      split
      · exact Cavity.Acts.afterStill (.onset _) rfl rfl rfl rfl
      · exact .still rfl rfl rfl rfl
    · exact .still rfl rfl rfl rfl
  · exact .refl k
  · exact .still rfl rfl rfl rfl

theorem Cavity.Acts.setChannel (p : Position) (ch : Channel) : k.Acts (k.setChannel p ch) := by
  cases p <;> exact .still rfl rfl rfl rfl

end Acts

end Sys2Proof.Machine

namespace Sys2Proof.Machine

/-! ## Every operation keeps the lock law of its cavity -/

/-- The cavity's lock drive has its shape and obeys the release law. -/
def Cavity.LockLawful (e : Env) (k : Cavity) : Prop := k.lock.Lawful (k.releaseOk e)

section LockLaw
variable {e : Env} {k m : Cavity} {send : Cavity → Cavity}

theorem Cavity.lockLawful_iff :
    k.LockLawful e ↔ k.lock.shaped ∧ k.releaseLawful e.cfg.limits.unlockLevel := by
  simp [Cavity.LockLawful, Lock.Lawful, Cavity.releaseOk]

theorem Cavity.LockLawful.same (h : k.LockLawful e) (hl : m.lock = k.lock) (hp : m.prb.cavity = k.prb.cavity) :
    m.LockLawful e := by
  unfold Cavity.LockLawful Cavity.releaseOk
  rw [hl, hp]
  exact h

theorem Cavity.Acts.lockLawful (ha : k.Acts m) (h : k.LockLawful e) : m.LockLawful e := by
  induction ha with
  | refl => exact h
  | tail _ hl ih =>
    cases hl with
    | still hl hp => exact ih.same hl hp
    | leaves hl hp => exact ih.same hl hp
    | within hl hp => exact ih.same hl hp
    | trips hl hp =>
      unfold Cavity.LockLawful Cavity.releaseOk
      rw [hl, hp]
      exact ih.takeStop

/-- A way of sending RELEASE that keeps the lock law. -/
def Cavity.SendsLawfully (e : Env) (send : Cavity → Cavity) : Prop :=
  ∀ k : Cavity, k.LockLawful e → (send k).LockLawful e

theorem Cavity.LockLawful.failStart (h : k.LockLawful e) (hsend : Cavity.SendsLawfully e send)
    (why : StartFault) : (k.failStart e why send).LockLawful e := by
  have hin : ((k.writeEnd (.startFailed why)).enterState e .unlocking).LockLawful e := h.same rfl rfl
  exact Cavity.Acts.decideEntry.lockLawful (hsend _ hin)

theorem Cavity.LockLawful.enterCleaning (h : k.LockLawful e) : (k.enterCleaning e).LockLawful e := by
  cases hi : k.cc.startSeg with
  | none =>
    unfold Cavity.enterCleaning
    rw [hi]
    exact h
  | some i =>
    have hbegun : (k.begun e).LockLawful e := h.same rfl rfl
    rw [Cavity.enterCleaning_eq hi]
    exact (Cavity.Acts.trans (.moveTo rfl i) .decideEntry).lockLawful hbegun

theorem Cavity.LockLawful.handOver (h : k.LockLawful e) (hsend : Cavity.SendsLawfully e send) (r : LockReport) :
    (k.handOver e send r).LockLawful e := by
  cases r with
  | jamPresent => exact (Cavity.Acts.onset _).lockLawful h
  | jamAbsent => exact (Cavity.Acts.absent _).lockLawful h
  | lockLost => exact (Cavity.Acts.momentary _).lockLawful h
  | doorForced => exact (Cavity.Acts.momentary _).lockLawful h
  | locked =>
    simp only [Cavity.handOver, Cavity.answer]
    split
    · exact h.enterCleaning
    · exact hsend k h
    · exact h
  | opened =>
    rw [Cavity.handOver_opened]
    split
    · exact Cavity.Acts.endInIdle.lockLawful h
    · exact h
  | unknown =>
    simp only [Cavity.handOver, Cavity.answer]
    split
    · exact h.failStart hsend _
    · exact hsend k h
    · exact h
  | jammed =>
    simp only [Cavity.handOver, Cavity.answer]
    split
    · exact h.failStart hsend _
    · exact h
  | doorOpened =>
    simp only [Cavity.handOver, Cavity.answer]
    split
    · exact h.failStart (fun _ => id) _
    · exact h
  | lockRefused =>
    simp only [Cavity.handOver, Cavity.answer]
    split
    · exact Cavity.Acts.endInIdle.lockLawful (k := k.writeEnd (.startFailed .doorOpen)) (h.same rfl rfl)
    · exact Cavity.Acts.endInIdle.lockLawful h
    · exact h

theorem Cavity.lockLawful_afterLock (hsend : Cavity.SendsLawfully e send) {res : Lock × List LockReport}
    (h : res.1.Lawful (k.releaseOk e)) : (k.afterLock e send res).LockLawful e := by
  obtain ⟨l, rs⟩ := res
  suffices hall : ∀ (rs : List LockReport) (m : Cavity), m.LockLawful e →
      (rs.foldl (fun k r => k.handOver e send r) m).LockLawful e from hall rs { k with lock := l } h
  intro rs
  induction rs with
  | nil => exact fun _ hm => hm
  | cons r rs ih => exact fun m hm => ih _ (hm.handOver hsend r)

theorem Cavity.LockLawful.sendRelease (h : k.LockLawful e) : (k.sendRelease e).LockLawful e :=
  Cavity.lockLawful_afterLock (fun _ => id) (Lock.Lawful.takeRelease (v := k.lockEnv e) h)

/-- A change at the lock drive that keeps its record lawful. -/
theorem Cavity.lockLawful_lockChanged {res : Lock × List LockReport} (h : res.1.Lawful (k.releaseOk e)) :
    (k.lockChanged e res).LockLawful e := Cavity.lockLawful_afterLock (fun _ => .sendRelease) h

/-- UNLOCKING entered with a RELEASE. -/
theorem Cavity.LockLawful.unlock (h : k.LockLawful e) :
    (((k.enterState e .unlocking).sendRelease e).decideEntry e).LockLawful e := by
  have hin : (k.enterState e .unlocking).LockLawful e := h.same rfl rfl
  exact Cavity.Acts.decideEntry.lockLawful hin.sendRelease

/-- The orders keep the lock law. -/
theorem Cavity.Order.lockLawful (ho : k.Order e m) (h : k.LockLawful e) : m.LockLawful e := by
  cases ho with
  | start i =>
    unfold Cavity.cleanStart
    split_ifs
    all_goals first | exact h | skip
    let k2 : Cavity := { k.enterState e .locking with
      cc := { (k.enterState e .locking).cc with startSeg := some i } }
    have hk2 : k2.LockLawful e := h.same rfl rfl
    exact Cavity.Acts.decideEntry.lockLawful
      (Cavity.lockLawful_lockChanged (k := k2) (Lock.Lawful.takeLock (v := k2.lockEnv e) hk2))
  | hold => exact Cavity.Acts.cleanHold.lockLawful h
  | resume => exact Cavity.Acts.cleanResume.lockLawful h
  | abandon =>
    unfold Cavity.cleanAbandon
    split
    · exact Cavity.LockLawful.unlock (k := k.writeEnd .abandoned) (h.same rfl rfl)
    · exact (Cavity.Acts.enterCooldown _).lockLawful h
    · exact (Cavity.Acts.enterCooldown _).lockLawful h
    all_goals exact h
  | cook v elems => exact (Cavity.Acts.cookSet v elems).lockLawful h
  | cookOff => exact Cavity.Acts.cookOff.lockLawful h
  | events b => exact (Cavity.Acts.eventsAck b).lockLawful h
  | conditions w => exact (Cavity.Acts.conditionsAck w).lockLawful h
  | clear =>
    let k1 : Cavity := { k with cond := { k.cond with trip := none } }
    have hk1 : k1.LockLawful e := h.same rfl rfl
    unfold Cavity.faultClear
    dsimp only
    split_ifs
    · exact h
    · exact h
    · exact h
    · exact Cavity.Acts.endInIdle.lockLawful hk1
    · exact hk1.unlock

/-! ### A cavity sample -/

theorem Cavity.LockLawful.goodSample (h : k.LockLawful e) : (k.goodSample e).LockLawful e := by
  unfold Cavity.goodSample
  dsimp only
  split
  · exact h
  split
  · split_ifs
    · exact Cavity.Acts.endInIdle.lockLawful h
    · exact h.unlock
    · exact h
  · split_ifs
    · exact h.sendRelease
    · exact h
  · split_ifs
    · exact h.sendRelease
    · exact h
  · exact h

theorem Cavity.LockLawful.recoverStage (h : k.LockLawful e) (third : Bool) :
    (k.recoverStage e third).LockLawful e := by
  unfold Cavity.recoverStage Cavity.recover
  let k1 : Cavity := { k with cc := { k.cc with recovering := false } }
  have hk1 : k1.LockLawful e := h.same rfl rfl
  dsimp only
  split_ifs
  · exact hk1
  · exact hk1.same rfl rfl
  · exact Cavity.LockLawful.unlock (k := k1.writeEnd .recovered) (hk1.same rfl rfl)
  · exact (Cavity.Acts.enterCooldown _).lockLawful hk1
  · exact h

/-- A stopped motor meets any check. -/
theorem Lock.shaped.stopOpenDrive {l : Lock} (h : l.shaped) (check : Bool) :
    l.stopOpenDrive.1.Lawful check := by
  unfold Lock.stopOpenDrive
  split
  · exact Lock.lawful_rest_unknown
  next hm => exact ⟨h, fun ht => absurd ht hm⟩

theorem Lock.shaped.takeStop {l : Lock} (h : l.shaped) : l.takeStop.1.shaped ∧ l.takeStop.1.motor ≠ .towardOpen := by
  unfold Lock.takeStop
  split
  · exact ⟨(Lock.lawful_rest_unknown (check := false)).1, nofun⟩
  next ht =>
    obtain ⟨-, -, hmotor, -⟩ := h.atRest (by simpa using ht)
    exact ⟨h, by rw [hmotor]; nofun⟩

/-- Before the release law has been looked at: the lock is as it was, or its motor does not run toward open. -/
theorem Cavity.Acts.lockShaped (ha : k.Acts m) (h : k.lock.shaped) :
    m.prb.cavity = k.prb.cavity ∧ m.lock.shaped ∧ (m.lock = k.lock ∨ m.lock.motor ≠ .towardOpen) := by
  induction ha with
  | refl => exact ⟨rfl, h, .inl rfl⟩
  | tail _ hl ih =>
    obtain ⟨hprb, hshaped, hlock⟩ := ih
    cases hl with
    | still hl hp => exact ⟨hp.trans hprb, by rwa [hl], by rwa [hl]⟩
    | leaves hl hp => exact ⟨hp.trans hprb, by rwa [hl], by rwa [hl]⟩
    | within hl hp => exact ⟨hp.trans hprb, by rwa [hl], by rwa [hl]⟩
    | trips hl hp =>
      obtain ⟨hs, hm⟩ := hshaped.takeStop
      exact ⟨hp.trans hprb, by rwa [hl], by rw [hl]; exact .inr hm⟩

/-- A sample that begins no fault leaves a sound probe sound, with its reading unless the sample is good. -/
theorem Probe.after_of_sound {lo hi v : Int} {p : Probe} (hf : p.fault = false)
    (hr : p.faultReported lo hi v = false) :
    (p.after lo hi v).fault = false ∧
      (p.goodSample lo hi v = true ∨ (p.after lo hi v).reading = p.reading) := by
  by_cases hin : lo ≤ v ∧ v ≤ hi
  · simp [Probe.after, Probe.goodSample, hf, hin]
  · have hbad : ¬ 2 ≤ p.bad := by simpa [Probe.faultReported, hf, hin] using hr
    simp [Probe.after, hf, hin, hbad]

/-- The release law's stage brings a cavity back to the lock law. -/
theorem Cavity.LockLawful.releaseLaw {v : Int} (h : k.LockLawful e)
    (hprb : m.prb.cavity = k.prb.cavity.after (-400) 6000 v) (hs : m.lock.shaped)
    (hl : m.lock = k.lock ∨ m.lock.motor ≠ .towardOpen) :
    (m.releaseLaw e (k.prb.cavity.sampleClass v)).LockLawful e := by
  unfold Cavity.releaseLaw
  split
  next => exact Cavity.lockLawful_lockChanged (hs.stopOpenDrive _)
  next hcond =>
    refine Cavity.lockLawful_iff.2 ⟨hs, fun hmotor => ?_⟩
    have hk : k.prb.cavity.fault = false ∧ k.prb.cavity.reading < e.cfg.limits.unlockLevel := by
      refine (Cavity.lockLawful_iff.1 h).2 ?_
      rw [← hl.resolve_right (not_not.2 hmotor)]
      exact hmotor
    simp only [Probe.sampleClass, Bool.or_eq_true, Bool.and_eq_true, decide_eq_true_eq, not_or, not_and,
      Bool.not_eq_true, not_le] at hcond
    obtain ⟨honset, hgood⟩ := hcond
    obtain ⟨hfault, hread⟩ := Probe.after_of_sound hk.1 honset
    rw [hprb] at hgood ⊢
    refine ⟨hfault, ?_⟩
    obtain hg | hread := hread
    · exact hgood hg
    · rw [hread]
      exact hk.2

theorem Cavity.LockLawful.cavitySample (h : k.LockLawful e) (v : Int) : (k.cavitySample e v).LockLawful e := by
  rw [Cavity.cavitySample_eq]
  have hacts : (k.probed v).Acts (if (k.prb.cavity.sampleClass v).good then
      ((k.probed v).reportCavityFault e (k.prb.cavity.sampleClass v)).checkOvertemp e
      else (k.probed v).reportCavityFault e (k.prb.cavity.sampleClass v)) := by
    split
    · exact Cavity.Acts.trans (.reportCavityFault _) .checkOvertemp
    · exact .reportCavityFault _
  obtain ⟨hprb, hshaped, hlock⟩ := hacts.lockShaped h.1
  have h3 := h.releaseLaw hprb hshaped hlock
  have h4 := (Cavity.Acts.markStage (e := e) (k.prb.cavity.sampleClass v)).lockLawful h3
  have h5 := h4.recoverStage (decide ((k.prb.cavity.after (-400) 6000 v).taken = 3))
  have last (m : Cavity) (hm : m.LockLawful e) :
      (if (k.prb.cavity.sampleClass v).good then m.goodSample e else m).LockLawful e := by
    split
    · exact hm.goodSample
    · exact hm
  exact last _ h5

/-! ### Events, and what every cavity takes alike -/

theorem Cavity.Event.lockLawful (he : k.Event e m) (h : k.LockLawful e) : m.LockLawful e := by
  cases he with
  | cavitySample v => exact h.cavitySample v
  | doorSample v => exact (Cavity.Acts.doorSample v).lockLawful h
  | lockSwitch sw active =>
    exact Cavity.lockLawful_lockChanged (Lock.Lawful.switchChange (v := k.lockEnv e) h sw active)
  | doorSwitch c => exact Cavity.lockLawful_lockChanged (Lock.Lawful.doorChange (v := k.lockEnv e) h c)
  | timeout => exact Cavity.lockLawful_lockChanged (Lock.Lawful.timeout (v := k.lockEnv e) h)
  | review => exact Cavity.Acts.levelReview.lockLawful h
  | pulse => exact Cavity.Acts.tachPulse.lockLawful h
  | expiry => exact Cavity.Acts.tachExpiry.lockLawful h
  | work => exact Cavity.Acts.windowWork.lockLawful h

theorem Cavity.Common.lockLawful (hc : k.Common e m) (h : k.LockLawful e) : m.LockLawful e := by
  cases hc with
  | clearEvents => exact h.same rfl rfl
  | clampClean => exact h.same rfl rfl
  | clampCook => exact Cavity.Acts.clampCook.lockLawful h
  | enables old => exact (Cavity.Acts.decideAmong _).lockLawful h
  | starve => exact Cavity.Acts.moveStarve.lockLawful h
  | mainsBack => exact Cavity.lockLawful_lockChanged (Lock.Lawful.mainsBack (v := k.lockEnv e) h)
  | pass => exact Lock.Lawful.pass h
  | shed p => exact (Cavity.Acts.setChannel p _).lockLawful h

/-- A lowered unlock level brings a cavity whose lock has its shape to the lock law at that level. -/
theorem Cavity.lockLawful_unlockLowered (h : k.lock.shaped) : (k.unlockLowered e).LockLawful e := by
  unfold Cavity.unlockLowered
  split
  next hc => exact ⟨h, fun _ => hc⟩
  next => exact Cavity.lockLawful_lockChanged (h.stopOpenDrive _)

end LockLaw

/-! ### Every kind of change keeps the lock law -/

section LockShifts
variable {s t : State}

/-- What the lock law asks of one cavity at an unlock level. -/
def Cavity.LockLawAt (unlock : Nat) (k : Cavity) : Prop := k.lock.shaped ∧ k.releaseLawful unlock

theorem State.lockLaw_iff (s : State) :
    s.LockLaw ↔ ∀ c, (s.cav c).LockLawAt s.cfg.limits.unlockLevel := Iff.rfl

theorem Cavity.LockLawAt.same {u : Nat} {k m : Cavity} (h : k.LockLawAt u) (hl : m.lock = k.lock)
    (hp : m.prb.cavity = k.prb.cavity) : m.LockLawAt u := by
  unfold Cavity.LockLawAt Cavity.releaseLawful
  rw [hl, hp]
  exact h

/-- A lock at rest by its switches. -/
theorem Lock.lawful_fromSwitches (l : Lock) (check : Bool) : l.fromSwitches.Lawful check := by
  refine Lock.lawful_rest l.travelling_fromSwitches (fun h => ?_) fun h => ?_ <;>
    · unfold lockStateOf at h
      cases hl : l.lockedSw <;> cases ho : l.openSw <;> simp_all [Lock.standsLocked, Lock.standsOpen]

theorem Cavity.lockLawAt_fromSwitches {u : Nat} {k : Cavity} {l : Lock} (h : k.lock = l.fromSwitches) :
    k.LockLawAt u := by
  obtain ⟨hshape, -⟩ := l.lawful_fromSwitches false
  unfold Cavity.LockLawAt Cavity.releaseLawful
  rw [h]
  exact ⟨hshape, nofun⟩

/-- Every kind of change keeps the lock law. -/
theorem State.Shift.lockLaw (h : State.Shift s t) (hu : s.UnfittedLaw) (hs : s.LockLaw) : t.LockLaw := by
  have setCav {c : CavNo} {k : Cavity} (hk : k.LockLawAt s.cfg.limits.unlockLevel) :
      (s.setCav c k).LockLaw := by
    rw [State.lockLaw_iff, State.setCav_cfg]
    exact State.forall_setCav (P := fun _ k => k.LockLawAt s.cfg.limits.unlockLevel) hs hk
  have lawful (c : CavNo) : (s.cav c).LockLawful (s.env c) := Cavity.lockLawful_iff.2 (hs c)
  cases h with
  | aside hf hc =>
    rw [State.lockLaw_iff, hf.unlock]
    intro c
    rw [hc]
    exact hs c
  | opens h l hl => exact hs
  | order c hf ho h => exact setCav (Cavity.lockLawful_iff.1 (h.lockLawful (lawful c)))
  | event c hf h => exact setCav (Cavity.lockLawful_iff.1 (h.lockLawful (lawful c)))
  | common c h => exact setCav (Cavity.lockLawful_iff.1 (h.lockLawful (lawful c)))
  | follows c hf sw active => exact setCav (Cavity.lockLawAt_fromSwitches rfl)
  | followsDoor c hf cl => exact setCav (hs c)
  | unlock v =>
    obtain ⟨-, -, -, hcfg, hc⟩ := s.storeUnlock_eq v
    rw [State.lockLaw_iff, hcfg]
    intro c
    obtain ⟨h, hle⟩ | ⟨-, h⟩ := hc c
    · rw [h]
      refine ⟨(hs c).1, fun hm => ?_⟩
      obtain ⟨hfault, hread⟩ := (hs c).2 hm
      exact ⟨hfault, hread.trans_le (by simpa [Settings.set] using hle)⟩
    · rw [h]
      exact Cavity.lockLawful_iff.1 (Cavity.lockLawful_unlockLowered
        (e := ({ s with cfg := s.cfg.set .unlockLevel v } : State).env c) (hs c).1)
  | fits v hidle =>
    obtain ⟨-, -, -, hcfg, hc⟩ := s.storeFitted_eq v
    rw [State.lockLaw_iff, hcfg]
    intro c
    rw [hc]
    split
    · exact hs c
    next hne =>
      cases hf : s.fitted c with
      | true =>
        rw [show (s.storeFitted v).fitted c = false by simpa [hf] using Ne.symm hne]
        exact Cavity.lockLawAt_fromSwitches rfl
      | false =>
        obtain ⟨-, -, -, -, -, hlock⟩ := hu c hf
        rw [show (s.storeFitted v).fitted c = true by simpa [hf] using Ne.symm hne]
        exact Cavity.lockLawAt_fromSwitches hlock
  | segment g _ => exact hs
  | window segs slot cfg link h =>
    rw [State.lockLaw_iff, cfg]
    intro c
    rw [(h c).1]
    exact Cavity.LockLawAt.same (hs c) rfl rfl
  | slot hi hij =>
    rw [State.lockLaw_iff, State.beginSlot_cfg]
    intro c
    rw [State.beginSlot_cav]
    exact Cavity.LockLawAt.same (hs c) rfl rfl
  | dropout segs slot cfg link h =>
    rw [State.lockLaw_iff, cfg]
    intro c
    rw [h]
    have hgone : ({ s.cav c with lock := (s.cav c).lock.mainsGone } : Cavity).LockLawful (s.env c) :=
      Lock.Lawful.mainsGone (lawful c)
    exact Cavity.lockLawful_iff.1 hgone
  | starts inp =>
    exact State.cav_cases (P := fun c => ((s.startUp inp).cav c).LockLawAt _)
      (Cavity.lockLawAt_fromSwitches rfl) (Cavity.lockLawAt_fromSwitches rfl)
      (Cavity.lockLawAt_fromSwitches rfl)

end LockShifts

end Sys2Proof.Machine

namespace Sys2Proof.Machine

/-! ## The door law of one cavity -/

/-- A cavity that neither starts nor runs a program, its lock at rest where it is FAULTED. -/
def Cavity.Calm (k : Cavity) : Prop :=
  k.cc.state.quiet ∨ (k.cc.state = .faulted ∧ k.lock.state.travelling = false)

/-- What the door law asks of one cavity. -/
def Cavity.Doored (k : Cavity) : Prop :=
  (k.cc.state = .cleaning ∨ k.cc.state = .held → k.lock.state = .locked) ∧
    (k.cc.state = .locking → k.lock.state.travelling = true ∧ k.lock.goal = some .locked ∧
      k.cc.startSeg ≠ none) ∧
    (k.cc.state = .faulted → k.lock.state.travelling = false)

/-- What a START's lock drive may make of an event: it runs on, ends, or gives the start up. -/
inductive Lock.StartGoes : Lock × List LockReport → Prop
  | runs {l : Lock} (ht : l.state.travelling = true) (hg : l.goal = some .locked) : StartGoes (l, [])
  | ends {l : Lock} (h : l.state = .locked) : StartGoes (l, [.locked])
  | unknown (l : Lock) : StartGoes (l, [.unknown])
  | refused (l : Lock) : StartGoes (l, [.lockRefused])
  | jams (l : Lock) : StartGoes l.jam
  | turns (l : Lock) : StartGoes (l, [.doorOpened])
  | turned (l : Lock) : StartGoes (l, [.opened, .doorOpened])
  | turnJams (l : Lock) : StartGoes (l.rest .jammed, [.jamPresent, .jammed, .doorOpened])

/-- What a lock in LOCKED may make of an event. -/
inductive Lock.LockedGoes : Lock × List LockReport → Prop
  | stays {l : Lock} (h : l.state = .locked) : LockedGoes (l, [])
  | forced {l : Lock} (h : l.state = .locked) : LockedGoes (l, [.doorForced])
  | lost (l : Lock) : LockedGoes (l.rest .unknown, [.lockLost, .unknown])

/-- An event leaves a lock at rest at rest, a start's drive on its way or given up, and a lock in LOCKED there
or lost. -/
structure Lock.Orderly (l : Lock) (res : Lock × List LockReport) : Prop where
  rests : l.state.travelling = false → res.1.state.travelling = false
  starts : l.state.travelling = true → l.goal = some .locked → Lock.StartGoes res
  locked : l.state = .locked → Lock.LockedGoes res

section Door
variable {e : Env} {k m : Cavity} {send : Cavity → Cavity}

theorem Cavity.Calm.doored (h : k.Calm) : k.Doored := by
  obtain (h | h | h | h) | ⟨h, hl⟩ := h
  all_goals simp_all [Cavity.Doored]

theorem Cavity.Act.calm (ha : k.Act m) (h : k.Calm) : m.Calm := by
  cases ha with
  | still hl hp hs hi =>
    unfold Cavity.Calm
    rw [hs, hl]
    exact h
  | leaves hl hp hs => exact .inl hs
  | trips hl hp hs => exact .inr ⟨hs, by rw [hl]; exact Lock.takeStop_rests _⟩
  | within hl hp hk hm =>
    obtain (h | h | h | h) | ⟨h, -⟩ := h <;> simp [CavState.inProgram, h] at hk

theorem Cavity.Act.doored (ha : k.Act m) (h : k.Doored) : m.Doored := by
  cases ha with
  | still hl hp hs hi =>
    unfold Cavity.Doored
    rw [hs, hl, hi]
    exact h
  | leaves hl hp hs => exact Cavity.Calm.doored (.inl hs)
  | trips hl hp hs => exact Cavity.Calm.doored (.inr ⟨hs, by rw [hl]; exact Lock.takeStop_rests _⟩)
  | within hl hp hk hm =>
    have hlock := h.1 hk
    refine ⟨fun _ => by rw [hl]; exact hlock, fun hs => ?_, fun hs => ?_⟩ <;>
      simp [CavState.inProgram, hs] at hm

theorem Cavity.Acts.calm (ha : k.Acts m) (h : k.Calm) : m.Calm := by
  induction ha with
  | refl => exact h
  | tail _ hl ih => exact hl.calm ih

theorem Cavity.Acts.doored (ha : k.Acts m) (h : k.Doored) : m.Doored := by
  induction ha with
  | refl => exact h
  | tail _ hl ih => exact hl.doored ih

/-! ### Reports in a calm cavity -/

/-- A way of sending RELEASE that keeps a cavity in a quiet state calm. -/
def Cavity.SendsCalmly (send : Cavity → Cavity) : Prop := ∀ k : Cavity, k.cc.state.quiet → (send k).Calm

theorem Cavity.calm_endInIdle : (k.endInIdle e).Calm := by
  have h : ((k.enterState e .idle).setEvent .cycleEnded).Calm := .inl (.inl rfl)
  exact Cavity.Acts.decideEntry.calm h

theorem Cavity.calm_enterCooldown (why : LastEnd) : (k.enterCooldown e why).Calm := by
  have h : (((k.writeEnd why).enterState e .cooldown).clearProgram).Calm := .inl (.inr (.inr (.inl rfl)))
  exact Cavity.Acts.decideEntry.calm h

theorem Cavity.calm_failStart (hsend : Cavity.SendsCalmly send) (why : StartFault) :
    (k.failStart e why send).Calm :=
  Cavity.Acts.decideEntry.calm (hsend _ (.inr (.inr (.inr rfl))))

theorem Cavity.Calm.handOver (h : k.Calm) (hsend : Cavity.SendsCalmly send) (r : LockReport) :
    (k.handOver e send r).Calm := by
  have hne : k.cc.state ≠ .locking := by
    obtain (h | h | h | h) | ⟨h, -⟩ := h <;> simp [h]
  cases r with
  | jamPresent => exact (Cavity.Acts.onset _).calm h
  | jamAbsent => exact (Cavity.Acts.absent _).calm h
  | lockLost => exact (Cavity.Acts.momentary _).calm h
  | doorForced => exact (Cavity.Acts.momentary _).calm h
  | locked =>
    simp only [Cavity.handOver, Cavity.answer]
    split
    next hs => exact absurd hs hne
    next hs => exact hsend k (.inr (.inr (.inr hs)))
    next => exact h
  | opened =>
    rw [Cavity.handOver_opened]
    split
    · exact Cavity.calm_endInIdle
    · exact h
  | unknown =>
    simp only [Cavity.handOver, Cavity.answer]
    split
    next hs => exact absurd hs hne
    next hs => exact hsend k (.inr (.inr (.inr hs)))
    next => exact h
  | jammed =>
    simp only [Cavity.handOver, Cavity.answer, hne, decide_false, Bool.false_and, Bool.false_eq_true, if_false]
    exact h
  | doorOpened =>
    simp only [Cavity.handOver, Cavity.answer, hne, if_false]
    exact h
  | lockRefused =>
    simp only [Cavity.handOver, Cavity.answer]
    split
    next hs => exact absurd hs hne
    next => exact Cavity.calm_endInIdle
    next => exact h

/-- A change at the lock of a cavity in a quiet state, or of a FAULTED one whose lock it leaves at rest. -/
theorem Cavity.calm_afterLock (hsend : Cavity.SendsCalmly send) {res : Lock × List LockReport}
    (h : k.cc.state.quiet ∨ (k.cc.state = .faulted ∧ res.1.state.travelling = false)) :
    (k.afterLock e send res).Calm := by
  obtain ⟨l, rs⟩ := res
  suffices hall : ∀ (rs : List LockReport) (m : Cavity), m.Calm →
      (rs.foldl (fun k r => k.handOver e send r) m).Calm from hall rs { k with lock := l } h
  intro rs
  induction rs with
  | nil => exact fun _ hm => hm
  | cons r rs ih => exact fun m hm => ih _ (hm.handOver hsend r)

theorem Cavity.calm_sendRelease : Cavity.SendsCalmly (Cavity.sendRelease e) := fun _ h =>
  Cavity.calm_afterLock (fun _ h => .inl h) (.inl h)

/-- UNLOCKING entered with a RELEASE. -/
theorem Cavity.calm_unlock : (((k.enterState e .unlocking).sendRelease e).decideEntry e).Calm :=
  Cavity.Acts.decideEntry.calm (Cavity.calm_sendRelease _ (.inr (.inr (.inr rfl))))

/-! ### Reports in a start -/

/-- A jam in LOCKING trips, or fails the start. -/
theorem Cavity.calm_jam (hsend : Cavity.SendsCalmly send) (hk : k.cc.state = .locking) (l : Lock) :
    ((({ k with lock := l.rest .jammed } : Cavity).handOver e send .jamPresent).handOver e send .jammed).Calm := by
  let k1 : Cavity := { k with lock := l.rest .jammed, cond := { k.cond with
    present := k.cond.present.add .lockJam, seen := k.cond.seen.add .lockJam } }
  have hon : ({ k with lock := l.rest .jammed } : Cavity).handOver e send .jamPresent = k1.judge e .lockJam := rfl
  have hs : k1.cc.state = .locking := hk
  rw [hon]
  by_cases hen : e.page.enabled .lockJam = true
  · have htrip : k1.judge e .lockJam = k1.trip e .lockJam 0 := by
      simp [Cavity.judge, hs, CavState.trips, hen]
    rw [htrip]
    refine Cavity.Calm.handOver (.inr ⟨Cavity.trip_state .., ?_⟩) hsend _
    rw [Cavity.trip_lock]
    exact Lock.takeStop_rests _
  · have hstay : k1.judge e .lockJam = k1 := by simp [Cavity.judge, hs, CavState.trips, hen]
    have hfail : k1.handOver e send .jammed = k1.failStart e .lockJam send := by
      simp [Cavity.handOver, Cavity.answer, hs, hen]
    rw [hstay, hfail]
    exact Cavity.calm_failStart hsend _

/-- A start goes on, begins the cycle, or ends in a calm state. -/
theorem Cavity.doored_of_startGoes (hsend : Cavity.SendsCalmly send) (hk : k.cc.state = .locking)
    (hi : k.cc.startSeg ≠ none) {res : Lock × List LockReport} (h : Lock.StartGoes res) :
    (k.afterLock e send res).Doored := by
  cases h with
  | runs ht hg => exact ⟨by simp [hk], fun _ => ⟨ht, hg, hi⟩, by simp [hk]⟩
  | @ends l hl =>
    obtain ⟨i, hi⟩ := Option.ne_none_iff_exists'.1 hi
    let k1 : Cavity := { k with lock := l }
    have hstart : k.afterLock e send (l, [.locked]) = k1.enterCleaning e := by
      simp [k1, Cavity.handOver, Cavity.answer, hk]
    rw [hstart, Cavity.enterCleaning_eq (k := k1) hi]
    refine (Cavity.Acts.trans (.moveTo rfl i) .decideEntry).doored (k := k1.begun e) ?_
    exact ⟨fun _ => hl, nofun, nofun⟩
  | unknown l =>
    rw [Cavity.afterLock_one]
    simp only [Cavity.handOver, Cavity.answer, hk]
    exact (Cavity.calm_failStart hsend _).doored
  | refused l =>
    rw [Cavity.afterLock_one]
    simp only [Cavity.handOver, Cavity.answer, hk]
    exact Cavity.calm_endInIdle.doored
  | jams l => exact (Cavity.calm_jam hsend hk l).doored
  | turns l =>
    rw [Cavity.afterLock_one]
    simp only [Cavity.handOver, Cavity.answer, hk, if_true]
    exact (Cavity.calm_failStart (fun _ h => .inl h) _).doored
  | turned l =>
    rw [Cavity.afterLock_cons, Cavity.handOver_opened, if_neg (by simp [hk]), Cavity.afterLock_one]
    simp only [Cavity.handOver, Cavity.answer, hk, if_true]
    exact (Cavity.calm_failStart (fun _ h => .inl h) _).doored
  | turnJams l => exact ((Cavity.calm_jam hsend hk l).handOver hsend .doorOpened).doored

/-! ### Reports in the program -/

/-- The lock of a cavity in its program stays LOCKED, or its loss trips. -/
theorem Cavity.doored_of_lockedGoes (hsend : Cavity.SendsCalmly send) (hk : k.cc.state.inProgram)
    {res : Lock × List LockReport} (h : Lock.LockedGoes res) : (k.afterLock e send res).Doored := by
  have within {l : Lock} (hl : l.state = .locked) : ({ k with lock := l } : Cavity).Doored := by
    refine ⟨fun _ => hl, fun hs => ?_, fun hs => ?_⟩ <;>
      simp [CavState.inProgram, show k.cc.state = _ from hs] at hk
  cases h with
  | stays hl => exact within hl
  | forced hl =>
    rw [Cavity.afterLock_one]
    exact (Cavity.Acts.momentary _).doored (within hl)
  | lost l =>
    let k1 : Cavity := { k with lock := l.rest .unknown }
    have htrip : tripsIn e.page k1.cc.state .lockLost = true := by
      obtain h | h := hk <;> rw [show k1.cc.state = _ from h] <;> rfl
    have hlost : k.afterLock e send (l.rest .unknown, [.lockLost, .unknown]) =
        (k1.momentary e .lockLost).handOver e send .unknown := rfl
    rw [hlost, Cavity.momentary_of_trips _ _ htrip]
    refine (Cavity.Calm.handOver (.inr ⟨Cavity.trip_state .., ?_⟩) hsend _).doored
    rw [Cavity.trip_lock]
    exact Lock.takeStop_rests _

/-- An orderly event at the lock keeps the door law. -/
theorem Cavity.Doored.lockChanged (h : k.Doored) {res : Lock × List LockReport} (ho : k.lock.Orderly res) :
    (k.lockChanged e res).Doored := by
  obtain ⟨hprogram, hlocking, hfaulted⟩ := h
  by_cases hl : k.cc.state = .locking
  · obtain ⟨ht, hg, hi⟩ := hlocking hl
    exact Cavity.doored_of_startGoes Cavity.calm_sendRelease hl hi (ho.starts ht hg)
  by_cases hp : k.cc.state.inProgram
  · exact Cavity.doored_of_lockedGoes Cavity.calm_sendRelease hp (ho.locked (hprogram hp))
  · refine (Cavity.calm_afterLock Cavity.calm_sendRelease ?_).doored
    by_cases hf : k.cc.state = .faulted
    · exact .inr ⟨hf, ho.rests (hfaulted hf)⟩
    · refine .inl ?_
      cases hs : k.cc.state <;> simp_all [CavState.quiet]

/-! ### The events at the lock are orderly -/

section Orderly
variable {v : LockEnv} {l : Lock}

/-- What an event gives in a lock at rest, in a start's drive in each direction, and in LOCKED. -/
theorem Lock.orderly_of {res : Lock × List LockReport}
    (hrest : l.state.travelling = false → res.1.state.travelling = false)
    (hclosing : l.state = .closing → l.goal = some .locked → Lock.StartGoes res)
    (hopening : l.state = .opening → l.goal = some .locked → Lock.StartGoes res)
    (hlocked : l.state = .locked → Lock.LockedGoes res) : l.Orderly res := by
  refine ⟨hrest, fun ht hg => ?_, hlocked⟩
  cases hs : l.state with
  | closing => exact hclosing hs hg
  | opening => exact hopening hs hg
  | opened | locked | jammed | unknown => simp [hs, LockState.travelling] at ht

/-- A leg toward closed of a LOCK drive. -/
theorem Lock.startGoes_finalLeg (n : Nat) : Lock.StartGoes (l.finalLeg v .closing .locked n) := by
  unfold Lock.finalLeg
  split
  · exact .ends rfl
  · exact .runs rfl rfl

theorem Lock.startGoes_turnLock : Lock.StartGoes (l.turnLock v) := by
  unfold Lock.turnLock
  split
  · exact Lock.startGoes_finalLeg 2
  · exact .refused _

theorem Lock.orderly_stopOpenDrive (hs : l.shaped) : l.Orderly l.stopOpenDrive := by
  have still (ht : l.state.travelling = false) : l.stopOpenDrive = (l, []) := by
    obtain ⟨-, -, hm, -⟩ := hs.atRest ht
    simp [Lock.stopOpenDrive, hm]
  have start (ht : l.state.travelling = true) (hg : l.goal = some .locked) :
      Lock.StartGoes l.stopOpenDrive := by
    unfold Lock.stopOpenDrive
    split
    · exact .unknown _
    · exact .runs ht hg
  refine ⟨fun ht => by rwa [still ht], start, fun h => ?_⟩
  rw [still (by rw [h]; rfl)]
  exact .stays h

theorem Lock.orderly_mainsBack : l.Orderly (l.mainsBack v) := by
  have hback : l.mainsBack v = match l.state with
      | .closing => ({ l with mains := true, motor := .towardClosed, timer := l.timer.resume }, [])
      | .opening => if v.check then ({ l with mains := true, motor := .towardOpen, timer := l.timer.resume }, [])
          else (({ l with mains := true } : Lock).rest .unknown, [.unknown])
      | _ => ({ l with mains := true }, []) := rfl
  refine Lock.orderly_of (fun ht => ?_) (fun hs hg => ?_) (fun hs hg => ?_) (fun hs => ?_)
  · rw [hback]
    cases hs : l.state <;> simp_all [LockState.travelling]
  · simp only [hback, hs]
    exact .runs rfl hg
  · simp only [hback, hs]
    split
    · exact .runs rfl hg
    · exact .unknown _
  · simp only [hback, hs]
    exact .stays rfl

theorem Lock.orderly_timeout : l.Orderly (l.timeout v) := by
  have still (ht : l.state.travelling = false) : l.timeout v = (l, []) := by simp [Lock.timeout, ht]
  refine ⟨fun ht => by rwa [still ht], fun ht hg => ?_, fun hs => ?_⟩
  · unfold Lock.timeout
    rw [if_neg (show ¬ l.goal = some .opened by simp [hg])]
    split_ifs
    · unfold Lock.retryLock
      split
      · exact Lock.startGoes_turnLock
      · exact .runs rfl rfl
    · exact .jams l
    · exact .jams l
    · exact .runs ht hg
  · rw [still (by rw [hs]; rfl)]
    exact .stays hs

/-- A lock whose state and goal are as they were, with nothing reported. -/
theorem Lock.orderly_same {l1 : Lock} (hs : l1.state = l.state) (hg : l1.goal = l.goal) : l.Orderly (l1, []) :=
  ⟨fun ht => by rwa [hs], fun ht hl => .runs (by rwa [hs]) (by rwa [hg]), fun h => .stays (hs.trans h)⟩

theorem Lock.orderly_doorChange (closed : Bool) : l.Orderly (l.doorChange v closed) := by
  unfold Lock.doorChange
  split
  · exact Lock.orderly_same rfl rfl
  dsimp only
  split
  · exact Lock.orderly_same rfl rfl
  refine Lock.orderly_of (fun ht => ?_) (fun hs hg => ?_) (fun hs hg => ?_) (fun hs => ?_)
  · cases hs : l.state <;> simp_all [LockState.travelling]
  · simp only [hs]
    unfold Lock.doorTurn Lock.finalLeg
    dsimp only
    split_ifs
    · exact .turned _
    · exact .turns _
    · exact .turnJams { l with doorClosed := closed }
  · simp only [hs]
    exact .runs rfl hg
  · simp only [hs]
    exact .forced rfl

theorem Lock.orderly_afterSwitch (sw : EndSwitch) (active : Bool) : l.Orderly (l.afterSwitch v sw active) := by
  unfold Lock.afterSwitch
  cases active with
  | false =>
    rw [if_neg (by decide)]
    refine Lock.orderly_of (fun ht => ?_) (fun hs hg => ?_) (fun hs hg => ?_) (fun hs => ?_)
    · split
      · rfl
      · rfl
      · exact ht
    · simp only [hs]
      exact .runs (by rw [hs]; rfl) hg
    · simp only [hs]
      exact .runs (by rw [hs]; rfl) hg
    · rw [hs]
      cases sw with
      | locked => exact .lost l
      | opened => exact .stays hs
  | true =>
    rw [if_pos rfl]
    split
    · refine Lock.orderly_of (fun ht => ?_) (fun hs hg => ?_) (fun hs hg => ?_) (fun hs => ?_)
      · split <;> first | rfl | exact ht
      · simp only [hs]
        exact .unknown _
      · simp only [hs]
        exact .unknown _
      · simp only [hs]
        exact .lost l
    split
    next hends =>
      refine Lock.orderly_of (fun ht => ?_) (fun hs hg => ?_) (fun hs hg => ?_) (fun hs => ?_)
      · cases hs : l.state <;> simp [hs, LockState.endsAt, LockState.travelling] at hends ht
      · simp only [Lock.endLeg, hs, hg]
        exact .ends rfl
      · simp only [Lock.endLeg, hs, hg]
        exact Lock.startGoes_turnLock
      · simp [hs, LockState.endsAt] at hends
    next => exact Lock.orderly_same rfl rfl

theorem Lock.orderly_switchChange (sw : EndSwitch) (active : Bool) : l.Orderly (l.switchChange v sw active) := by
  unfold Lock.switchChange
  split
  · exact Lock.orderly_same rfl rfl
  have hst : (l.record sw active).state = l.state := by cases sw <;> rfl
  have hgoal : (l.record sw active).goal = l.goal := by cases sw <;> rfl
  have h : (l.record sw active).Orderly ((l.record sw active).afterSwitch v sw active) :=
    Lock.orderly_afterSwitch sw active
  exact ⟨fun ht => h.rests (by rwa [hst]), fun ht hg => h.starts (by rwa [hst]) (by rwa [hgoal]),
    fun hs => h.locked (by rwa [hst])⟩

end Orderly

end Door

end Sys2Proof.Machine

namespace Sys2Proof.Machine

/-! ## Every operation keeps the door law -/

section Door
variable {e : Env} {k m : Cavity}

/-- A start that passes its checks: the LOCK drive runs from OPEN with the door closed. -/
theorem Cavity.doored_sendLock (hs : k.cc.state = .locking) (hi : k.cc.startSeg ≠ none)
    (hl : k.lock.state = .opened) (hd : k.lock.doorClosed = true) : (k.sendLock e).Doored := by
  refine Cavity.doored_of_startGoes Cavity.calm_sendRelease hs hi ?_
  simp only [Lock.takeLock, hl, hd, if_true]
  exact Lock.startGoes_finalLeg 1

theorem Cavity.Order.doored (ho : k.Order e m) (h : k.Doored) : m.Doored := by
  cases ho with
  | start i =>
    unfold Cavity.cleanStart
    split_ifs with h1 h2 h3 hdoor h5 hlock
    all_goals first | exact h | skip
    exact Cavity.Acts.decideEntry.doored (Cavity.doored_sendLock (k := { k.enterState e .locking with
      cc := { (k.enterState e .locking).cc with startSeg := some i } }) rfl nofun (not_not.1 hlock)
      (by simpa using hdoor))
  | hold => exact Cavity.Acts.cleanHold.doored h
  | resume => exact Cavity.Acts.cleanResume.doored h
  | abandon =>
    unfold Cavity.cleanAbandon
    split
    · exact (Cavity.calm_unlock (k := k.writeEnd .abandoned)).doored
    · exact (Cavity.calm_enterCooldown _).doored
    · exact (Cavity.calm_enterCooldown _).doored
    all_goals exact h
  | cook v elems => exact (Cavity.Acts.cookSet v elems).doored h
  | cookOff => exact Cavity.Acts.cookOff.doored h
  | events b => exact (Cavity.Acts.eventsAck b).doored h
  | conditions w => exact (Cavity.Acts.conditionsAck w).doored h
  | clear =>
    unfold Cavity.faultClear
    dsimp only
    split_ifs
    · exact h
    · exact h
    · exact h
    · exact Cavity.calm_endInIdle.doored
    · exact (Cavity.calm_unlock (k := { k with cond := { k.cond with trip := none } })).doored

/-- The stages of a cavity sample. -/
theorem Cavity.Doored.goodSample (h : k.Doored) : (k.goodSample e).Doored := by
  unfold Cavity.goodSample
  dsimp only
  split
  · exact h
  split
  · split_ifs
    · exact Cavity.calm_endInIdle.doored
    · exact Cavity.calm_unlock.doored
    · exact h
  next hs =>
    split_ifs
    · exact (Cavity.calm_sendRelease k (.inr (.inr (.inr hs)))).doored
    · exact h
  next hs =>
    split_ifs
    · exact (Cavity.calm_sendRelease k (.inl hs)).doored
    · exact h
  · exact h

theorem Cavity.Doored.recoverStage (h : k.Doored) (third : Bool) : (k.recoverStage e third).Doored := by
  unfold Cavity.recoverStage Cavity.recover
  dsimp only
  split_ifs
  · exact h
  · exact h
  · exact (Cavity.calm_unlock (k := ({ k with cc := { k.cc with recovering := false } } : Cavity).writeEnd
      .recovered)).doored
  · exact (Cavity.calm_enterCooldown _).doored
  · exact h

theorem Cavity.Doored.releaseLaw (h : k.Doored) (hs : k.lock.shaped) (cls : SampleClass) :
    (k.releaseLaw e cls).Doored := by
  unfold Cavity.releaseLaw
  split
  · exact h.lockChanged (Lock.orderly_stopOpenDrive hs)
  · exact h

theorem Cavity.Doored.cavitySample (h : k.Doored) (hs : k.lock.shaped) (v : Int) :
    (k.cavitySample e v).Doored := by
  rw [Cavity.cavitySample_eq]
  have hacts : (k.probed v).Acts (if (k.prb.cavity.sampleClass v).good then
      ((k.probed v).reportCavityFault e (k.prb.cavity.sampleClass v)).checkOvertemp e
      else (k.probed v).reportCavityFault e (k.prb.cavity.sampleClass v)) := by
    split
    · exact Cavity.Acts.trans (.reportCavityFault _) .checkOvertemp
    · exact .reportCavityFault _
  obtain ⟨-, hshaped, -⟩ := hacts.lockShaped hs
  have h3 := (hacts.doored h).releaseLaw (e := e) hshaped (k.prb.cavity.sampleClass v)
  have h4 := (Cavity.Acts.markStage (e := e) (k.prb.cavity.sampleClass v)).doored h3
  have h5 := h4.recoverStage (e := e) (decide ((k.prb.cavity.after (-400) 6000 v).taken = 3))
  have last (m : Cavity) (hm : m.Doored) :
      (if (k.prb.cavity.sampleClass v).good then m.goodSample e else m).Doored := by
    split
    · exact hm.goodSample
    · exact hm
  exact last _ h5

theorem Cavity.Event.doored (he : k.Event e m) (hs : k.lock.shaped) (h : k.Doored) : m.Doored := by
  cases he with
  | cavitySample v => exact h.cavitySample hs v
  | doorSample v => exact (Cavity.Acts.doorSample v).doored h
  | lockSwitch sw active => exact h.lockChanged (Lock.orderly_switchChange sw active)
  | doorSwitch c => exact h.lockChanged (Lock.orderly_doorChange c)
  | timeout => exact h.lockChanged Lock.orderly_timeout
  | review => exact Cavity.Acts.levelReview.doored h
  | pulse => exact Cavity.Acts.tachPulse.doored h
  | expiry => exact Cavity.Acts.tachExpiry.doored h
  | work => exact Cavity.Acts.windowWork.doored h

theorem Cavity.Common.doored (hc : k.Common e m) (h : k.Doored) : m.Doored := by
  cases hc with
  | clearEvents => exact h
  | clampClean => exact h
  | clampCook => exact Cavity.Acts.clampCook.doored h
  | enables old => exact (Cavity.Acts.decideAmong _).doored h
  | starve => exact Cavity.Acts.moveStarve.doored h
  | mainsBack => exact h.lockChanged Lock.orderly_mainsBack
  | pass => exact h
  | shed p => exact (Cavity.Acts.setChannel p _).doored h

theorem Cavity.Doored.unlockLowered (h : k.Doored) (hs : k.lock.shaped) : (k.unlockLowered e).Doored := by
  unfold Cavity.unlockLowered
  split
  · exact h
  · exact h.lockChanged (Lock.orderly_stopOpenDrive hs)

/-- Paused by a dropout, a lock keeps its state and its goal. -/
theorem Lock.mainsGone_keeps (l : Lock) : l.mainsGone.state = l.state ∧ l.mainsGone.goal = l.goal := by
  unfold Lock.mainsGone
  split <;> exact ⟨rfl, rfl⟩

theorem Cavity.doored_of_idle (h : k.cc.state = .idle) : k.Doored := Cavity.Calm.doored (.inl (.inl h))

end Door

section DoorShifts
variable {s t : State}

theorem State.doorLaw_iff (s : State) : s.DoorLaw ↔ ∀ c, (s.cav c).Doored := Iff.rfl

/-- Every kind of change keeps the door law. -/
theorem State.Shift.doorLaw (h : State.Shift s t) (hu : s.UnfittedLaw) (hl : s.LockLaw) (hs : s.DoorLaw) :
    t.DoorLaw := by
  have setCav {c : CavNo} {k : Cavity} (hk : k.Doored) : (s.setCav c k).DoorLaw :=
    (State.doorLaw_iff _).2 (State.forall_setCav (P := fun _ k => k.Doored) hs hk)
  rw [State.doorLaw_iff]
  cases h with
  | aside hf hc =>
    intro c
    rw [hc]
    exact hs c
  | opens h l hl => exact hs
  | order c hf ho h => exact setCav (h.doored (hs c))
  | event c hf h => exact setCav (h.doored (hl c).1 (hs c))
  | common c h => exact setCav (h.doored (hs c))
  | follows c hf sw active => exact setCav (Cavity.doored_of_idle (congrArg Controller.state (hu c hf).1))
  | followsDoor c hf cl => exact setCav (Cavity.doored_of_idle (congrArg Controller.state (hu c hf).1))
  | unlock v =>
    obtain ⟨-, -, -, -, hc⟩ := s.storeUnlock_eq v
    intro c
    obtain ⟨h, -⟩ | ⟨-, h⟩ := hc c
    · rw [h]
      exact hs c
    · rw [h]
      exact Cavity.Doored.unlockLowered (hs c) (hl c).1
  | fits v hidle =>
    obtain ⟨-, -, -, -, hc⟩ := s.storeFitted_eq v
    intro c
    rw [hc]
    split
    · exact hs c
    · exact Cavity.doored_of_idle rfl
  | segment g _ => exact hs
  | window segs slot cfg link h =>
    intro c
    rw [(h c).1]
    exact hs c
  | slot hi hij =>
    intro c
    rw [State.beginSlot_cav]
    exact hs c
  | dropout segs slot cfg link h =>
    intro c
    obtain ⟨hstate, hgoal⟩ := (s.cav c).lock.mainsGone_keeps
    rw [h]
    unfold Cavity.Doored
    dsimp only
    rw [hstate, hgoal]
    exact hs c
  | starts inp =>
    exact State.cav_cases (P := fun c => ((s.startUp inp).cav c).Doored)
      (Cavity.doored_of_idle rfl) (Cavity.doored_of_idle rfl) (Cavity.doored_of_idle rfl)

/-- Settles O6, law upon law: the unfitted cavities, with them the lock drives, with both the doors. -/
theorem lockAndDoorLawsAreKept : Obligations.LockAndDoorLawsAreKept := by
  unfold Obligations.LockAndDoorLawsAreKept
  intro s t h
  have lock (s t : State) (hst : State.Shift s t) (hs : s.UnfittedLaw ∧ s.LockLaw) :
      t.UnfittedLaw ∧ t.LockLaw := ⟨hst.unfittedLaw hs.1, hst.lockLaw hs.1 hs.2⟩
  have door (s t : State) (hst : State.Shift s t) (hs : (s.UnfittedLaw ∧ s.LockLaw) ∧ s.DoorLaw) :
      (t.UnfittedLaw ∧ t.LockLaw) ∧ t.DoorLaw :=
    ⟨lock s t hst hs.1, hst.doorLaw hs.1.1 hs.1.2 hs.2⟩
  exact ⟨step_keeps (fun _ _ => State.Shift.unfittedLaw) h, fun hu hl => (step_keeps lock h ⟨hu, hl⟩).2,
    fun hu hl hd => (step_keeps door h ⟨⟨hu, hl⟩, hd⟩).2⟩

end DoorShifts

end Sys2Proof.Machine

namespace Sys2Proof.Machine

/-! ## The cavity work of a window start (R20 to R22, R48 to R56, R78 to R81) -/

section Work
variable {e : Env} {k m : Cavity} {i : Nat}

theorem Cavity.cleaningSpeff_eq (hi : k.cc.segIndex = some i) :
    k.cleaningSpeff e = e.cleaningSetpoint (e.segs.at i) k := by
  unfold Cavity.cleaningSpeff Env.cleaningSetpoint
  rw [hi, ← Env.speffOfReading_eq]
  dsimp only
  rw [show e.target (e.segs.at i) = e.level (e.segs.at i) from rfl]
  cases (e.segs.at i).kind with
  | ramp =>
    cases hd : k.cc.direction with
    | none => rfl
    | some d => cases d <;> rfl
  | soak => rfl
  | _ => rfl

theorem Cavity.endingDue_eq (r : Segment) : k.endingDue r = k.ownEnding r := by
  unfold Cavity.endingDue Cavity.ownEnding
  rw [show Config.windowsPerMinute = 4 from rfl]
  cases r.kind <;> simp

theorem Cavity.timeoutDue_iff (r : Segment) :
    k.timeoutDue r = true ↔ r.timeout ≠ 0 ∧ r.timeout * 4 ≤ k.cc.elapsed := by
  unfold Cavity.timeoutDue
  rw [show Config.windowsPerMinute = 4 from rfl]
  simp

theorem Cavity.decideArrived_keeps (e : Env) (r : Segment) (k : Cavity) :
    (k.decideArrived e r).cc.state = k.cc.state ∧ (k.decideArrived e r).cc.segIndex = k.cc.segIndex := by
  unfold Cavity.decideArrived
  split <;> exact ⟨rfl, rfl⟩

/-- Stages 1 and 2 of a CLEANING cavity below its cycle limit, with the RAMP's decision. -/
theorem Cavity.counted_eq (hs : k.cc.state = .cleaning) (hi : k.cc.segIndex = some i)
    (hlimit : ¬ e.cfg.limits.cycleLimit * 4 ≤ k.cc.cycle + 1) :
    ((k.stage1 e).stage2 e).decideArrived e (e.segs.at i) = k.counted e (e.segs.at i) := by
  let r := e.segs.at i
  let near : Bool := decide (r.kind = .soak) && !k.prb.cavity.fault &&
    decide ((e.level r : Int) - e.page.soakBand ≤ k.prb.cavity.reading)
  let k1 : Cavity := { k with cc := { k.cc with
    cycle := k.cc.cycle + 1, elapsed := k.cc.elapsed + 1, soak := if near then k.cc.soak + 1 else k.cc.soak } }
  have h1 : k.stage1 e = k1 := by
    unfold Cavity.stage1 Cavity.countCleaning
    rw [hs, show Config.windowsPerMinute = 4 from rfl]
    dsimp only
    rw [if_neg hlimit]
    split
    next h => exact absurd (hi.symm.trans h) nofun
    next j hj =>
      obtain rfl : i = j := Option.some.inj (hi.symm.trans hj)
      rfl
  have h2 : k1.stage2 e = { k1 with cc := { k1.cc with speff := e.cleaningSetpoint r k } } := by
    unfold Cavity.stage2
    rw [show k1.cc.state = .cleaning from hs]
    dsimp only
    rw [Cavity.cleaningSpeff_eq (k := k1) hi]
    rfl
  rw [h1, h2]
  unfold Cavity.decideArrived Cavity.counted
  dsimp only
  split <;> rfl

/-- Stage 3 of such a cavity. -/
theorem Cavity.stage3_eq (hs : m.cc.state = .cleaning) (hi : m.cc.segIndex = some i) :
    let r := e.segs.at i
    let k2 := m.decideArrived e r
    m.stage3 e = if k2.ownEnding r then k2.segmentEnds e
      else if r.timeout ≠ 0 ∧ r.timeout * 4 ≤ k2.cc.elapsed then
        if r.flags.getLsbD 2 then k2.enterCooldown e .segmentTimeout else k2.segmentEnds e
      else k2 := by
  dsimp only
  unfold Cavity.stage3
  rw [hs, hi]
  dsimp only
  rw [Cavity.endingDue_eq]
  simp only [Cavity.timeoutDue_iff]
  rfl

/-- The demand of stage 4. -/
theorem Cavity.stage4_eq : m.stage4 e = { m with cc := { m.cc with demand := m.wantedSlots e } } := by
  have hformula : m.formulaApplies e = true ↔ m.cc.state = .cooking ∨ (m.cc.state = .cleaning ∧
      ∃ i ∈ m.cc.segIndex, (e.segs.at i).kind = .ramp ∨ (e.segs.at i).kind = .soak) := by
    unfold Cavity.formulaApplies
    split
    next h => simp [h]
    next i h hi =>
      rw [h, hi]
      cases hk : (e.segs.at i).kind <;> simp [hk]
    next h1 h2 =>
      cases hst : m.cc.state <;> cases hi : m.cc.segIndex <;> simp_all
  unfold Cavity.stage4 Cavity.wantedSlots demandOf
  simp only [Bool.and_eq_true, hformula, Bool.not_eq_true', ← not_lt, ite_not, ← ite_and, and_assoc]

/-- Stages 2 and 3 leave a cavity whose state has no SPeff, and that has none, as it is. -/
theorem Cavity.stages_atRest (hs : m.cc.state.zeroSpeff = true) (hv : m.cc.speff = 0) :
    (m.stage2 e).stage3 e = m := by
  have h2 : m.stage2 e = { m with cc := { m.cc with speff := 0 } } := by
    unfold Cavity.stage2
    cases h : m.cc.state <;> simp_all [CavState.zeroSpeff]
  have hself : ({ m with cc := { m.cc with speff := 0 } } : Cavity) = m := by rw [← hv]
  rw [h2, hself]
  unfold Cavity.stage3
  split
  next h _ => simp [h, CavState.zeroSpeff] at hs
  next => rfl

/-- SPeff stands at 0 where a cycle's end leaves a cavity, so that stages 2 and 3 leave it as it is. -/
theorem Cavity.stages_enterCooldown (why : LastEnd) :
    ((k.enterCooldown e why).stage2 e).stage3 e = k.enterCooldown e why := by
  obtain ⟨hs, hv⟩ : ((k.enterCooldown e why).cc.state = .cooldown ∨ (k.enterCooldown e why).cc.state = .faulted) ∧
      (k.enterCooldown e why).cc.speff = 0 := by
    unfold Cavity.enterCooldown
    obtain ⟨-, hk⟩ | ⟨c, rest, -, hk⟩ :=
      Cavity.decideEntry_cases e (((k.writeEnd why).enterState e .cooldown).clearProgram) <;> rw [hk]
    · exact ⟨.inl rfl, rfl⟩
    · exact ⟨.inr (Cavity.trip_state ..), (Cavity.trip_cc ..).2.1⟩
  exact Cavity.stages_atRest (by obtain h | h := hs <;> simp [h, CavState.zeroSpeff]) hv

/-- Stages 1 to 3 do what the statements say. -/
theorem Cavity.afterStages_stages : k.afterStages e (((k.stage1 e).stage2 e).stage3 e) := by
  unfold Cavity.afterStages
  split
  next i hs hi =>
    dsimp only
    by_cases hlimit : e.cfg.limits.cycleLimit * 4 ≤ k.cc.cycle + 1
    · let k1 : Cavity := { k with cc := { k.cc with cycle := k.cc.cycle + 1 } }
      have h1 : k.stage1 e = k1.enterCooldown e .cycleTime := by
        unfold Cavity.stage1 Cavity.countCleaning
        rw [hs, show Config.windowsPerMinute = 4 from rfl]
        exact if_pos hlimit
      rw [if_pos hlimit, h1, Cavity.stages_enterCooldown]
      exact Cavity.enterCooldown_intoCooldown e k1 .cycleTime
    have hk2 : (k.counted e (e.segs.at i)).cc.state = .cleaning := hs
    have hi2 : (k.counted e (e.segs.at i)).cc.segIndex = some i := hi
    have hcounted := Cavity.counted_eq (e := e) hs hi hlimit
    obtain ⟨hstate, hindex⟩ := ((k.stage1 e).stage2 e).decideArrived_keeps e (e.segs.at i)
    rw [hcounted] at hstate hindex
    rw [if_neg hlimit, Cavity.stage3_eq (i := i) (hstate.symm.trans hk2) (hindex.symm.trans hi2), hcounted]
    rw [Cavity.segmentEnds_eq e _ hi2]
    generalize (if (e.segs.at i).next = 255 then i + 1 else (e.segs.at i).next) = n
    split_ifs with hown htime hflag
    · exact Cavity.moveTo_movesOn e _ hk2 _
    · exact Cavity.enterCooldown_intoCooldown e _ .segmentTimeout
    · exact Cavity.moveTo_movesOn e _ hk2 _
    · rfl
  next => trivial
  next hs =>
    let k1 : Cavity := { k with cc := { k.cc with hold := k.cc.hold + 1 } }
    by_cases hlimit : e.cfg.limits.holdLimit * 4 ≤ k.cc.hold + 1
    · have h1 : k.stage1 e = k1.enterCooldown e .holdExpired := by
        unfold Cavity.stage1 Cavity.countHeld
        rw [hs, show Config.windowsPerMinute = 4 from rfl]
        exact if_pos hlimit
      rw [if_pos hlimit, h1, Cavity.stages_enterCooldown]
      exact Cavity.enterCooldown_intoCooldown e k1 .holdExpired
    · have h1 : k.stage1 e = k1 := by
        unfold Cavity.stage1 Cavity.countHeld
        rw [hs, show Config.windowsPerMinute = 4 from rfl]
        exact if_neg hlimit
      rw [if_neg hlimit, h1, ← Env.speffOfReading_eq]
      simp only [Cavity.stage2, Cavity.stage3, k1, hs]
  next hs =>
    have h1 : k.stage1 e = k := by simp [Cavity.stage1, hs]
    rw [h1]
    simp only [Cavity.stage2, Cavity.stage3, hs]
  next hheld hcook hclean hnone =>
    have hne : k.cc.state ≠ .cleaning := fun hs => by
      cases hi : k.cc.segIndex with
      | none => exact hnone hs hi
      | some i => exact hclean i hs hi
    have h1 : k.stage1 e = k := by
      unfold Cavity.stage1
      cases hs : k.cc.state <;> simp_all
    have h2 : k.stage2 e = { k with cc := { k.cc with speff := 0 } } := by
      unfold Cavity.stage2
      cases hs : k.cc.state <;> simp_all
    rw [h1, h2]
    unfold Cavity.stage3
    split
    next hs _ => exact absurd hs hne
    next => rfl

theorem Cavity.windowWork_worked : k.windowWorked e (k.windowWork e) :=
  ⟨((k.stage1 e).stage2 e).stage3 e, Cavity.afterStages_stages, by rw [Cavity.windowWork, Cavity.stage4_eq],
    rfl, rfl, rfl⟩

/-! ### The starvation counter through the work -/

theorem Cavity.enterCooldown_starve (why : LastEnd) : (k.enterCooldown e why).starve = 0 := by
  unfold Cavity.enterCooldown
  obtain ⟨-, hk⟩ | ⟨c, rest, -, hk⟩ :=
    Cavity.decideEntry_cases e (((k.writeEnd why).enterState e .cooldown).clearProgram) <;> rw [hk]
  · rfl
  · exact Cavity.trip_starve ..

theorem Cavity.moveTo_starve_le (hs : k.cc.state = .cleaning) (i : Nat) : (k.moveTo e i).starve ≤ k.starve := by
  unfold Cavity.moveTo
  split
  next => exact le_refl _
  next => exact (Cavity.enterCooldown_starve _).trans_le (Nat.zero_le _)
  next sub j stack _ =>
    rw [Cavity.programFault_eq e k hs]
    dsimp only
    split
    · exact (Cavity.trip_starve ..).trans_le (Nat.zero_le _)
    · exact (Cavity.enterCooldown_starve _).trans_le (Nat.zero_le _)

theorem Cavity.segmentEnds_starve_le (hs : k.cc.state = .cleaning) : (k.segmentEnds e).starve ≤ k.starve := by
  unfold Cavity.segmentEnds
  split
  · exact Cavity.moveTo_starve_le hs _
  · exact le_refl _

/-- The work counts nothing on the starvation counter. -/
theorem Cavity.windowWork_starve_le : (k.windowWork e).starve ≤ k.starve := by
  have h1 : (k.stage1 e).starve ≤ k.starve := by
    unfold Cavity.stage1 Cavity.countCleaning Cavity.countHeld
    dsimp only
    split
    · split_ifs
      · exact (Cavity.enterCooldown_starve _).trans_le (Nat.zero_le _)
      · split <;> exact le_refl _
    · split_ifs
      · exact (Cavity.enterCooldown_starve _).trans_le (Nat.zero_le _)
      · exact le_refl _
    · exact le_refl _
  have h3 (m : Cavity) : (m.stage3 e).starve ≤ m.starve := by
    unfold Cavity.stage3
    split
    next i hs hi =>
      have hst : (m.decideArrived e (e.segs.at i)).cc.state = .cleaning := by
        rw [(m.decideArrived_keeps e _).1]
        exact hs
      have harr : (m.decideArrived e (e.segs.at i)).starve = m.starve := by
        unfold Cavity.decideArrived
        split <;> rfl
      dsimp only
      rw [← harr]
      split_ifs
      · exact Cavity.segmentEnds_starve_le hst
      · exact (Cavity.enterCooldown_starve _).trans_le (Nat.zero_le _)
      · exact Cavity.segmentEnds_starve_le hst
      · exact le_refl _
    next => exact le_refl _
  exact (h3 ((k.stage1 e).stage2 e)).trans h1

/-- Where no STARVED trip can come the starvation stage moves the counter and the conditions alone. -/
theorem Cavity.moveStarve_keeps (h : k.starve + 1 < 40 ∨ e.page.tripEnables.testBit 10 = false) :
    ∃ n cond, k.moveStarve e = { k with starve := n, cond := cond } := by
  unfold Cavity.moveStarve
  split
  next hs =>
    split
    · dsimp only
      split
      next hlate =>
        rw [show Config.starvedAt = 40 from rfl, Bool.and_eq_true, decide_eq_true_eq] at hlate
        have hoff : e.page.tripEnables.testBit 10 = false := h.resolve_left (not_lt.2 hlate.1)
        let k1 : Cavity := { k with starve := k.starve + 1 }
        have hno : tripsIn e.page k1.cc.state .starved = false := by
          rw [show k1.cc.state = .cleaning from hs]
          exact hoff
        rw [Cavity.onset_of_not_trips (k := k1) (by simp [k1, hs]) hno]
        exact ⟨_, _, rfl⟩
      next => exact ⟨_, _, rfl⟩
    · exact ⟨_, _, rfl⟩
  next => exact ⟨k.starve, k.cond, rfl⟩
  next => exact ⟨_, _, rfl⟩

end Work

section WorkedState
variable {s : State}

/-- A change of one cavity, where it is fitted. -/
theorem State.ifFitted_eq (s : State) (c : CavNo) (f : Env → Cavity → Cavity) :
    (s.ifFitted c f).cfg = s.cfg ∧ (∀ d, (s.ifFitted c f).env d = s.env d) ∧
      ∀ d, (s.ifFitted c f).cav d = if d = c ∧ s.fitted d = true then f (s.env d) (s.cav d) else s.cav d := by
  unfold State.ifFitted
  split
  next hf =>
    refine ⟨by simp [State.onCav], fun d => by simp [State.onCav, State.env], fun d => ?_⟩
    by_cases hd : d = c
    · subst hd
      rw [State.onCav_cav_same, if_pos ⟨rfl, hf⟩]
    · rw [State.onCav_cav_other _ _ _ hd, if_neg fun h => hd h.1]
  next hf =>
    refine ⟨rfl, fun _ => rfl, fun d => ?_⟩
    rw [if_neg]
    rintro ⟨rfl, h⟩
    exact hf h

/-- The fitted cavities take a change each in its own environment. -/
theorem State.onFitted_eq (s : State) (f : Env → Cavity → Cavity) (c : CavNo) : (s.onFitted f).cfg = s.cfg ∧
    (s.onFitted f).cav c = if s.fitted c then f (s.env c) (s.cav c) else s.cav c := by
  have hall : s.onFitted f = ((s.ifFitted 0 f).ifFitted 1 f).ifFitted 2 f := rfl
  obtain ⟨hcfg0, henv0, hcav0⟩ := s.ifFitted_eq 0 f
  obtain ⟨hcfg1, henv1, hcav1⟩ := (s.ifFitted 0 f).ifFitted_eq 1 f
  obtain ⟨hcfg2, henv2, hcav2⟩ := ((s.ifFitted 0 f).ifFitted 1 f).ifFitted_eq 2 f
  have hfit0 (c : CavNo) : (s.ifFitted 0 f).fitted c = s.fitted c := by rw [State.fitted, hcfg0]; rfl
  have hfit1 (c : CavNo) : ((s.ifFitted 0 f).ifFitted 1 f).fitted c = s.fitted c := by
    rw [State.fitted, hcfg1, hcfg0]; rfl
  rw [hall]
  refine ⟨hcfg2.trans (hcfg1.trans hcfg0), ?_⟩
  revert c
  refine State.cav_cases ?_ ?_ ?_ <;>
    rw [hcav2, hcav1, hcav0, hfit1, hfit0, henv1, henv0] <;> simp

/-- The schedule's cavities as the starvation stage finds them: no STARVED trip can come. -/
theorem State.starvation_keeps (h : s.notStarving) (c : CavNo) :
    let w := (s.onFitted Cavity.windowWork).takeVoltage.newWindow.rank.placeAll
    ∃ n cond, (w.onCavs Cavity.moveStarve).cav c = { w.cav c with starve := n, cond := cond } := by
  intro w
  obtain ⟨-, -, hcfg, -, hsame, -⟩ := (s.onFitted Cavity.windowWork).placeAll_scheduling
  have hpage : (w.env c).page = s.cfg.page c := by
    rw [State.env, show w.cfg = s.cfg from hcfg.trans (State.onFitted_eq s _ c).1]
  have hle : (w.cav c).starve ≤ (s.cav c).starve := by
    rw [show (w.cav c).starve = ((s.onFitted Cavity.windowWork).cav c).starve by rw [hsame c],
      (State.onFitted_eq s _ c).2]
    split
    · exact Cavity.windowWork_starve_le
    · exact le_refl _
  have hno : (w.cav c).starve + 1 < 40 ∨ (w.env c).page.tripEnables.testBit 10 = false := by
    rw [hpage]
    exact (h c).imp_left fun hlt => by omega
  rw [State.onCavs_cav]
  exact Cavity.moveStarve_keeps hno

/-- What the schedule and the starvation stage leave of a cavity. -/
theorem State.windowStart_cav (h : s.notStarving) (c : CavNo) :
    let k := (s.onFitted Cavity.windowWork).cav c
    let k' := s.windowStart.cav c
    k'.cc = k.cc ∧ k'.prb = k.prb ∧ k'.lock = k.lock ∧ k'.fan = k.fan := by
  obtain ⟨n, cond, hx⟩ := s.starvation_keeps h c
  obtain ⟨-, -, -, -, hsame, -⟩ := (s.onFitted Cavity.windowWork).placeAll_scheduling
  have hw := hsame c
  dsimp only
  rw [State.windowStart, State.beginSlot_cav]
  rw [hx, hw]
  exact ⟨rfl, rfl, rfl, rfl⟩

/-- A window start does the work of every fitted cavity. -/
theorem State.windowStart_worked (h : s.notStarving) {c : CavNo} (hf : s.fitted c = true) :
    (s.cav c).windowWorked (s.env c) (s.windowStart.cav c) := by
  obtain ⟨hcc, hprb, hlock, hfan⟩ := State.windowStart_cav h c
  rw [(State.onFitted_eq s _ c).2, if_pos hf] at hcc hprb hlock hfan
  obtain ⟨m, hm, hmcc, hmprb, hmlock, hmfan⟩ := Cavity.windowWork_worked (e := s.env c) (k := s.cav c)
  exact ⟨m, hm, hcc.trans hmcc, hprb.trans hmprb, hlock.trans hmlock, hfan.trans hmfan⟩

/-- Settles O49: the work of the four stages, which the schedule and the starvation stage leave as it is. -/
theorem windowStartDoesTheCavityWork : Obligations.WindowStartDoesTheCavityWork := by
  unfold Obligations.WindowStartDoesTheCavityWork
  intro s c hmains hstarve hf
  refine ⟨s.windowStart.decideAttn, ?_, by
    rw [State.decideAttn_cav]
    exact State.windowStart_worked hstarve hf⟩
  show (if s.mains.present then s.windowStart else s).settled = _
  rw [if_pos hmains]
  rfl

end WorkedState

end Sys2Proof.Machine

namespace Sys2Proof.Machine

/-! ## The schedule of a window (R76, R82 to R84, R90 to R92) -/

section Schedule
variable {s t u : State}

/-- The channels' numbers are apart. -/
theorem channel_apart {m n : Nat} (hm : m < 12) (hn : n < 12) (hc : channelCav m = channelCav n)
    (hp : channelPos m = channelPos n) : m = n := by
  have h : ∀ m n : Fin 12, channelCav m = channelCav n → channelPos m = channelPos n → m = n := by decide
  exact congrArg Fin.val (h ⟨m, hm⟩ ⟨n, hn⟩ hc hp)

theorem State.chan_setChan {m n : Nat} (hm : m < 12) (hn : n < 12) (ch : Channel) :
    (s.setChan n ch).chan m = if m = n then ch else s.chan m := by
  unfold State.chan State.setChan
  by_cases hc : channelCav m = channelCav n
  · rw [hc, State.cav_setCav_same]
    split
    next h => rw [h, Cavity.channel_setChannel_same]
    next h => exact Cavity.channel_setChannel_other _ _ fun hp => h (channel_apart hm hn hc hp)
  · rw [State.cav_setCav_other _ _ _ hc, if_neg fun h => hc (by rw [h])]

/-- A slot's load is the load of the twelve channels. -/
theorem State.slotLoad_eq_sum (s : State) (j : Nat) :
    s.slotLoad j = ((List.range 12).map fun n => (s.chan n).loadIn j).sum := by
  have hsum : ((List.range 12).map fun n => (s.chan n).loadIn j).sum =
      s.c0.cat.loadIn j + (s.c0.top.loadIn j + (s.c0.base.loadIn j + (s.c0.ring.loadIn j +
      (s.c1.cat.loadIn j + (s.c1.top.loadIn j + (s.c1.base.loadIn j + (s.c1.ring.loadIn j +
      (s.c2.cat.loadIn j + (s.c2.top.loadIn j + (s.c2.base.loadIn j + (s.c2.ring.loadIn j + 0))))))))))) := rfl
  rw [hsum]
  unfold State.slotLoad Cavity.loadIn
  omega

/-- The load of some of the channels is the load of all, where the others have none. -/
theorem sum_of_others_zero {ns : List Nat} (hd : ns.Nodup) (hlt : ∀ n ∈ ns, n < 12) {f : Nat → Nat}
    (hz : ∀ n < 12, n ∉ ns → f n = 0) : (ns.map f).sum = ((List.range 12).map f).sum := by
  rw [← List.sum_toFinset f hd, ← List.sum_toFinset f List.nodup_range]
  refine Finset.sum_subset (fun n hn => ?_) fun n hn hno => ?_
  · exact List.mem_toFinset.2 (List.mem_range.2 (hlt n (List.mem_toFinset.1 hn)))
  · exact hz n (List.mem_range.1 (List.mem_toFinset.1 hn)) fun h => hno (List.mem_toFinset.2 h)

/-! ### Placement -/

/-- The channels of a list placed one after the other, from a state without placements. -/
structure State.PlacedFrom (u : State) (ns : List Nat) (t : State) : Prop where
  sched : t.sched = u.sched
  others : ∀ n < 12, t.chan n =
    { u.chan n with placements := (t.chan n).placements, granted := (t.chan n).granted }
  unplaced : ∀ n < 12, n ∉ ns → t.chan n = u.chan n
  placed : ∀ n ∈ ns, (t.chan n).placements = t.slotsFor ns n ∧
    (t.chan n).granted = (t.chan n).placements.length

theorem takeWhile_append_of_mem {ns : List Nat} {m n : Nat} (h : m ∈ ns) :
    (ns ++ [n]).takeWhile (· ≠ m) = ns.takeWhile (· ≠ m) := by
  rw [List.takeWhile_append, if_neg]
  intro hlen
  have hall : ns.takeWhile (· ≠ m) = ns := (List.takeWhile_prefix _).eq_of_length hlen
  have := List.mem_takeWhile_imp (p := fun x => decide (x ≠ m)) (hall.symm ▸ h)
  simp at this

theorem takeWhile_append_self {ns : List Nat} {n : Nat} (h : n ∉ ns) :
    (ns ++ [n]).takeWhile (· ≠ n) = ns := by
  rw [List.takeWhile_append_of_pos fun m hm => by simpa using fun hmn : m = n => h (hmn ▸ hm)]
  simp

/-- One more channel placed. -/
theorem State.PlacedFrom.placeChannel {ns : List Nat} {n : Nat} (h : u.PlacedFrom ns t)
    (hu : ∀ m < 12, (u.chan m).placements = []) (hd : (ns ++ [n]).Nodup) (hlt : ∀ m ∈ ns ++ [n], m < 12) :
    u.PlacedFrom (ns ++ [n]) (t.placeChannel n) := by
  obtain ⟨hsched, hothers, hunplaced, hplaced⟩ := h
  have hn : n < 12 := hlt n (by simp)
  have hno : n ∉ ns := by
    intro hmem
    rw [List.nodup_append] at hd
    exact hd.2.2 n hmem n (by simp) rfl
  have hdns : ns.Nodup := (List.nodup_append.1 hd).1
  have hltns (m : Nat) (hm : m ∈ ns) : m < 12 := hlt m (by simp [hm])
  let slots := placedSlots t.slotLoad t.sched.budget n (t.chan n).demand (t.chan n).power
  have hchan (m : Nat) (hm : m < 12) : (t.placeChannel n).chan m =
      if m = n then { t.chan n with placements := slots, granted := slots.length } else t.chan m :=
    State.chan_setChan hm hn _
  have hself : (t.placeChannel n).chan n = { t.chan n with placements := slots, granted := slots.length } := by
    rw [hchan n hn, if_pos rfl]
  have hkeep (m : Nat) (hm : m < 12) (hmn : m ≠ n) : (t.placeChannel n).chan m = t.chan m := by
    rw [hchan m hm, if_neg hmn]
  have hsch : (t.placeChannel n).sched = t.sched := by simp [State.placeChannel, State.setChan]
  have hbefore (m j : Nat) (hm : m ∈ ns) :
      (t.placeChannel n).loadBefore (ns ++ [n]) m j = t.loadBefore ns m j := by
    unfold State.loadBefore
    rw [takeWhile_append_of_mem hm]
    refine congrArg List.sum (List.map_congr_left fun x hx => ?_)
    have hxns : x ∈ ns := (List.takeWhile_prefix _).subset hx
    rw [hkeep x (hltns x hxns) fun hxn => hno (hxn ▸ hxns)]
  have hload (j : Nat) : (t.placeChannel n).loadBefore (ns ++ [n]) n j = t.slotLoad j := by
    unfold State.loadBefore
    rw [takeWhile_append_self hno, State.slotLoad_eq_sum,
      ← sum_of_others_zero hdns hltns fun m hm hmns => ?_]
    · refine congrArg List.sum (List.map_congr_left fun x hx => ?_)
      rw [hkeep x (hltns x hx) fun hxn => hno (hxn ▸ hx)]
    · simp [Channel.loadIn, hunplaced m hm hmns, hu m hm]
  refine ⟨hsch.trans hsched, fun m hm => ?_, fun m hm hmns => ?_, fun m hm => ?_⟩
  · by_cases hmn : m = n
    · subst hmn
      rw [hself]
      exact congrArg (fun ch : Channel => { ch with placements := slots, granted := slots.length })
        (hothers m hm)
    · rw [hkeep m hm hmn]
      exact hothers m hm
  · have hmn : m ≠ n := by rintro rfl; simp at hmns
    rw [hkeep m hm hmn]
    exact hunplaced m hm fun h => hmns (by simp [h])
  · by_cases hmn : m = n
    · subst hmn
      rw [hself]
      refine ⟨?_, rfl⟩
      unfold State.slotsFor
      rw [hself, hsch]
      simp only [hload]
      rfl
    · have hmns : m ∈ ns := by simpa [hmn] using hm
      rw [hkeep m (hltns m hmns) hmn]
      obtain ⟨hp, hg⟩ := hplaced m hmns
      refine ⟨hp.trans ?_, hg⟩
      unfold State.slotsFor
      rw [hkeep m (hltns m hmns) hmn, hsch]
      simp only [hbefore m _ hmns]

/-- All channels of a list placed, in its order. -/
theorem State.placedFrom_foldl {ns : List Nat} (hu : ∀ m < 12, (u.chan m).placements = []) (hd : ns.Nodup)
    (hlt : ∀ m ∈ ns, m < 12) : u.PlacedFrom ns (ns.foldl State.placeChannel u) := by
  induction ns using List.reverseRecOn with
  | nil => exact ⟨rfl, fun _ _ => rfl, fun _ _ _ => rfl, nofun⟩
  | append_singleton ns n ih =>
    rw [List.foldl_append]
    exact (ih (List.nodup_append.1 hd).1 fun m hm => hlt m (by simp [hm])).placeChannel hu hd hlt

/-! ### The ranking -/

theorem State.rankGroup_eq (s : State) (st : CavState) : s.rankGroup st =
    (List.range 12).filter fun n =>
      decide ((s.cav (channelCav n)).cc.state = st) && (s.chan n).demand != 0 := by
  have hflat : ∀ f : CavNo → Bool, (allCavs.filter f).flatMap cavityChannels =
      (List.range 12).filter fun n => f (channelCav n) := by decide
  unfold State.rankGroup
  rw [hflat (fun c => decide ((s.cav c).cc.state = st)), List.filter_filter]
  simp only [Bool.and_comm]

theorem State.newRanking_eq (s : State) : s.newRanking = s.rankingOf := by
  simp only [State.newRanking, State.rankGroup_eq, State.rankingOf]

theorem State.rankingOf_lt (s : State) {n : Nat} (h : n ∈ s.rankingOf) : n < 12 := by
  simp only [State.rankingOf, List.mem_append, List.mem_filter, List.mem_range] at h
  exact h.elim (·.1) (·.1)

theorem State.rankingOf_nodup (s : State) : s.rankingOf.Nodup := by
  refine (List.nodup_range.filter _).append (List.nodup_range.filter _) fun n h1 h2 => ?_
  simp only [List.mem_filter, Bool.and_eq_true, decide_eq_true_eq] at h1 h2
  exact absurd (h1.2.1.symm.trans h2.2.1) nofun

end Schedule

end Sys2Proof.Machine

namespace Sys2Proof.Machine

/-! ## A window start builds the window (R76) -/

/-- Nothing but cavities' records differs. -/
structure State.SameButCavs (s t : State) : Prop where
  cfg : t.cfg = s.cfg
  bounds : t.bounds = s.bounds
  segs : t.segs = s.segs
  sched : t.sched = s.sched
  mains : t.mains = s.mains
  review : t.review = s.review
  link : t.link = s.link
  store : t.store = s.store
  pending : t.pending = s.pending

section Built
variable {s t u : State}

theorem State.SameButCavs.refl (s : State) : s.SameButCavs s :=
  ⟨rfl, rfl, rfl, rfl, rfl, rfl, rfl, rfl, rfl⟩

theorem State.SameButCavs.trans (h : s.SameButCavs t) (h' : t.SameButCavs u) : s.SameButCavs u := by
  obtain ⟨h1, h2, h3, h4, h5, h6, h7, h8, h9⟩ := h
  obtain ⟨k1, k2, k3, k4, k5, k6, k7, k8, k9⟩ := h'
  exact ⟨k1.trans h1, k2.trans h2, k3.trans h3, k4.trans h4, k5.trans h5, k6.trans h6, k7.trans h7, k8.trans h8,
    k9.trans h9⟩

theorem State.setCav_sameButCavs (s : State) (c : CavNo) (k : Cavity) : s.SameButCavs (s.setCav c k) :=
  by constructor <;> simp

theorem State.onCavs_sameButCavs (s : State) (f : Env → Cavity → Cavity) : s.SameButCavs (s.onCavs f) :=
  ((s.setCav_sameButCavs 0 _).trans (State.setCav_sameButCavs _ 1 _)).trans (State.setCav_sameButCavs _ 2 _)

theorem State.onFitted_sameButCavs (s : State) (f : Env → Cavity → Cavity) : s.SameButCavs (s.onFitted f) := by
  have one (t : State) (c : CavNo) : t.SameButCavs (t.ifFitted c f) := by
    unfold State.ifFitted
    split
    · exact t.setCav_sameButCavs c _
    · exact .refl t
  exact ((one s 0).trans (one _ 1)).trans (one _ 2)

theorem State.placeAll_sameButCavs (s : State) : s.SameButCavs s.placeAll := by
  have all (ns : List Nat) : ∀ t : State, t.SameButCavs (ns.foldl State.placeChannel t) := by
    induction ns with
    | nil => exact fun t => .refl t
    | cons n ns ih => exact fun t => (t.setCav_sameButCavs _ _).trans (ih _)
  unfold State.placeAll
  split
  · exact .refl s
  · exact all _ s

/-- The demand of the statements is the model's. -/
theorem State.channelWants_eq (t : State) (n : Nat) :
    t.channelWants n = (t.cav (channelCav n)).channelDemand (t.env (channelCav n)) (channelPos n) := by
  generalize hk : t.cav (channelCav n) = k
  have hwanted (p : Position) : k.heatWanted (t.env (channelCav n)) p = true ↔
      (k.cc.state = .cooking ∧ k.cc.cookSet.hasPos p = true) ∨ (k.cc.state = .cleaning ∧ ∃ i ∈ k.cc.segIndex,
        ((t.segs.at i).kind = .ramp ∨ (t.segs.at i).kind = .soak) ∧
          (t.segs.at i).heatSet.hasPos p = true) := by
    unfold Cavity.heatWanted
    rw [show (t.env (channelCav n)).segs = t.segs from rfl]
    split
    next h => simp [h]
    next i h hi =>
      rw [h, hi]
      cases hkind : (t.segs.at i).kind <;> simp [hkind]
    next h1 h2 =>
      cases hst : k.cc.state <;> cases hi : k.cc.segIndex <;> simp_all
  unfold State.channelWants Cavity.channelDemand
  dsimp only
  rw [hk]
  generalize channelPos n = p
  cases p
  case cat => rfl
  all_goals
    simp only [hwanted, reduceCtorEq, if_false]
    rfl

/-- Before placement: demand and power computed, nothing placed. -/
theorem State.newWindow_chan (u : State) (n : Nat) : u.takeVoltage.newWindow.chan n =
    { demand := u.channelWants n
      power := effectivePower ((u.cfg.ratings (channelCav n)).at (channelPos n)) u.mains.voltage
        u.cfg.part.ratedVoltage
      granted := 0, placements := [], shed := false, relay := false } := by
  unfold State.chan State.newWindow
  dsimp only
  rw [State.onCavs_cav, State.channelWants_eq, State.cav_withSched]
  have hcav (c : CavNo) : u.takeVoltage.cav c = u.cav c :=
    State.cav_cases (P := fun c => u.takeVoltage.cav c = u.cav c) rfl rfl rfl c
  rw [hcav, Cavity.newSchedule, Cavity.channel_mapChannels]
  rfl

/-- The channels of a window as stages 4 to 8 leave them: each ranked channel placed, but under MAINS LOW. -/
theorem State.placeAll_chan (u : State) {n : Nat} (hn : n < 12) :
    let b := u.takeVoltage.newWindow
    let w := b.rank.placeAll
    w.chan n = { b.chan n with placements := (w.chan n).placements, granted := (w.chan n).placements.length } ∧
      (w.chan n).placements =
        if n ∈ b.rankingOf ∧ b.mains.low = false then w.slotsFor b.rankingOf n else [] := by
  intro b w
  have hrank : b.rank.sched.ranking = b.rankingOf := b.newRanking_eq
  have hchan (m : Nat) : b.rank.chan m = b.chan m :=
    congrArg (fun k : Cavity => k.channel (channelPos m)) (State.cav_withSched _ _)
  have hempty (m : Nat) : (b.chan m).placements = [] := by rw [State.newWindow_chan]
  have hself (m : Nat) : b.chan m = { b.chan m with
      placements := (b.chan m).placements, granted := (b.chan m).placements.length } := by
    rw [State.newWindow_chan]
    rfl
  cases hlow : b.mains.low with
  | true =>
    have hw : w = b.rank := if_pos hlow
    rw [hw, hchan]
    exact ⟨hself n, by simp [hempty n]⟩
  | false =>
    have hw : w = b.rankingOf.foldl State.placeChannel b.rank := by
      rw [← hrank]
      exact if_neg (by simpa [State.rank] using hlow)
    have hplaced := State.placedFrom_foldl (u := b.rank) (fun m _ => by rw [hchan]; exact hempty m)
      b.rankingOf_nodup (fun m => b.rankingOf_lt)
    rw [← hw] at hplaced
    obtain ⟨-, hothers, hunplaced, hslots⟩ := hplaced
    by_cases hmem : n ∈ b.rankingOf
    · obtain ⟨hp, hg⟩ := hslots n hmem
      rw [if_pos ⟨hmem, rfl⟩]
      refine ⟨?_, hp⟩
      rw [← hg, ← hchan]
      exact hothers n hn
    · rw [if_neg fun h => hmem h.1, hunplaced n hn hmem, hchan]
      exact ⟨hself n, hempty n⟩

/-- The channels as a window start leaves them: placed, and the relays set for slot 0. -/
theorem State.windowStart_chan (h : s.notStarving) (n : Nat) : s.windowStart.chan n =
    ((s.onFitted Cavity.windowWork).takeVoltage.newWindow.rank.placeAll.chan n).setRelay 0 := by
  obtain ⟨m, cond, hx⟩ := s.starvation_keeps h (channelCav n)
  unfold State.chan
  rw [State.windowStart, State.beginSlot_cav, Cavity.channel_mapChannels, hx]
  cases channelPos n <;> rfl

/-- Stages 2 to 6 but for the cavities. -/
theorem State.newWindow_frame (u : State) : u.windowKeeps u.takeVoltage.newWindow ∧
    u.takeVoltage.newWindow.link = u.link ∧
    u.takeVoltage.newWindow.sched =
      { u.sched with vw := u.mains.voltage, budget := u.sched.lend, slot := some 0 } ∧
    u.takeVoltage.newWindow.mains =
      { u.mains with low := decide (u.mains.voltage < u.cfg.part.mainsLow)
                     high := decide (u.cfg.part.mainsHigh < u.mains.voltage) } := by
  unfold State.newWindow
  obtain ⟨hcfg, hbounds, hsegs, hsched, hmains, hreview, hlink, hstore, hpending⟩ :=
    State.onCavs_sameButCavs { u.takeVoltage with
      sched := { u.takeVoltage.sched with budget := u.takeVoltage.sched.lend, slot := some 0 } }
      (Cavity.newSchedule u.takeVoltage.sched.vw)
  exact ⟨⟨hcfg, hbounds, hsegs, hreview, hstore, hpending⟩, hlink, hsched, hmains⟩

theorem State.beginSlot_rest (x : State) (j : Nat) : x.windowKeeps (x.beginSlot j) ∧
    (x.beginSlot j).link = x.link ∧ (x.beginSlot j).mains = x.mains ∧
    (x.beginSlot j).sched = { x.sched with slot := some j, timer := .loaded 500 } := by
  unfold State.beginSlot
  obtain ⟨hcfg, hbounds, hsegs, hsched, hmains, hreview, hlink, hstore, hpending⟩ :=
    State.onCavs_sameButCavs { x with sched := { x.sched with slot := some j, timer := .loaded Config.slotMs } }
      (fun _ k => k.mapChannels fun _ ch => ch.setRelay j)
  exact ⟨⟨hcfg, hbounds, hsegs, hreview, hstore, hpending⟩, hlink, hmains, hsched⟩

theorem State.windowKeeps.trans (h : s.windowKeeps t) (h' : t.windowKeeps u) : s.windowKeeps u := by
  obtain ⟨h1, h2, h3, h4, h5, h6⟩ := h
  obtain ⟨k1, k2, k3, k4, k5, k6⟩ := h'
  exact ⟨k1.trans h1, k2.trans h2, k3.trans h3, k4.trans h4, k5.trans h5, k6.trans h6⟩

theorem State.SameButCavs.windowKeeps (h : s.SameButCavs t) : s.windowKeeps t :=
  ⟨h.cfg, h.bounds, h.segs, h.review, h.store, h.pending⟩

/-- What a window start makes of the scheduler's and the mains monitor's records, and what it leaves alone. -/
theorem State.windowStart_frame (s : State) : s.windowKeeps s.windowStart ∧ s.windowStart.link = s.link ∧
    s.windowStart.sched = { lend := s.sched.lend, budget := s.sched.lend, vw := s.mains.voltage, slot := some 0
                            ranking := (s.onFitted Cavity.windowWork).takeVoltage.newWindow.rankingOf
                            timer := .loaded 500 } ∧
    s.windowStart.mains = { s.mains with low := decide (s.mains.voltage < s.cfg.part.mainsLow)
                                         high := decide (s.cfg.part.mainsHigh < s.mains.voltage) } := by
  unfold State.windowStart
  have hu := s.onFitted_sameButCavs Cavity.windowWork
  dsimp only
  generalize s.onFitted Cavity.windowWork = u at hu
  obtain ⟨hbk, hbl, hbs, hbm⟩ := u.newWindow_frame
  generalize u.takeVoltage.newWindow = b at hbk hbl hbs hbm
  have hr : b.rank = { b with sched := { b.sched with ranking := b.rankingOf } } := by
    rw [State.rank, State.newRanking_eq]
  have hx : b.rank.SameButCavs (b.rank.placeAll.onCavs Cavity.moveStarve) :=
    (State.placeAll_sameButCavs _).trans (State.onCavs_sameButCavs _ _)
  rw [hr] at hx ⊢
  generalize (State.placeAll _).onCavs Cavity.moveStarve = x at hx
  obtain ⟨htk, htl, htm, hts⟩ := x.beginSlot_rest 0
  refine ⟨hu.windowKeeps.trans (hbk.trans (State.windowKeeps.trans ?_ htk)), ?_, ?_, ?_⟩
  · exact hx.windowKeeps
  · exact htl.trans (hx.link.trans (hbl.trans hu.link))
  · rw [hts, hx.sched, hbs, hu.sched, hu.mains]
  · rw [htm, hx.mains, hbm, hu.mains, hu.cfg]

theorem State.rankingOf_congr (hs : ∀ c, (t.cav c).cc.state = (u.cav c).cc.state)
    (hd : ∀ n < 12, (t.chan n).demand = (u.chan n).demand) : t.rankingOf = u.rankingOf := by
  unfold State.rankingOf
  congr 1 <;>
    · refine List.filter_congr fun n hn => ?_
      rw [hs, hd n (List.mem_range.1 hn)]

theorem State.channelWants_congr (hcfg : t.cfg = u.cfg) (hsegs : t.segs = u.segs)
    (hcc : ∀ c, (t.cav c).cc = (u.cav c).cc) (hfan : ∀ c, (t.cav c).fan = (u.cav c).fan) (n : Nat) :
    t.channelWants n = u.channelWants n := by
  unfold State.channelWants
  simp only [hcfg, hsegs, hcc, hfan]

/-- The slots that a channel gets do not depend on the relays. -/
theorem State.slotsFor_congr {j : Nat} (hc : ∀ m, t.chan m = (u.chan m).setRelay j)
    (hb : t.sched.budget = u.sched.budget) (ns : List Nat) (n : Nat) : t.slotsFor ns n = u.slotsFor ns n := by
  unfold State.slotsFor State.loadBefore
  rw [hb]
  simp only [hc]
  rfl

/-- A window start builds the window of the statements. -/
theorem State.windowStart_built (h : s.notStarving) : s.windowBuilt s.windowStart := by
  have hchan := State.windowStart_chan h
  have hcav := State.windowStart_cav h
  have hu := s.onFitted_sameButCavs Cavity.windowWork
  obtain ⟨⟨hcfg, -, hsegs, -⟩, -, hsched, hmains⟩ := s.windowStart_frame
  dsimp only at hcav
  have hmean : s.mains.voltage = s.mains.ring.sum / s.mains.ring.length := by
    rw [Mains.voltage, List.sum_eq_foldl]
  generalize s.windowStart = t at *
  generalize s.onFitted Cavity.windowWork = u at *
  have hbchan := u.newWindow_chan
  have hwchan (n : Nat) (hn : n < 12) := u.placeAll_chan hn
  obtain ⟨-, -, hbs, hbm⟩ := u.newWindow_frame
  have hbstate (c : CavNo) : (u.takeVoltage.newWindow.cav c).cc = (u.cav c).cc := by
    rw [State.newWindow, State.onCavs_cav, State.cav_withSched]
    revert c
    exact State.cav_cases rfl rfl rfl
  have hw : u.takeVoltage.newWindow.rank.SameButCavs u.takeVoltage.newWindow.rank.placeAll :=
    State.placeAll_sameButCavs _
  generalize u.takeVoltage.newWindow = b at *
  dsimp only at hwchan
  have hwbudget : b.rank.placeAll.sched.budget = s.sched.lend := by
    rw [hw.sched, show b.rank.sched.budget = b.sched.budget from rfl, hbs, ← hu.sched]
  generalize b.rank.placeAll = w at *
  have hdemand (n : Nat) (hn : n < 12) : (t.chan n).demand = (b.chan n).demand := by
    rw [hchan, (hwchan n hn).1]
    rfl
  have hranking : t.rankingOf = b.rankingOf :=
    State.rankingOf_congr (fun c => by rw [(hcav c).1, hbstate]) hdemand
  have hwants (n : Nat) : t.channelWants n = u.channelWants n :=
    State.channelWants_congr (hcfg.trans hu.cfg.symm) (hsegs.trans hu.segs.symm) (fun c => (hcav c).1)
      (fun c => (hcav c).2.2.2) n
  have hslots := State.slotsFor_congr hchan (by rw [hsched, hwbudget])
  refine ⟨by rw [hsched, hmean, hranking]; rfl, by rw [hmains, hmean], fun n => ?_⟩
  obtain ⟨hself, hplaced⟩ := hwchan n n.isLt
  have hlow : b.mains.low = false ↔ s.cfg.part.mainsLow ≤ s.mains.voltage := by
    rw [hbm, ← hu.mains, ← hu.cfg]
    simp
  have hplacements : (t.chan n).placements = (w.chan n).placements := by
    rw [hchan]
    rfl
  have htn : t.chan n = { b.chan n with placements := (w.chan n).placements
                                        granted := (w.chan n).placements.length
                                        relay := (w.chan n).placements.contains 0 } := by
    rw [hchan, hself]
    rfl
  refine ⟨by rw [hdemand n n.isLt, hwants, hbchan], ?_, by rw [htn, hbchan], ?_, by rw [htn], by rw [htn]⟩
  · rw [htn, hbchan, ← hu.cfg, ← hmean, ← hu.mains]
    rfl
  · rw [hplacements, hplaced, hslots, hsched]
    simp only [hlow, hmean]

end Built

end Sys2Proof.Machine

namespace Sys2Proof.Machine

/-! ## The mains monitor (R86, R88, R122) -/

section Told
variable {e : Env} {k m : Cavity}

/-- A lock at rest stays as it is through changes that touch it by a trip's STOP at most. -/
theorem Cavity.Acts.lock_of_rest (h : k.Acts m) (ht : k.lock.state.travelling = false) : m.lock = k.lock := by
  induction h with
  | refl => rfl
  | tail _ hl ih =>
    cases hl with
    | still hl => exact hl.trans ih
    | leaves hl => exact hl.trans ih
    | within hl => exact hl.trans ih
    | trips hl => rw [hl, ih, Lock.takeStop_of_rests ht]

/-- The window work trips cavities in their program alone, and there the lock rests. -/
theorem Cavity.Doored.windowWork_lock (h : k.Doored) : (k.windowWork e).lock = k.lock := by
  cases ht : k.lock.state.travelling with
  | false => exact Cavity.Acts.windowWork.lock_of_rest ht
  | true =>
    have hne (st : CavState) (hst : st.inProgram) : k.cc.state ≠ st := by
      rintro rfl
      rw [h.1 hst] at ht
      cases ht
    have h1 : k.stage1 e = k := by
      unfold Cavity.stage1
      split
      next hs => exact absurd hs (hne _ (.inl rfl))
      next hs => exact absurd hs (hne _ (.inr rfl))
      next => rfl
    unfold Cavity.windowWork Cavity.stage3
    rw [h1]
    split
    next hs _ => exact absurd hs (hne _ (.inl rfl))
    next => rfl

theorem Cavity.Doored.moveStarve_lock (h : k.Doored) : (k.moveStarve e).lock = k.lock := by
  cases ht : k.lock.state.travelling with
  | false => exact Cavity.Acts.moveStarve.lock_of_rest ht
  | true =>
    unfold Cavity.moveStarve
    split
    next hs =>
      rw [h.1 (.inl hs)] at ht
      cases ht
    next => rfl
    next => rfl

/-- A lock drive told that mains has returned, and its controller. -/
theorem Cavity.mainsBack_told (hs : k.lock.shaped) (hm : k.lock.mains = false) :
    k.mainsTold e (k.mainsBack e) := by
  have hpaused (ht : k.lock.state.travelling = true) :
      k.lock.timer.resume = ⟨.running, k.lock.timer.left⟩ := by
    obtain ⟨-, -, -, htimer⟩ := hs.inTravel ht
    rw [hm] at htimer
    exact if_pos htimer
  have hback : k.mainsBack e = k.afterLock e (releasing e) (k.lock.mainsBack (k.lockEnv e)) := rfl
  unfold Cavity.mainsTold
  dsimp only
  rw [hback]
  unfold Lock.mainsBack Lock.resumed
  dsimp only
  rw [Cavity.lockEnv_check]
  cases hst : k.lock.state with
  | closing => simp [hpaused (by rw [hst]; rfl)]
  | opening =>
    cases hc : k.checkPasses e with
    | true => simp [hpaused (by rw [hst]; rfl)]
    | false =>
      simp only [reduceCtorEq, if_false, if_true, and_self, Bool.false_eq_true]
      exact Cavity.hears_unknown (k := { k with lock := ({ k.lock with mains := true } : Lock).rest .unknown }) rfl
  | _ => simp

end Told

section Monitor
variable {s t : State}

/-- A window start leaves the lock drives as they are where the doors are lawful. -/
theorem State.windowStart_lock (h : s.DoorLaw) (c : CavNo) : (s.windowStart.cav c).lock = (s.cav c).lock := by
  have hwork : ((s.onFitted Cavity.windowWork).cav c).Doored ∧
      ((s.onFitted Cavity.windowWork).cav c).lock = (s.cav c).lock := by
    rw [(State.onFitted_eq s _ c).2]
    split
    · exact ⟨Cavity.Acts.windowWork.doored (h c), Cavity.Doored.windowWork_lock (h c)⟩
    · exact ⟨h c, rfl⟩
  obtain ⟨hdoored, hlock⟩ := hwork
  obtain ⟨-, -, -, -, hsame, -⟩ := (s.onFitted Cavity.windowWork).placeAll_scheduling
  have hw := hsame c
  unfold State.windowStart
  dsimp only
  rw [State.beginSlot_cav, State.onCavs_cav]
  generalize (s.onFitted Cavity.windowWork).takeVoltage.newWindow.rank.placeAll = w at hw
  have hwd : (w.cav c).Doored := by
    rw [hw]
    exact hdoored
  have hwl : (w.cav c).lock = ((s.onFitted Cavity.windowWork).cav c).lock := by rw [hw]
  exact (hwd.moveStarve_lock).trans (hwl.trans hlock)

theorem exec_windowStart (h : s.mains.present = true) :
    exec .windowStart s = .next s.windowStart.decideAttn := by
  show (if s.mains.present then s.windowStart else s).settled = _
  rw [if_pos h]
  rfl

/-- The state in which the window of a return starts: the monitor PRESENT and every lock drive told. -/
def State.returned (s : State) (volts : Nat) : State :=
  let s1 : State := { s with mains := { s.mains with
    ring := [min volts 300], present := true, firstReturn := false } }
  (if s.mains.firstReturn then s1 else s1.setPartEvent .mainsReturn).onCavs Cavity.mainsBack

theorem State.mainsReturn_eq (s : State) (volts : Nat) :
    s.mainsReturn volts = (s.returned volts).windowStart := rfl

theorem held_volts (volts : Nat) : min volts 300 = if 300 < volts then 300 else volts := by
  split <;> omega

theorem joined_eq (ring : List Nat) (volts : Nat) : ringJoin ring volts = joined ring volts := by
  unfold ringJoin joined
  rw [show Config.ringSize = 8 from rfl, show Config.maxVolts = 300 from rfl, held_volts, List.drop_one]
  by_cases h : ring.length < 8
  · rw [if_pos h, if_neg (not_le.2 h)]
  · rw [if_neg h, if_pos (not_lt.1 h)]

/-- Steps 1 to 5 of a return. -/
theorem State.returned_monitor (volts : Nat) (hrun : s.mains.run ≠ none) (hl : s.LockLaw)
    (hm : ∀ c, (s.cav c).lock.mains = false) : s.monitorReturned volts (s.crossing.returned volts) := by
  have told (t : State) (hk : s.windowKeeps t) (hsched : t.sched = s.sched) (hmains : t.mains =
        { s.mains with present := true, ring := [if 300 < volts then 300 else volts],
                       crossing := ⟨.running, 100⟩, firstReturn := false })
      (hlink : t.link = { s.link with partEvents :=
        if s.mains.firstReturn then s.link.partEvents else maskAdd s.link.partEvents 2 })
      (hcav : ∀ c, t.cav c = s.cav c) : s.monitorReturned volts (t.onCavs Cavity.mainsBack) := by
    have hsame := State.onCavs_sameButCavs t Cavity.mainsBack
    refine ⟨hk.trans hsame.windowKeeps, hsame.sched.trans hsched, hsame.mains.trans hmains,
      hsame.link.trans hlink, fun c => ?_⟩
    obtain ⟨hcfg, -, hsegs, -⟩ := hk
    have henv : t.env c = s.env c := by rw [State.env, State.env, hcfg, hsegs, hsched]
    rw [State.onCavs_cav, hcav, henv]
    exact Cavity.mainsBack_told (hl c).1 (hm c)
  rw [State.crossing_eq]
  unfold State.returned
  have hmains : ({ s.mains.crossed with ring := [min volts 300], present := true, firstReturn := false } : Mains) =
      { s.mains with present := true, ring := [if 300 < volts then 300 else volts],
                     crossing := ⟨.running, 100⟩, firstReturn := false } := by
    rw [held_volts, Mains.crossed, if_neg hrun]
  have hfirst : s.mains.crossed.firstReturn = s.mains.firstReturn := rfl
  dsimp only
  rw [hfirst, hmains]
  split
  next hf => exact told _ ⟨rfl, rfl, rfl, rfl, rfl, rfl⟩ rfl rfl (by simp [hf]) (State.cav_cases rfl rfl rfl)
  next hf =>
    refine told _ ⟨rfl, rfl, rfl, rfl, rfl, rfl⟩ rfl rfl ?_ (State.cav_cases rfl rfl rfl)
    rw [if_neg hf]
    rfl

theorem State.returned_doorLaw (volts : Nat) (hd : s.DoorLaw) : (s.returned volts).DoorLaw := by
  have told (t : State) (hcav : ∀ c, t.cav c = s.cav c) : (t.onCavs Cavity.mainsBack).DoorLaw := fun c => by
    have h : (s.cav c).Doored := hd c
    rw [State.onCavs_cav, hcav]
    exact h.lockChanged Lock.orderly_mainsBack
  unfold State.returned
  dsimp only
  split
  · exact told _ (State.cav_cases rfl rfl rfl)
  · exact told _ (State.cav_cases rfl rfl rfl)

/-- A built window is one whatever ATTN says. -/
theorem State.windowBuilt.decideAttn (h : s.windowBuilt t) : s.windowBuilt t.decideAttn := h

/-- The return: the window of step 6 after those steps. -/
theorem State.mainsReturn_returned (volts : Nat) (hrun : s.mains.run ≠ none) (hl : s.LockLaw) (hd : s.DoorLaw)
    (hm : ∀ c, (s.cav c).lock.mains = false) :
    s.mainsReturned volts (s.crossing.mainsReturn volts).decideAttn := by
  have hu := State.returned_monitor volts hrun hl hm
  have hdoor : (s.crossing.returned volts).DoorLaw :=
    State.returned_doorLaw volts (by rw [State.crossing_eq]; exact hd)
  rw [State.mainsReturn_eq]
  generalize s.crossing.returned volts = u at hu hdoor
  obtain ⟨hkeeps, hsched, hmains, hlink, -⟩ := id hu
  have hpresent : u.mains.present = true := by rw [hmains]
  have hvolts : u.mains.voltage = if 300 < volts then 300 else volts := by
    rw [hmains]
    simp [Mains.voltage]
  have hexec := exec_windowStart hpresent
  have hframe := u.windowStart_frame
  have hlock := State.windowStart_lock hdoor
  have hbuilt (h : u.notStarving) := State.windowStart_built h
  have hworked (h : u.notStarving) (c : CavNo) (hf : u.fitted c = true) := State.windowStart_worked h hf
  generalize u.windowStart = w at *
  obtain ⟨hwk, hwl, hws, hwm⟩ := hframe
  have hmains' : w.mains = { s.mains with
      present := true, ring := [if 300 < volts then 300 else volts], crossing := ⟨.running, 100⟩
      firstReturn := false, low := w.mains.low, high := w.mains.high } := by rw [hwm, hmains]
  have hworked' (h : u.notStarving) (c : CavNo) (hf : u.fitted c = true) :
      (u.cav c).windowWorked (u.env c) (w.decideAttn.cav c) := by
    rw [State.decideAttn_cav]
    exact hworked h c hf
  refine ⟨hkeeps.trans hwk, ⟨u, hu, hexec, fun c => ?_, fun h => ⟨(hbuilt h).decideAttn, hworked' h⟩⟩, hmains',
    ?_, ?_, ?_, ?_, State.decideAttn_linkIs (hwl.trans hlink)⟩
  · rw [State.decideAttn_cav]
    exact hlock c
  · exact congrArg Sched.slot hws
  · exact congrArg Sched.timer hws
  · exact (congrArg Sched.budget hws).trans (congrArg Sched.lend hsched)
  · exact (congrArg Sched.vw hws).trans hvolts

/-- Settles O53, by what a cycle reading can be: a reading that joins, the return, or a crossing alone. -/
theorem crossingsAndReadingsReachTheMainsMonitor : Obligations.CrossingsAndReadingsReachTheMainsMonitor := by
  unfold Obligations.CrossingsAndReadingsReachTheMainsMonitor
  intro s
  have only (m : Mains) : s.onlyMains m ({ s with mains := m } : State).decideAttn :=
    ⟨⟨rfl, rfl, rfl, rfl, rfl, rfl⟩, rfl, rfl, State.decideAttn_linkIs rfl, State.cav_cases rfl rfl rfl⟩
  refine ⟨⟨s.crossing.decideAttn, rfl, ?_⟩, fun volts => ⟨(s.takeReading volts).decideAttn, rfl, ?_⟩⟩
  · rw [State.crossing_eq]
    exact only _
  obtain ⟨hp, h⟩ | ⟨hp, ⟨ms, hms, hle⟩, h⟩ | ⟨hp, hlt, h⟩ := s.takeReading_cases volts <;> rw [h]
  · refine ⟨fun _ => ?_, fun hn => absurd (hn.symm.trans hp) nofun, fun hn => absurd (hn.symm.trans hp) nofun⟩
    rw [State.crossing_eq, joined_eq]
    exact only _
  · refine ⟨fun hn => absurd (hn.symm.trans hp) nofun, fun _ hlt => ?_, fun _ _ hl hd hm => ?_⟩
    · exact absurd (hlt ms hms) (not_lt.2 hle)
    · exact State.mainsReturn_returned volts (by rintro hnone; rw [hnone] at hms; cases hms) hl hd hm
  · refine ⟨fun hn => absurd (hn.symm.trans hp) nofun, fun _ _ => ?_, fun _ hold => ?_⟩
    · rw [State.crossing_eq]
      exact only _
    · obtain ⟨ms, hms, hle⟩ := hold
      exact absurd (hlt ms hms) (not_lt.2 hle)

end Monitor

end Sys2Proof.Machine

namespace Sys2Proof.Machine

/-! ## The walk of a lowered budget (R95, R97) -/

section Walk
variable {s t u : State} {slot : Option Nat} {ch : Channel} {j : Nat}

/-- A shed leaves a channel in none of the remaining slots. -/
theorem Channel.loadIn_shedFrom (hj : j ∈ remainingSlots slot) : (ch.shedFrom slot).loadIn j = 0 := by
  cases slot with
  | none => cases hj
  | some i =>
    have hle : i ≤ j := by simpa using (List.mem_filter.1 hj).2
    have hno : (ch.shedFrom (some i)).placements.contains j = false := by
      rw [List.contains_eq_mem, decide_eq_false_iff_not]
      intro hmem
      have hholds : (ch.shedFrom (some i)).holdsFrom (some i) = true :=
        List.any_eq_true.2 ⟨j, hmem, decide_eq_true hle⟩
      rw [Channel.holdsFrom_shedFrom] at hholds
      cases hholds
    rw [Channel.loadIn, hno]
    rfl

/-- A channel without a placement from the current slot on loads none of the remaining slots. -/
theorem Channel.loadIn_of_not_holdsFrom (hno : ch.holdsFrom slot = false) (hj : j ∈ remainingSlots slot) :
    ch.loadIn j = 0 := by
  rw [← Channel.shedFrom_of_not_holdsFrom _ hno]
  exact Channel.loadIn_shedFrom hj

theorem Channel.loadIn_shedFrom_le (slot : Option Nat) (ch : Channel) (j : Nat) :
    (ch.shedFrom slot).loadIn j ≤ ch.loadIn j := by
  have hsub : (ch.shedFrom slot).placements ⊆ ch.placements ∧ (ch.shedFrom slot).power = ch.power := by
    unfold Channel.shedFrom
    split
    · split
      · exact ⟨fun _ h => (List.mem_filter.1 h).1, rfl⟩
      · exact ⟨fun _ h => h, rfl⟩
    · exact ⟨fun _ h => h, rfl⟩
  obtain ⟨hsub, hpower⟩ := hsub
  unfold Channel.loadIn
  rw [hpower]
  by_cases h : j ∈ (ch.shedFrom slot).placements
  · simp [h, hsub h]
  · simp [h]

theorem Cavity.butChannels.refl (k : Cavity) : k.butChannels k := rfl

theorem Cavity.butChannels.setChannel {k m : Cavity} (h : k.butChannels m) (p : Position) (ch : Channel) :
    k.butChannels (m.setChannel p ch) := by
  unfold Cavity.butChannels at h ⊢
  rw [h]
  cases p <;> rfl

/-- A turn in the walk sheds a channel that overloads a slot. -/
theorem State.walkStep_eq (t : State) (n : Nat) : t.walkStep n =
    if t.overloads n then t.setChan n ((t.chan n).shedFrom t.sched.slot) else t := by
  unfold State.walkStep
  split
  next hw =>
    rw [if_neg]
    intro ho
    obtain ⟨j, hj, ho⟩ := List.any_eq_true.1 ho
    have hle := List.all_eq_true.1 hw j hj
    simp only [Bool.and_eq_true, decide_eq_true_eq] at ho hle
    omega
  next => rfl

/-- The channels of a list, from its last to its first, have had their turn in the walk. -/
structure State.WalkedFrom (u : State) (ns : List Nat) (t : State) : Prop where
  same : u.SameButCavs t
  cavs : ∀ c, (u.cav c).butChannels (t.cav c)
  chans : ∀ n < 12, t.chan n =
    if n ∈ ns ∧ ∃ j ∈ remainingSlots u.sched.slot, (u.chan n).placements.contains j = true ∧
        u.sched.budget < loadAtTurn u t ns n j
      then (u.chan n).shedFrom u.sched.slot else u.chan n

/-- One more turn. -/
theorem State.WalkedFrom.walkStep {ns : List Nat} {n : Nat} (h : u.WalkedFrom ns t) (hn : n < 12) (hno : n ∉ ns) :
    u.WalkedFrom (n :: ns) (t.walkStep n) := by
  obtain ⟨hsame, hcavs, hchans⟩ := h
  have hkept : t.chan n = u.chan n := by rw [hchans n hn, if_neg fun h => hno h.1]
  have hchan (m : Nat) (hm : m < 12) : (t.walkStep n).chan m =
      if m = n ∧ t.overloads n = true then (t.chan n).shedFrom t.sched.slot else t.chan m := by
    rw [State.walkStep_eq]
    split
    next ho => rw [State.chan_setChan hm hn]; simp [ho]
    next ho => simp [ho]
  have hother (m : Nat) (hm : m < 12) (hmn : m ≠ n) : (t.walkStep n).chan m = t.chan m := by
    rw [hchan m hm, if_neg fun h => hmn h.1]
  have hturn (j : Nat) : loadAtTurn u (t.walkStep n) (n :: ns) n j = t.slotLoad j := by
    rw [State.slotLoad_eq_sum]
    refine congrArg List.sum (List.map_congr_left fun m hm => ?_)
    by_cases hmn : m = n
    · subst hmn
      simp [hkept]
    · rw [hother m (List.mem_range.1 hm) hmn]
      simp [Ne.symm hmn]
  have hlater (m j : Nat) (hm : m ∈ ns) :
      loadAtTurn u (t.walkStep n) (n :: ns) m j = loadAtTurn u t ns m j := by
    have hmn : m ≠ n := by rintro rfl; exact hno hm
    refine congrArg List.sum (List.map_congr_left fun x hx => ?_)
    by_cases hxn : x = n
    · subst hxn
      simp [hkept]
    · rw [hother x (List.mem_range.1 hx) hxn]
      simp [Ne.symm hxn, hmn]
  have hsched : t.sched = u.sched := hsame.sched
  refine ⟨?_, fun c => ?_, fun m hm => ?_⟩
  · rw [State.walkStep_eq]
    split
    · exact hsame.trans (t.setCav_sameButCavs _ _)
    · exact hsame
  · rw [State.walkStep_eq]
    split
    · unfold State.setChan
      by_cases hc : c = channelCav n
      · rw [hc, State.cav_setCav_same]
        exact (hcavs _).setChannel _ _
      · rw [State.cav_setCav_other _ _ _ hc]
        exact hcavs c
    · exact hcavs c
  · rw [hchan m hm]
    by_cases hmn : m = n
    · subst hmn
      have hover : t.overloads m = true ↔ ∃ j ∈ remainingSlots u.sched.slot,
          (u.chan m).placements.contains j = true ∧ u.sched.budget < t.slotLoad j := by
        simp [State.overloads, hsched, hkept]
      simp only [hturn, hover, List.mem_cons, true_or, true_and, hkept, hsched]
    · rw [if_neg fun h => hmn h.1, hchans m hm]
      by_cases hmem : m ∈ ns
      · simp only [hmem, List.mem_cons, or_true, true_and, hlater m _ hmem]
      · rw [if_neg fun h => hmem h.1, if_neg fun h => by simp [hmn, hmem] at h]

theorem State.walkedFrom_foldr {ns : List Nat} (hd : ns.Nodup) (hlt : ∀ n ∈ ns, n < 12) :
    u.WalkedFrom ns (ns.foldr (fun n t => t.walkStep n) u) := by
  induction ns with
  | nil => exact ⟨.refl u, fun c => .refl _, fun n _ => by simp⟩
  | cons n ns ih =>
    obtain ⟨hno, hd⟩ := List.nodup_cons.1 hd
    exact (ih hd fun m hm => hlt m (.tail _ hm)).walkStep (hlt n (.head _)) hno

theorem State.walkedFrom_budgetWalk (hd : u.sched.ranking.Nodup) (hlt : ∀ n ∈ u.sched.ranking, n < 12) :
    u.WalkedFrom u.sched.ranking u.budgetWalk := by
  unfold State.budgetWalk
  rw [List.foldl_reverse]
  exact State.walkedFrom_foldr hd hlt

/-- The walk brings every remaining slot within the budget: a slot above it would have shed all its channels. -/
theorem State.WalkedFrom.within {ns : List Nat} (h : u.WalkedFrom ns t)
    (hranked : ∀ n < 12, (u.chan n).holdsFrom u.sched.slot = true → n ∈ ns) {j : Nat}
    (hj : j ∈ remainingSlots u.sched.slot) : t.slotLoad j ≤ u.sched.budget := by
  by_contra hover
  have hover : u.sched.budget < t.slotLoad j := not_le.1 hover
  have hle (m : Nat) (hm : m < 12) : (t.chan m).loadIn j ≤ (u.chan m).loadIn j := by
    rw [h.chans m hm]
    split
    · exact Channel.loadIn_shedFrom_le _ _ _
    · exact le_rfl
  have hturn (n : Nat) : t.slotLoad j ≤ loadAtTurn u t ns n j := by
    rw [State.slotLoad_eq_sum]
    refine List.sum_le_sum fun m hm => ?_
    split
    · exact le_rfl
    · exact hle m (List.mem_range.1 hm)
  have hzero (n : Nat) (hn : n < 12) : (t.chan n).loadIn j = 0 := by
    rw [h.chans n hn]
    by_cases hp : (u.chan n).placements.contains j = true
    · by_cases hmem : n ∈ ns
      · rw [if_pos ⟨hmem, j, hj, hp, hover.trans_le (hturn n)⟩]
        exact Channel.loadIn_shedFrom hj
      · rw [if_neg fun h => hmem h.1]
        exact Channel.loadIn_of_not_holdsFrom (by simpa using mt (hranked n hn) hmem) hj
    · have hload : (u.chan n).loadIn j = 0 := if_neg hp
      have := hle n hn
      rw [h.chans n hn] at this
      omega
  have hsum : t.slotLoad j = 0 := by
    rw [State.slotLoad_eq_sum]
    exact List.sum_eq_zero fun x hx => by
      obtain ⟨n, hn, rfl⟩ := List.mem_map.1 hx
      exact hzero n (List.mem_range.1 hn)
  omega

/-- The budget brought down to a value. -/
theorem State.lowerBudget_falls (v lend : Nat) (h : s.BudgetLaw) {u : State}
    (hsched : u.sched = { s.sched with lend := lend }) (hcav : ∀ c, u.cav c = s.cav c) :
    s.budgetFalls v (u.lowerBudget v) ∧ (u.lowerBudget v).sched.lend = lend ∧
      (u.lowerBudget v).cfg = u.cfg := by
  obtain ⟨-, -, -, -, -, hd, hlt, hchannels, -⟩ := h
  have hchan (n : Nat) : u.chan n = s.chan n := by rw [State.chan, hcav, State.chan]
  unfold State.lowerBudget
  rw [hsched]
  unfold State.budgetFalls
  by_cases hv : v < s.sched.budget
  · simp only [hv, if_true]
    let w : State := { u with sched := { s.sched with lend := lend, budget := v } }
    have hwcav (c : CavNo) : w.cav c = s.cav c := (State.cav_withSched _ c).trans (hcav c)
    have hwchan (n : Nat) : w.chan n = s.chan n := by rw [State.chan, hwcav, State.chan]
    have hw : w.WalkedFrom s.sched.ranking w.budgetWalk := State.walkedFrom_budgetWalk hd hlt
    have hwithin : ∀ j ∈ remainingSlots s.sched.slot, w.budgetWalk.slotLoad j ≤ v := fun j hj =>
      hw.within (fun n hn hh => (hchannels ⟨n, hn⟩).2.2.1 (by rw [← hwchan]; exact hh)) hj
    show ((∀ c, (s.cav c).butChannels (w.budgetWalk.cav c)) ∧ w.budgetWalk.sched =
        { s.sched with lend := w.budgetWalk.sched.lend, budget := min v s.sched.budget } ∧
        s.walkedTo v w.budgetWalk ∧ ∀ j ∈ remainingSlots w.budgetWalk.sched.slot, w.budgetWalk.slotLoad j ≤ v) ∧
      w.budgetWalk.sched.lend = lend ∧ w.budgetWalk.cfg = u.cfg
    generalize w.budgetWalk = t at hw hwithin ⊢
    have ht : t.sched = { s.sched with lend := lend, budget := v } := hw.same.sched
    refine ⟨⟨fun c => ?_, ?_, fun n => ?_, ?_⟩, by rw [ht], hw.same.cfg⟩
    · rw [← hwcav]
      exact hw.cavs c
    · rw [ht, min_eq_left hv.le]
    · have hturn (j : Nat) : loadAtTurn w t s.sched.ranking n j = loadAtTurn s t s.sched.ranking n j := by
        unfold loadAtTurn
        simp only [hwchan]
      rw [hw.chans n n.isLt]
      simp only [hwchan, hturn]
      rfl
    · rw [ht]
      exact hwithin
  · simp only [hv, if_false]
    refine ⟨⟨fun c => ?_, ?_, fun n => hchan n⟩, by rw [hsched], trivial⟩
    · rw [hcav]
      exact .refl _
    · rw [hsched, min_eq_right (not_lt.1 hv)]

end Walk

end Sys2Proof.Machine

namespace Sys2Proof.Machine

/-! ## A stored setting acts at once (R162, R163, R165, R166) -/

section Decided
variable {s t : State} {id : SettingId} {w : Word16}

theorem holdIn_eq {lo hi : Nat} (h : lo ≤ hi) (v : Int) : holdIn lo hi v = (max (lo : Int) (min v hi)).toNat := by
  unfold holdIn
  split
  next hlo => rw [max_eq_left (by omega)]; rfl
  split
  next hhi => rw [min_eq_right (by omega), max_eq_right (by omega)]; rfl
  next hlo hhi => rw [min_eq_left (by omega), max_eq_right (by omega)]

/-- The ranges of the table are not empty. -/
theorem SettingId.shape_le {lo hi : Nat} (h : id.shape = .number lo hi) : lo ≤ hi := by
  cases id <;> cases h <;> decide

theorem Settings.orderHolds_eq (f : Settings) (id : SettingId) (v : Nat) :
    f.orderHolds id v = !f.orderBroken id v := by
  cases id <;> simp [Settings.orderHolds, Settings.orderBroken, ← decide_not]

/-- A number is decided by the cross-field order of the value as it is held. -/
theorem State.decideValue_number {lo hi : Nat} (h : id.shape = .number lo hi) :
    decideValue s.cfg s.bounds id w =
      if s.cfg.orderHolds id (s.heldValue id w) then
        .store (s.heldValue id w) (if (s.heldValue id w : Int) = id.number w then .done else .clamped)
      else .refuse .badArgument := by
  unfold decideValue State.heldValue
  rw [h]
  dsimp only
  rw [holdIn_eq (SettingId.shape_le h), ← SettingId.number]
  have hlower (v b : Nat) : (if Safer.lower.onSafeSide v b then v else b) = min v b := by
    simp only [Safer.onSafeSide, decide_eq_true_eq]
    split <;> omega
  have hhigher (v b : Nat) : (if Safer.higher.onSafeSide v b then v else b) = max v b := by
    simp only [Safer.onSafeSide, decide_eq_true_eq]
    split <;> omega
  cases id.protection with
  | none => rfl
  | some d =>
    cases d with
    | lower => simp only [hlower]
    | higher => simp only [hhigher]

/-- A value that is not refused is stored as it is held. -/
theorem State.writeSetting_of_accepted (h : (s.valueResult id w).refusal = false) :
    (s.writeSetting id w).1 = s.storeSetting id (s.heldValue id w) := by
  unfold State.valueResult at h
  have hidle : ¬ (id = .fittedCount ∧ ∃ c, (s.cav c).cc.state ≠ .idle) := fun hn => by
    rw [if_pos hn] at h
    cases h
  rw [if_neg hidle] at h
  have hok : ¬ (id.choiceRefused w || s.cfg.orderBroken id (s.heldValue id w)) = true := fun hn => by
    rw [if_pos hn] at h
    cases h
  obtain ⟨hchoice, horder⟩ : id.choiceRefused w = false ∧ s.cfg.orderBroken id (s.heldValue id w) = false := by
    simpa using hok
  have hnot : ¬ (id = .fittedCount && !s.allCav fun k => k.cc.state = .idle) = true := fun hn => by
    refine hidle ?_
    simp only [State.allCav, Bool.and_eq_true, Bool.not_eq_true', Bool.and_eq_false_iff, decide_eq_true_eq,
      decide_eq_false_iff_not] at hn
    obtain ⟨hid, (h0 | h1) | h2⟩ := hn
    · exact ⟨hid, 0, h0⟩
    · exact ⟨hid, 1, h1⟩
    · exact ⟨hid, 2, h2⟩
  have hdecided : ∃ r, decideValue s.cfg s.bounds id w = .store (s.heldValue id w) r := by
    unfold SettingId.choiceRefused at hchoice
    cases hshape : id.shape with
    | mode =>
      unfold decideValue State.heldValue
      rw [hshape]
      simp only [hshape, decide_eq_false_iff_not, not_lt] at hchoice
      exact ⟨.done, if_pos hchoice⟩
    | bits allowed =>
      unfold decideValue State.heldValue
      rw [hshape]
      simp only [hshape, bne_eq_false_iff_eq] at hchoice
      exact ⟨.done, if_pos (by simpa [withinBits] using hchoice)⟩
    | number lo hi =>
      rw [State.decideValue_number hshape, Settings.orderHolds_eq, horder]
      exact ⟨_, rfl⟩
  obtain ⟨r, hr⟩ := hdecided
  unfold State.writeSetting
  rw [if_neg hnot, hr]

end Decided

section Effects
variable {s t : State}

theorem State.writeRun_one (page idx : Nat) (w : Word16) :
    (s.writeRun page idx [w] .done 0).1 = (s.writeValue page idx w).1 := by
  unfold State.writeRun
  dsimp only
  split
  · rfl
  · rfl

theorem settingAddr_of_le {page : Nat} (h : 8 ≤ page) (idx : Nat) : settingAddr page idx = none := by
  obtain ⟨n, rfl⟩ := Nat.exists_eq_add_of_le' h
  rfl

/-- SETTING WRITE of one value. -/
theorem State.serveSettingWrite_one {r : Request} {id : SettingId} (hlen : r.payload.length = 4)
    (hid : settingAddr (at8 r.payload 0).toNat (at8 r.payload 1).toNat = some id) :
    (serveSettingWrite r s).1 = (s.writeSetting id (at16 r.payload 2)).1 := by
  obtain ⟨a, b, hi, lo, hp⟩ := List.length_eq_four.1 hlen
  unfold serveSettingWrite
  rw [hp] at hid ⊢
  show (s.writeRun _ _ [word16 hi lo] .done 0).1 = _
  rw [State.writeRun_one]
  unfold State.writeValue
  rw [if_neg, hid]
  · rfl
  · rintro ⟨hpage, -⟩
    rw [settingAddr_of_le hpage] at hid
    cases hid

/-- A cavity whose fitting changes. -/
theorem Cavity.refit_refitted (now : Bool) (k : Cavity) : k.refitted now (k.refit now) :=
  ⟨rfl, rfl, rfl, rfl, rfl, rfl, fun p _ => by cases p <;> rfl⟩

theorem Cavity.unlockLowered_openDriveStopped (e : Env) (k : Cavity) :
    k.openDriveStopped e (k.unlockLowered e) := by
  unfold Cavity.openDriveStopped Cavity.unlockLowered
  rw [Cavity.releaseOk_eq]
  cases hc : k.checkPasses e with
  | true => simp
  | false =>
    by_cases hm : k.lock.motor = .towardOpen
    · have hl : k.lock.stopOpenDrive = (k.lock.resting .unknown, [.unknown]) := if_pos hm
      rw [if_pos ⟨hm, rfl⟩, hl]
      exact Cavity.hears_unknown (k := { k with lock := k.lock.resting .unknown }) rfl
    · have hl : k.lock.stopOpenDrive = (k.lock, []) := if_neg hm
      rw [if_neg fun h => hm h.1, hl]
      rfl

/-- The enables turned on trip the cavity by the conditions present that now trip, and only by them. -/
theorem Cavity.enablesWritten_trips (old : CavityPage) (e : Env) (k : Cavity) :
    if newlyTripping old e.page k ≠ [] then
      (k.enablesWritten old e).trippedBy e.slot (newlyTripping old e.page k)
    else k.enablesWritten old e = k := by
  have hnew : (allConditions.filter fun c => (e.page.enabled c && !old.enabled c) &&
      k.cond.present.has c && k.cc.state.trips e.page c) = newlyTripping old e.page k := by
    unfold newlyTripping causesIn CavityPage.enabled
    rw [List.filter_filter]
    refine List.filter_congr fun c _ => ?_
    rw [CavState.trips_eq, Bool.and_assoc]
  unfold Cavity.enablesWritten Cavity.decideAmong
  rw [hnew]
  cases newlyTripping old e.page k with
  | nil => simp
  | cons c rest =>
    rw [if_pos (List.cons_ne_nil c rest)]
    exact Cavity.trip_trippedBy e c k rest

/-- The value stored, and nothing else yet. -/
def State.stored (s : State) (id : SettingId) (v : Nat) : State := { s with cfg := s.cfg.set id v }

theorem State.stored_cav (id : SettingId) (v : Nat) (c : CavNo) : (s.stored id v).cav c = s.cav c :=
  State.cav_cases (P := fun c => (s.stored id v).cav c = s.cav c) rfl rfl rfl c

/-- Every cavity told of a stored value. -/
theorem State.stored_onCavs (id : SettingId) (v : Nat) (f : Env → Cavity → Cavity) :
    ((s.stored id v).onCavs f).sched = s.sched ∧ ((s.stored id v).onCavs f).cfg = s.cfg.set id v ∧
      ∀ c, ((s.stored id v).onCavs f).cav c = f ((s.stored id v).env c) (s.cav c) := by
  have hsame := State.onCavs_sameButCavs (s.stored id v) f
  exact ⟨hsame.sched, hsame.cfg, fun c => by rw [State.onCavs_cav, State.stored_cav]⟩

theorem State.storeFitted_actsAtOnce (v : Nat) : s.actsAtOnce .fittedCount (s.storeSetting .fittedCount v) := by
  obtain ⟨-, hsched, -, -, hc⟩ := s.storeFitted_eq v
  refine ⟨hsched, fun c => ?_⟩
  show if s.fitted c = (s.storeFitted v).fitted c then (s.storeFitted v).cav c = s.cav c
    else (s.cav c).refitted ((s.storeFitted v).fitted c) ((s.storeFitted v).cav c)
  rw [hc]
  split
  · rfl
  · exact Cavity.refit_refitted _ _

theorem State.storeBudgetCeiling_actsAtOnce (h : s.BudgetLaw) (v : Nat) :
    s.actsAtOnce .budgetCeiling (s.storeSetting .budgetCeiling v) := by
  have hstored : s.storeSetting .budgetCeiling v = if v < s.cfg.part.budgetCeiling then
      (s.stored .budgetCeiling v).ceilingLowered else s.stored .budgetCeiling v := rfl
  rw [hstored]
  unfold State.actsAtOnce
  by_cases hlt : v < s.cfg.part.budgetCeiling
  · let u : State := { s.stored .budgetCeiling v with sched := { s.sched with lend := min s.sched.lend v } }
    obtain ⟨hfalls, hlend, hcfg⟩ := State.lowerBudget_falls v _ h (u := u) rfl (State.cav_cases rfl rfl rfl)
    have hlowered : (s.stored .budgetCeiling v).ceilingLowered = u.lowerBudget v := rfl
    rw [if_pos hlt, hlowered]
    generalize u.lowerBudget v = t at *
    have hv : t.cfg.part.budgetCeiling = v := by rw [hcfg]; rfl
    rw [hv, if_pos hlt]
    exact ⟨hlend, hfalls⟩
  · have hge : ¬ (s.stored .budgetCeiling v).cfg.part.budgetCeiling < s.cfg.part.budgetCeiling := hlt
    rw [if_neg hlt, if_neg hge]
    exact ⟨rfl, State.stored_cav _ v⟩

theorem State.storeCleanCeiling_actsAtOnce (v : Nat) :
    s.actsAtOnce .cleanCeiling (s.storeSetting .cleanCeiling v) := by
  have hstored : s.storeSetting .cleanCeiling v = if v < s.cfg.limits.cleanCeiling then
      (s.stored .cleanCeiling v).onCavs Cavity.clampClean else s.stored .cleanCeiling v := rfl
  rw [hstored]
  split
  next hlt =>
    obtain ⟨hsched, hcfg, hcav⟩ := s.stored_onCavs .cleanCeiling v Cavity.clampClean
    refine ⟨hsched, fun c => ?_⟩
    rw [hcav, hcfg]
    have hv : (s.cfg.set .cleanCeiling v).limits.cleanCeiling = v := rfl
    have henv : ((s.stored .cleanCeiling v).env c).cfg.limits.cleanCeiling = v := rfl
    rw [hv, Cavity.clampClean, henv]
    by_cases hs : v * 10 < (s.cav c).cc.speff
    · rw [if_pos ⟨hlt, hs⟩, min_eq_right hs.le]
    · rw [if_neg fun hn => hs hn.2, min_eq_left (not_lt.1 hs)]
  next hge =>
    refine ⟨rfl, fun c => ?_⟩
    rw [State.stored_cav, if_neg fun hn => hge hn.1]

theorem State.storeCookCeiling_actsAtOnce (v : Nat) :
    s.actsAtOnce .cookCeiling (s.storeSetting .cookCeiling v) := by
  have hstored : s.storeSetting .cookCeiling v = if v < s.cfg.limits.cookCeiling then
      (s.stored .cookCeiling v).onCavs Cavity.clampCook else s.stored .cookCeiling v := rfl
  rw [hstored]
  split
  next hlt =>
    obtain ⟨hsched, hcfg, hcav⟩ := s.stored_onCavs .cookCeiling v Cavity.clampCook
    refine ⟨hsched, fun c => ?_⟩
    rw [hcav, hcfg]
    have hv : (s.cfg.set .cookCeiling v).limits.cookCeiling = v := rfl
    have henv : ((s.stored .cookCeiling v).env c).cfg.limits.cookCeiling = v := rfl
    rw [hv, Cavity.clampCook, henv]
    simp only [hlt, true_and, Bool.and_eq_true, decide_eq_true_eq]
  next hge =>
    refine ⟨rfl, fun c => ?_⟩
    rw [State.stored_cav, if_neg fun hn => hge hn.1]

theorem State.storeUnlock_actsAtOnce (v : Nat) :
    s.actsAtOnce .unlockLevel (s.storeSetting .unlockLevel v) := by
  obtain ⟨hsegs, hsched, -, hcfg, hc⟩ := s.storeUnlock_eq v
  have henv (c : CavNo) : (s.storeSetting .unlockLevel v).env c = (s.stored .unlockLevel v).env c := by
    rw [State.env, hcfg, hsegs, hsched]
    rfl
  refine ⟨hsched, fun c => ?_⟩
  have hv : (s.cfg.set .unlockLevel v).limits.unlockLevel = v := rfl
  rw [henv, hcfg, hv]
  obtain ⟨hcav, hge⟩ | ⟨hlt, hcav⟩ := hc c
  · rw [if_neg (not_lt.2 hge)]
    exact hcav
  · rw [if_pos hlt, hcav]
    exact Cavity.unlockLowered_openDriveStopped _ _

theorem State.storeEnables_actsAtOnce (c : CavNo) (v : Nat) :
    s.actsAtOnce (.tripEnables c) (s.storeSetting (.tripEnables c) v) := by
  have hstored : s.storeSetting (.tripEnables c) v = (s.stored (.tripEnables c) v).setCav c
      ((s.cav c).enablesWritten (s.cfg.page c) ((s.stored (.tripEnables c) v).env c)) := by
    rw [← State.stored_cav (.tripEnables c) v]
    rfl
  rw [hstored]
  have htrips := Cavity.enablesWritten_trips (s.cfg.page c) ((s.stored (.tripEnables c) v).env c) (s.cav c)
  have hpage : ((s.stored (.tripEnables c) v).env c).page = (s.cfg.set (.tripEnables c) v).page c := rfl
  have hslot : ((s.stored (.tripEnables c) v).env c).slot = s.sched.slot := rfl
  rw [hpage, hslot] at htrips
  refine ⟨by simp [State.stored], fun d => ?_⟩
  rw [State.setCav_cfg]
  by_cases hd : d = c
  · subst hd
    rw [State.cav_setCav_same]
    simpa [State.stored] using htrips
  · rw [if_neg fun hn => hd hn.1, State.cav_setCav_other _ _ _ hd, State.stored_cav]

/-- What a stored value does at once. -/
theorem State.storeSetting_actsAtOnce (h : s.BudgetLaw) (id : SettingId) (v : Nat) :
    s.actsAtOnce id (s.storeSetting id v) := by
  have alone : (s.stored id v).sched = s.sched ∧ s.cavitiesKept (s.stored id v) := ⟨rfl, State.stored_cav id v⟩
  cases id with
  | fittedCount => exact State.storeFitted_actsAtOnce v
  | budgetCeiling => exact State.storeBudgetCeiling_actsAtOnce h v
  | cleanCeiling => exact State.storeCleanCeiling_actsAtOnce v
  | cookCeiling => exact State.storeCookCeiling_actsAtOnce v
  | unlockLevel => exact State.storeUnlock_actsAtOnce v
  | tripEnables c => exact State.storeEnables_actsAtOnce c v
  | _ => exact alone

/-- Neither the reply nor ATTN is part of what a stored value does. -/
theorem State.actsAtOnce.withLink {id : SettingId} (h : s.actsAtOnce id t) (l : Link) :
    s.actsAtOnce id { t with link := l } := by
  cases id <;> exact h

/-- Settles O34: the one value is stored as it is held, and acts setting by setting. -/
theorem storedSettingsActAtOnce : Obligations.StoredSettingsActAtOnce := by
  unfold Obligations.StoredSettingsActAtOnce
  intro s r id htaken hlen hid haccepted hbudget
  refine ⟨(s.request .settingWrite serveSettingWrite r).decideAttn, rfl, ?_⟩
  have hserved := State.serveSettingWrite_one (s := s) hlen hid
  rw [State.writeSetting_of_accepted haccepted] at hserved
  have hacts := State.storeSetting_actsAtOnce hbudget id (s.heldValue id (at16 r.payload 2))
  rw [State.request_taken htaken, hserved]
  exact hacts.withLink _

end Effects

end Sys2Proof.Machine

namespace Sys2Proof.Machine

/-! ## A resolution walks as the rules describe (R39 to R44) -/

section Walking
variable {g : SegStore} {m n i j : Nat} {st st' : List Nat} {r : Resolution}

/-- The kinds whose examination is a pass (R39). -/
def SegKind.passes (k : SegKind) : Prop := k = .link ∨ k = .call ∨ k = .ret

theorem resolve_of_stop (h : examine g i st = .stop r) : resolve g n i st = r := by
  cases n <;> simp [resolve, h]

theorem resolve_of_move (h : examine g i st = .move j st') : resolve g (n + 1) i st = resolve g n j st' := by
  simp [resolve, h]

theorem resolve_of_passFails {sub : ProgramFault} (h : examine g i st = .passFails sub) :
    resolve g (n + 1) i st = .failed sub (some i) st := by
  simp [resolve, h]

/-! ### What an examination makes of each kind of record -/

theorem examine_beyond (hi : 64 ≤ i) : examine g i st = .stop (.failed .invalidEntry none st) := if_pos hi

theorem examine_empty (hi : i < 64) (hk : (g.at i).kind = .empty) :
    examine g i st = .stop (.failed .invalidEntry (some i) st) := by
  simp [examine, hi.not_ge, hk]

theorem examine_finish (hi : i < 64) (hk : (g.at i).kind = .finish) :
    examine g i st = .stop (.finished i st) := by
  simp [examine, hi.not_ge, hk]

theorem examine_timed (hi : i < 64) (hk : (g.at i).kind.timed) : examine g i st =
    .stop (if (g.at i).complete then .entered i st else .failed .invalidEntry (some i) st) := by
  obtain hk | hk | hk | hk := hk <;> simp only [examine, hi.not_ge, hk, if_false, apply_ite Examined.stop]

theorem examine_link (hi : i < 64) (hk : (g.at i).kind = .link) :
    examine g i st = .move ((g.at i).nextFrom i) st := by
  simp [examine, hi.not_ge, hk]

theorem examine_call (hi : i < 64) (hk : (g.at i).kind = .call) : examine g i st =
    if st.length < 3 then .move ((g.at i).nextFrom i) (st ++ [i + 1]) else .passFails .stackFull := by
  simp only [examine, hi.not_ge, hk, if_false]
  rfl

theorem examine_ret (hi : i < 64) (hk : (g.at i).kind = .ret) :
    examine g i (st ++ [j]) = .move j st := by
  simp [examine, hi.not_ge, hk]

theorem examine_ret_nil (hi : i < 64) (hk : (g.at i).kind = .ret) :
    examine g i [] = .passFails .stackEmpty := by
  simp [examine, hi.not_ge, hk]

theorem resolve_tooLong (hi : i < 64) (hk : (g.at i).kind.passes) :
    resolve g 0 i st = .failed .chainTooLong (some i) st := by
  obtain hk | hk | hk := hk
  · simp [resolve, examine_link hi hk]
  · by_cases hst : st.length < 3
    · simp [resolve, examine_call hi hk, hst]
    · simp [resolve, examine_call hi hk, hst]
  · obtain rfl | ⟨st, j, rfl⟩ := st.eq_nil_or_concat'
    · simp [resolve, examine_ret_nil hi hk]
    · simp [resolve, examine_ret hi hk]

/-- Each row of the rules is what the resolution does with the passes still allowed. -/
theorem Walk.eq_resolve (h : Walk g m i st r) (hn : m + n = 6) : r = resolve g n i st := by
  induction h generalizing n with
  | beyond m i st hi => exact (resolve_of_stop (examine_beyond hi)).symm
  | blank m i st hi hk => exact (resolve_of_stop (examine_empty hi hk)).symm
  | incomplete m i st hi hk hc => exact (resolve_of_stop (by rw [examine_timed hi hk, hc]; rfl)).symm
  | entry m i st hi hk hc => exact (resolve_of_stop (by rw [examine_timed hi hk, hc]; rfl)).symm
  | done m i st hi hk => exact (resolve_of_stop (examine_finish hi hk)).symm
  | tooLong i st hi hk =>
    obtain rfl : n = 0 := by omega
    exact (resolve_tooLong hi hk).symm
  | link m i st r hm hi hk _ ih =>
    obtain ⟨n, rfl⟩ : ∃ k, n = k + 1 := ⟨n - 1, by omega⟩
    rw [resolve_of_move (examine_link hi hk)]
    exact ih (by omega)
  | call m i st r hm hi hk hst _ ih =>
    obtain ⟨n, rfl⟩ : ∃ k, n = k + 1 := ⟨n - 1, by omega⟩
    rw [resolve_of_move (by rw [examine_call hi hk, if_pos hst])]
    exact ih (by omega)
  | full m i st hm hi hk hst =>
    obtain ⟨n, rfl⟩ : ∃ k, n = k + 1 := ⟨n - 1, by omega⟩
    exact (resolve_of_passFails (by rw [examine_call hi hk, if_neg hst.not_gt])).symm
  | ret m i j st r hm hi hk _ ih =>
    obtain ⟨n, rfl⟩ : ∃ k, n = k + 1 := ⟨n - 1, by omega⟩
    rw [resolve_of_move (examine_ret hi hk)]
    exact ih (by omega)
  | bare m i hm hi hk =>
    obtain ⟨n, rfl⟩ : ∃ k, n = k + 1 := ⟨n - 1, by omega⟩
    exact (resolve_of_passFails (examine_ret_nil hi hk)).symm

/-- A record that is no pass ends the walk after any number of passes, as it ends the resolution. -/
theorem walk_resolve_of_not_passes (hk : ¬ (i < 64 ∧ (g.at i).kind.passes)) (m n : Nat) :
    Walk g m i st (resolve g n i st) := by
  by_cases hi : i < 64
  · have htimed (ht : (g.at i).kind.timed) : Walk g m i st (resolve g n i st) := by
      rw [resolve_of_stop (examine_timed hi ht)]
      cases hc : (g.at i).complete with
      | true => exact .entry m i st hi ht hc
      | false => exact .incomplete m i st hi ht hc
    cases hkind : (g.at i).kind with
    | empty =>
      rw [resolve_of_stop (examine_empty hi hkind)]
      exact .blank m i st hi hkind
    | finish =>
      rw [resolve_of_stop (examine_finish hi hkind)]
      exact .done m i st hi hkind
    | ramp => exact htimed (.inl hkind)
    | soak => exact htimed (.inr (.inl hkind))
    | dwell => exact htimed (.inr (.inr (.inl hkind)))
    | coast => exact htimed (.inr (.inr (.inr hkind)))
    | link => exact absurd ⟨hi, .inl hkind⟩ hk
    | call => exact absurd ⟨hi, .inr (.inl hkind)⟩ hk
    | ret => exact absurd ⟨hi, .inr (.inr hkind)⟩ hk
  · rw [resolve_of_stop (examine_beyond (not_lt.1 hi))]
    exact .beyond m i st (not_lt.1 hi)

/-- The resolution walks by the rules. -/
theorem walk_resolve (hn : m + n = 6) : Walk g m i st (resolve g n i st) := by
  induction n generalizing m i st with
  | zero =>
    obtain rfl : m = 6 := by omega
    by_cases hk : i < 64 ∧ (g.at i).kind.passes
    · rw [resolve_tooLong hk.1 hk.2]
      exact .tooLong i st hk.1 hk.2
    · exact walk_resolve_of_not_passes hk 6 0
  | succ n ih =>
    by_cases hk : i < 64 ∧ (g.at i).kind.passes
    · obtain ⟨hi, hlink | hcall | hret⟩ := hk
      · rw [resolve_of_move (examine_link hi hlink)]
        exact .link m i st _ (by omega) hi hlink (ih (by omega))
      · by_cases hst : st.length < 3
        · rw [resolve_of_move (by rw [examine_call hi hcall, if_pos hst])]
          exact .call m i st _ (by omega) hi hcall hst (ih (by omega))
        · rw [resolve_of_passFails (by rw [examine_call hi hcall, if_neg hst])]
          exact .full m i st (by omega) hi hcall (not_lt.1 hst)
      · obtain rfl | ⟨st, j, rfl⟩ := st.eq_nil_or_concat'
        · rw [resolve_of_passFails (examine_ret_nil hi hret)]
          exact .bare m i (by omega) hi hret
        · rw [resolve_of_move (examine_ret hi hret)]
          exact .ret m i j st _ (by omega) hi hret (ih (by omega))
    · exact walk_resolve_of_not_passes hk m (n + 1)

end Walking

/-- Settles O51: the resolution walks by the rules, and each of their rows is what the resolution does. -/
theorem resolutionIsTheWalkOfTheRules : Obligations.ResolutionIsTheWalkOfTheRules := by
  unfold Obligations.ResolutionIsTheWalkOfTheRules
  refine fun g i stack r => ⟨fun h => h.eq_resolve (Nat.zero_add 6), fun h => ?_⟩
  rw [h]
  exact walk_resolve (Nat.zero_add 6)

end Sys2Proof.Machine

namespace Sys2Proof.Machine

/-! ## SETTING READ (R161) -/

section Reading
variable {s t : State} {r : Request}

/-- A request that is served without a change of the part, and its one reply. -/
theorem State.request_onlyLink {q : ReqKind} {serve : Request → State → State × List Byte} {payload : List Byte}
    (h : s.takes q r) (hserve : serve r s = (s, payload)) :
    s.onlyLink (s.link.answered q r payload) (s.request q serve r).decideAttn := by
  rw [State.request_taken h, hserve]
  exact s.decideAttn_onlyLink _

/-- The payload of the reply in the reply buffer is the payload that was answered. -/
theorem State.payloadSent_of_linkIs {l : Link} {q : ReqKind} {payload : List Byte}
    (h : t.linkIs (l.answered q r payload)) : t.link.payloadSent = payload := by
  rw [h.1]
  exact List.dropLast_concat

/-! ### Values in the bytes of a payload -/

theorem toNat_word16 (hi lo : Byte) : (word16 hi lo).toNat = 256 * hi.toNat + lo.toNat := by
  rw [word16, BitVec.toNat_append, ← Nat.shiftLeft_add_eq_or_of_lt lo.isLt, Nat.shiftLeft_eq]
  omega

theorem word16_bytes (n : Nat) : word16 (BitVec.ofNat 8 (n / 256)) (BitVec.ofNat 8 n) = BitVec.ofNat 16 n := by
  refine BitVec.eq_of_toNat_eq ?_
  simp only [toNat_word16, BitVec.toNat_ofNat]
  omega

/-- The value at place `i` of a run of values stands at byte `2 * i` of their bytes. -/
theorem at16_flatMap_bytesOfNat {vs : List Nat} {i v : Nat} (h : vs[i]? = some v) :
    at16 (vs.flatMap bytesOfNat) (2 * i) = BitVec.ofNat 16 v := by
  induction vs generalizing i with
  | nil => cases h
  | cons x xs ih =>
    cases i with
    | zero =>
      obtain rfl : x = v := by simpa using h
      exact word16_bytes x
    | succ i => exact ih (by simpa using h)

theorem length_flatMap_bytesOfNat (vs : List Nat) : (vs.flatMap bytesOfNat).length = 2 * vs.length := by
  simp [bytesOfNat, Nat.mul_comm]

/-! ### The run of values -/

/-- A value stands at the defined addresses and at no other. -/
theorem State.isSome_readValue (s : State) (page idx : Nat) :
    (s.readValue page idx).isSome = addrDefined page idx := by
  unfold State.readValue addrDefined
  cases settingAddr page idx with
  | some id => rfl
  | none => cases segAddr page idx <;> rfl

/-- A run with an undefined address is not read at all. -/
theorem State.readRun_eq_none {page idx n : Nat} (h : ¬ ∀ i < n, addrDefined page (idx + i) = true) :
    s.readRun page idx n = none := by
  induction n generalizing idx with
  | zero => exact absurd (fun i hi => absurd hi i.not_lt_zero) h
  | succ n ih =>
    unfold State.readRun
    cases hv : s.readValue page idx with
    | none => rfl
    | some v =>
      have hidx : addrDefined page idx = true := by rw [← s.isSome_readValue, hv]; rfl
      rw [ih fun hall => h fun i hi => ?_]
      cases i with
      | zero => exact hidx
      | succ i => exact Nat.add_right_comm idx 1 i ▸ hall i (by omega)

/-- A run of defined addresses is read value by value. -/
theorem State.readRun_eq_some {page idx n : Nat} (h : ∀ i < n, addrDefined page (idx + i) = true) :
    ∃ vs, s.readRun page idx n = some vs ∧ vs.length = n ∧
      ∀ i < n, ∀ v ∈ s.readValue page (idx + i), vs[i]? = some v := by
  induction n generalizing idx with
  | zero => exact ⟨[], rfl, rfl, fun i hi => absurd hi i.not_lt_zero⟩
  | succ n ih =>
    obtain ⟨x, hx⟩ : ∃ x, s.readValue page idx = some x := by
      rw [← Option.isSome_iff_exists, s.isSome_readValue]
      exact h 0 n.succ_pos
    obtain ⟨xs, hrun, hlen, hxs⟩ := ih (idx := idx + 1) fun i hi =>
      (Nat.add_right_comm idx 1 i).symm ▸ h (i + 1) (by omega)
    refine ⟨x :: xs, by simp only [State.readRun, hx, hrun], by rw [List.length_cons, hlen], ?_⟩
    rintro (_ | i) hi v hv
    · exact hx.symm.trans hv
    · exact hxs i (by omega) v ((Nat.add_right_comm idx 1 i).symm ▸ hv)

/-- SETTING READ of a run that is not there to be read. -/
theorem serveSettingRead_refused (h : ¬ (1 ≤ (at8 r.payload 2).toNat ∧ (at8 r.payload 2).toNat ≤ 16 ∧
      ∀ i < (at8 r.payload 2).toNat,
        addrDefined (at8 r.payload 0).toNat ((at8 r.payload 1).toNat + i) = true)) :
    serveSettingRead r s = (s, [Result.badArgument.code, 0]) := by
  unfold serveSettingRead
  dsimp only
  split
  next hn => rw [State.readRun_eq_none fun hall => h ⟨hn.1, hn.2, hall⟩]
  next => rfl

end Reading

/-- Settles O32: the run is read whole or refused, and the part is left as it is. -/
theorem settingReadAnswersTheRun : Obligations.SettingReadAnswersTheRun := by
  unfold Obligations.SettingReadAnswersTheRun
  intro s r htaken
  refine ⟨_, rfl, ?_⟩
  unfold State.settingReadTaken
  dsimp only
  split
  next hrun =>
    obtain ⟨hlo, hhi, hall⟩ := hrun
    obtain ⟨vs, hvs, hlen, hat⟩ := State.readRun_eq_some (s := s) hall
    obtain ⟨hpart, hcavs, hlink⟩ := State.request_onlyLink (serve := serveSettingRead) htaken
      (payload := [Result.done.code, byteOf (at8 r.payload 2).toNat] ++ vs.flatMap bytesOfNat)
      (by simp only [serveSettingRead, hlo, hhi, and_self, if_true, hvs])
    have hsent := State.payloadSent_of_linkIs hlink
    refine ⟨hpart, hcavs, ⟨?_, ?_⟩, ?_, ?_, fun i hi v hv => ?_⟩
    · rw [hsent]
      exact hlink
    · rw [hsent, List.length_append, length_flatMap_bytesOfNat, hlen]
      rfl
    · rw [hsent]
      rfl
    · rw [hsent]
      rfl
    · rw [hsent, Nat.add_comm]
      exact at16_flatMap_bytesOfNat (hat i hi v hv)
  next hrun => exact State.request_onlyLink htaken (serveSettingRead_refused hrun)

/-! ## One value written to a segment page (R32, R33) -/

section SegmentPages
variable {s : State} {r : Request} {w : Word16}

/-! ### Records and their fields -/

theorem SegStore.at_put (g : SegStore) {i : Nat} (hi : i < 64) (r : Segment) (j : Nat) :
    (g.put i r).at j = if j = i then r else g.at j := by
  unfold SegStore.at SegStore.put
  rw [Vector.getElem?_setIfInBounds]
  by_cases hj : i = j
  · subst hj
    simp [hi]
  · simp [hj, Ne.symm hj]

theorem SegKind.code_ofField {v : Nat} (h : v ≤ 8) : (SegKind.ofField v).code = v := by
  interval_cases v <;> rfl

theorem segFieldInRange_iff {f : Nat} (hf : f < 8) (v : Nat) : segFieldInRange f v = true ↔ segmentRange f v := by
  interval_cases f <;> simp [segFieldInRange, segmentRange]

/-- A value in its range reads back from its field as it was stored. -/
theorem Segment.field_setField_same {f v : Nat} (x : Segment) (h : segmentRange f v) :
    (x.setField f v).field f = v := by
  have mask (hv : v ≤ 7) : (BitVec.ofNat 3 v).toNat = v := by simp; omega
  obtain ⟨rfl, hv⟩ | ⟨rfl, -⟩ | ⟨rfl, -⟩ | ⟨rfl, -⟩ | ⟨rfl, -⟩ | ⟨rfl, hv⟩ | ⟨rfl, hv⟩ | ⟨rfl, -⟩ := h
  · exact SegKind.code_ofField hv
  iterate 4 rfl
  · exact mask hv
  · exact mask hv
  · rfl

/-- No other field is touched. -/
theorem Segment.field_setField_other {f f' : Nat} (x : Segment) (v : Nat) (hf : f < 8) (hf' : f' < 8)
    (h : f' ≠ f) : (x.setField f v).field f' = x.field f' := by
  interval_cases f <;> interval_cases f' <;> first | rfl | exact absurd rfl h

/-! ### The write -/

/-- SETTING WRITE of one value is one write, and its result. -/
theorem serveSettingWrite_one {s' : State} {result : Result} (hlen : r.payload.length = 4)
    (hw : s.writeValue (at8 r.payload 0).toNat (at8 r.payload 1).toNat (at16 r.payload 2) = (s', result)) :
    serveSettingWrite r s = (s', [result.code, if result.refusal then 0 else 1]) := by
  obtain ⟨page, idx, hi, lo, hp⟩ := List.length_eq_four.1 hlen
  rw [hp] at hw
  have hrun : s.writeRun page.toNat idx.toNat [word16 hi lo] .done 0 =
      (s', result, if result.refusal then 0 else 1) := by
    have hw : s.writeValue page.toNat idx.toNat (word16 hi lo) = (s', result) := hw
    unfold State.writeRun
    rw [hw]
    cases result <;> rfl
  unfold serveSettingWrite
  rw [hp]
  show (let (s', result, n) := s.writeRun page.toNat idx.toNat [word16 hi lo] .done 0
        (s', [result.code, byteOf n])) = _
  rw [hrun]
  cases result <;> rfl

theorem State.runsProgram_iff (s : State) : s.anyCav (fun k => k.cc.state.runsProgram) = true ↔
    ∃ c : CavNo, (s.cav c).cc.state = .locking ∨ (s.cav c).cc.state = .cleaning ∨ (s.cav c).cc.state = .held := by
  have runs (st : CavState) : st.runsProgram = true ↔ st = .locking ∨ st = .cleaning ∨ st = .held := by
    cases st <;> decide
  simp only [State.anyCav, Bool.or_eq_true, runs, Fin.exists_fin_succ, IsEmpty.exists_iff, or_false, or_assoc]
  rfl

/-- The segment store after a value `v` was written to field `f` of segment `i`. -/
def State.segsAfter (s : State) (i f v : Nat) : SegStore :=
  if s.segmentResult i f v = .done then s.segs.put i ((s.segs.at i).setField f v) else s.segs

/-- One value to a field of a segment: its result, and the field stored exactly where that is DONE. -/
theorem writeSegValue_eq {page idx i f : Nat} (h : segAddr page idx = some (i, f)) (hf : f < 8) :
    writeSegValue s page idx w = ({ s with segs := s.segsAfter i f w.toNat }, s.segmentResult i f w.toNat) := by
  unfold writeSegValue State.segsAfter State.segmentResult
  simp only [h, State.runsProgram_iff, segFieldInRange_iff hf]
  by_cases hi : i < 16
  · simp only [hi, if_true]
    rfl
  by_cases hbusy : ∃ c : CavNo, (s.cav c).cc.state = .locking ∨ (s.cav c).cc.state = .cleaning ∨
      (s.cav c).cc.state = .held
  · simp only [hi, hbusy, if_true, if_false]
    rfl
  by_cases hr : segmentRange f w.toNat
  · simp only [hi, hbusy, hr, if_true, if_false]
  · simp only [hi, hbusy, hr, if_false]
    rfl

/-- An address that no page above 5 defines. -/
theorem State.writeValue_undefined {page idx : Nat} (hp : 5 < page) (h : ¬ (8 ≤ page ∧ page ≤ 15 ∧ idx ≤ 63)) :
    s.writeValue page idx w = (s, .badArgument) := by
  unfold State.writeValue
  split
  next hpage =>
    have hnone : segAddr page idx = none := if_neg h
    rw [writeSegValue, hnone]
  next =>
    obtain ⟨n, rfl⟩ := Nat.exists_eq_add_of_le' (Nat.succ_le_of_lt hp)
    rfl

theorem State.range_of_segmentResult {i f v : Nat} (h : s.segmentResult i f v = .done) : segmentRange f v := by
  unfold State.segmentResult at h
  split_ifs at h
  assumption

theorem State.refusal_segmentResult (s : State) (i f v : Nat) :
    (s.segmentResult i f v).refusal = !decide (s.segmentResult i f v = .done) := by
  unfold State.segmentResult
  split_ifs <;> rfl

/-- What every field of the store reads after the write. -/
theorem State.field_segsAfter {i f : Nat} (hi : i < 64) (hf : f < 8) (v i' : Nat) {f' : Nat} (hf' : f' < 8) :
    ((s.segsAfter i f v).at i').field f' =
      if s.segmentResult i f v = .done ∧ i' = i ∧ f' = f then v else (s.segs.at i').field f' := by
  unfold State.segsAfter
  by_cases hdone : s.segmentResult i f v = .done
  · simp only [hdone, if_true, true_and, SegStore.at_put s.segs hi]
    by_cases hi' : i' = i
    · subst hi'
      by_cases hff : f' = f
      · subst hff
        simpa using Segment.field_setField_same _ (State.range_of_segmentResult hdone)
      · simpa [hff] using Segment.field_setField_other _ v hf hf' hff
    · simp [hi']
  · simp [hdone]

end SegmentPages

/-- Settles O36: a defined address takes its one value or refuses it, and any other is a BAD ARGUMENT. -/
theorem segmentWriteStoresOneField : Obligations.SegmentWriteStoresOneField := by
  unfold Obligations.SegmentWriteStoresOneField
  intro s r htaken hlen page idx hpage
  refine ⟨_, rfl, ?_⟩
  split
  next h =>
    have hw : s.writeValue page idx (at16 r.payload 2) = _ :=
      (if_pos ⟨h.1, h.2.1⟩).trans (writeSegValue_eq (if_pos h) (Nat.mod_lt idx (by decide)))
    rw [State.request_taken htaken, serveSettingWrite_one hlen hw]
    refine ⟨rfl, rfl, rfl, rfl, rfl, rfl, rfl, State.cav_congr rfl rfl rfl, State.decideAttn_linkIs ?_,
      fun i' _ f' hf' => State.field_segsAfter (by omega) (by omega) _ i' hf'⟩
    rw [State.sendReply_link, State.refusal_segmentResult]
    simp
  next h =>
    exact State.request_onlyLink htaken (serveSettingWrite_one hlen (State.writeValue_undefined hpage h))

end Sys2Proof.Machine

namespace Sys2Proof.Machine

/-! ## One value of a patch (R34, R168, R169) -/

section OneValue
variable {factory tighten : Bool} {page idx : Nat} {w : Word16}

/-- Whether a value lies off the safe side of the value in force at a protected setting. -/
def Settings.unsafer (f : Settings) (id : SettingId) (v : Nat) : Bool :=
  match id.protection with
  | some d => !d.onSafeSide v (f.get id)
  | none => false

/-- Only numbers are protected, and only numbers have a cross-field order. -/
theorem Settings.unsafer_choice (f : Settings) {id : SettingId} (h : ∀ lo hi, id.shape ≠ .number lo hi) (v : Nat) :
    f.unsafer id v = false ∧ f.orderBroken id v = false := by
  cases id <;> first | exact ⟨rfl, rfl⟩ | exact absurd rfl (h _ _)

theorem word_eq_zero_iff (w : Word16) : w = 0 ↔ w.toNat = 0 := by
  rw [← BitVec.toNat_inj]
  rfl

/-- What replay makes of a word at a setting. -/
theorem replaySetting_eq (f : Settings) (tighten : Bool) (id : SettingId) (w : Word16) :
    replaySetting f tighten id w =
      if f.unsafer id (id.replayed w) = true ∧ tighten = true then some f
      else if f.orderBroken id (id.replayed w) then none
      else some (f.set id (id.replayed w)) := by
  have choice (h : ∀ lo hi, id.shape ≠ .number lo hi) (v : Nat) :
      some (f.set id v) = if f.unsafer id v = true ∧ tighten = true then some f
        else if f.orderBroken id v then none else some (f.set id v) := by
    obtain ⟨hu, ho⟩ := f.unsafer_choice h v
    simp [hu, ho]
  cases hs : id.shape with
  | mode =>
    have hv : min w.toNat 1 = id.replayed w := by
      simp only [SettingId.replayed, hs, word_eq_zero_iff]
      split <;> omega
    rw [replaySetting, hs, ← choice (by simp [hs]), ← hv]
  | bits allowed =>
    have hv : w.toNat &&& allowed = id.replayed w := by simp only [SettingId.replayed, hs]
    rw [replaySetting, hs, ← choice (by simp [hs]), ← hv]
  | number lo hi =>
    have hv : holdIn lo hi (id.number w) = id.replayed w := by
      rw [holdIn_eq (SettingId.shape_le hs)]
      simp only [SettingId.replayed, hs, SettingId.number]
    rw [replaySetting, hs]
    dsimp only
    rw [hv, Settings.orderHolds_eq]
    unfold Settings.unsafer
    cases id.protection <;> cases f.orderBroken id (id.replayed w) <;> simp [and_comm]

/-- What replay makes of a word at a segment field. -/
theorem segReplayValue_eq {f : Nat} (hf : f < 8) (w : Word16) : segReplayValue f w = heldField f w := by
  have hlt := w.isLt
  have hint : 0 ≤ w.toInt → w.toInt = w.toNat := by
    rw [BitVec.toInt_eq_toNat_cond]
    split <;> omega
  unfold segReplayValue heldField
  interval_cases f <;> simp only [word_eq_zero_iff, Nat.reduceEqDiff, or_true, or_false, if_true, if_false]
  all_goals split_ifs <;> omega

theorem Replayed.wrote_setting {id : SettingId} (h : settingAddr page idx = some id) (out : Replayed) :
    out.wrote factory tighten page idx w =
      if out.cfg.unsafer id (id.replayed w) = true ∧ (tighten = true ∨ factory = false) then some out
      else if out.cfg.orderBroken id (id.replayed w) then none
      else some { out with cfg := out.cfg.set id (id.replayed w) } := by
  unfold Replayed.wrote Settings.unsafer
  rw [h]
  dsimp only
  rcases id.protection with - | - | - <;> simp [Safer.onSafeSide]

theorem Replayed.wrote_segment (h : settingAddr page idx = none) (hs : 8 ≤ page ∧ page ≤ 15 ∧ idx ≤ 63)
    (out : Replayed) : out.wrote factory tighten page idx w =
      let i := 8 * (page - 8) + idx / 8
      some { out with segs := out.segs.put i ((out.segs.at i).setField (idx % 8) (heldField (idx % 8) w)) } := by
  unfold Replayed.wrote
  rw [h]
  exact if_pos hs

theorem Replayed.wrote_undefined (h : settingAddr page idx = none) (hs : ¬ (8 ≤ page ∧ page ≤ 15 ∧ idx ≤ 63))
    (out : Replayed) : out.wrote factory tighten page idx w = none := by
  unfold Replayed.wrote
  rw [h]
  exact if_neg hs

/-- Replay writes one value as the rules say. -/
theorem replayWrite_eq (out : Replayed) :
    replayWrite factory out tighten page idx w = out.wrote factory tighten page idx w := by
  unfold replayWrite
  cases hid : settingAddr page idx with
  | some id =>
    have hmode : (tighten || !factory) = true ↔ tighten = true ∨ factory = false := by simp
    dsimp only
    rw [replaySetting_eq, Replayed.wrote_setting hid]
    simp only [hmode]
    split_ifs <;> rfl
  | none =>
    unfold segAddr
    by_cases hs : 8 ≤ page ∧ page ≤ 15 ∧ idx ≤ 63
    · rw [if_pos hs, Replayed.wrote_segment hid hs, ← segReplayValue_eq (Nat.mod_lt idx (by decide))]
    · rw [if_neg hs, Replayed.wrote_undefined hid hs]

/-- Values are written in order up to the first that ends the patch. -/
theorem writeValues_eq (ws : List Word16) (out : Replayed) (idx : Nat) :
    writeValues (replayWrite factory) tighten page out idx ws =
      valuesWritten factory tighten page idx ws out := by
  induction ws generalizing out idx with
  | nil => rfl
  | cons w ws ih =>
    unfold writeValues valuesWritten
    rw [replayWrite_eq]
    cases out.wrote factory tighten page idx w with
    | none => rfl
    | some out' => exact ih out' (idx + 1)

end OneValue

/-! ## The codes of a patch and their bytes (R168) -/

section Codes
variable {ws : List Word16} {b : Byte} {bs rest : List Byte} {n : Nat}

/-- The two bytes of a value, high byte first. -/
def bytesOfWord (w : Word16) : List Byte := [w.extractLsb' 8 8, w.extractLsb' 0 8]

theorem bytes_values (ws : List Word16) :
    (PatchCode.values ws).bytes = BitVec.ofNat 8 ws.length :: ws.flatMap bytesOfWord := rfl

theorem word16_bytesOfWord (w : Word16) : word16 (w.extractLsb' 8 8) (w.extractLsb' 0 8) = w := by
  unfold word16
  exact BitVec.extractLsb'_append_extractLsb'_eq_extractLsb' (by decide) |>.trans BitVec.extractLsb'_eq_self

theorem bytesOfWord_word16 (hi lo : Byte) : bytesOfWord (word16 hi lo) = [hi, lo] := by
  have h1 : (word16 hi lo).extractLsb' 8 8 = hi := BitVec.extractLsb'_append_eq_left
  have h2 : (word16 hi lo).extractLsb' 0 8 = lo := BitVec.extractLsb'_append_eq_right
  rw [bytesOfWord, h1, h2]

/-- The values are taken back from their bytes. -/
theorem takeWords_append (ws : List Word16) (rest : List Byte) :
    takeWords ws.length (ws.flatMap bytesOfWord ++ rest) = some (ws, rest) := by
  induction ws with
  | nil => rfl
  | cons w ws ih =>
    show takeWords (ws.length + 1) (w.extractLsb' 8 8 :: w.extractLsb' 0 8 :: (ws.flatMap bytesOfWord ++ rest)) = _
    rw [takeWords, ih]
    simp only [word16_bytesOfWord]

theorem takeWords_some (h : takeWords n bs = some (ws, rest)) :
    ws.length = n ∧ bs = ws.flatMap bytesOfWord ++ rest := by
  induction n generalizing bs ws with
  | zero =>
    obtain ⟨rfl, rfl⟩ : [] = ws ∧ bs = rest := by simpa [takeWords] using h
    exact ⟨rfl, rfl⟩
  | succ n ih =>
    obtain - | ⟨hi, - | ⟨lo, bs⟩⟩ := bs
    · cases h
    · cases h
    · rw [takeWords] at h
      split at h
      next ws' rest' hws =>
        cases h
        obtain ⟨rfl, rfl⟩ := ih hws
        refine ⟨rfl, ?_⟩
        rw [List.flatMap_cons, bytesOfWord_word16]
        rfl
      next => cases h

/-- The values are not taken exactly where their bytes are not all there. -/
theorem takeWords_none : takeWords n bs = none ↔ bs.length < 2 * n := by
  induction n generalizing bs with
  | zero => simp [takeWords]
  | succ n ih =>
    obtain - | ⟨hi, - | ⟨lo, bs⟩⟩ := bs
    · simp [takeWords]
    · simp [takeWords]
      omega
    · have hstep : takeWords (n + 1) (hi :: lo :: bs) = none ↔ takeWords n bs = none := by
        rw [takeWords]
        cases takeWords n bs <;> simp
      rw [hstep, ih]
      simp only [List.length_cons]
      omega

/-- A byte that names a VALUES code. -/
@[reducible] def isValues (b : Byte) : Prop := 1 ≤ b.toNat ∧ b.toNat ≤ 0x20

/-- A byte that names a SKIP code. -/
@[reducible] def isSkip (b : Byte) : Prop := 0x60 ≤ b.toNat ∧ b.toNat ≤ 0x7F

theorem nextCode_skip (h : isSkip b) : nextCode (b :: bs) = some (.skip (b.toNat - 0x5F), bs) := by
  obtain ⟨hlo, hhi⟩ := h
  simp only [nextCode, hlo, hhi, show b.toNat ≠ 0xFF by omega, show b.toNat ≠ 0x40 by omega,
    show b.toNat ≠ 0x41 by omega, show b.toNat ≠ 0x42 by omega, and_self, if_true, if_false]

theorem nextCode_values (h : isValues b) :
    nextCode (b :: bs) = (takeWords b.toNat bs).map fun taken => (.values taken.1, taken.2) := by
  obtain ⟨hlo, hhi⟩ := h
  simp only [nextCode, hlo, hhi, show b.toNat ≠ 0xFF by omega, show b.toNat ≠ 0x40 by omega,
    show b.toNat ≠ 0x41 by omega, show b.toNat ≠ 0x42 by omega, show ¬ 0x60 ≤ b.toNat by omega,
    false_and, and_self, if_true, if_false]
  cases takeWords b.toNat bs <;> rfl

theorem nextCode_cutMove (h : bs.length < 2) : nextCode (0x40 :: bs) = none := by
  obtain - | ⟨p, - | ⟨i, bs⟩⟩ := bs
  · rfl
  · rfl
  · simp at h

theorem nextCode_unknown (h : ¬ (b = 0xFF ∨ b = 0x40 ∨ b = 0x41 ∨ b = 0x42 ∨ isSkip b ∨ isValues b)) :
    nextCode (b :: bs) = none := by
  simp only [not_or, ← BitVec.toNat_inj, BitVec.reduceToNat] at h
  simp only [nextCode, h, if_false]

/-- A VALUES code with all its bytes is read back. -/
theorem nextCode_values_append (hlo : 1 ≤ ws.length) (hhi : ws.length ≤ 32) :
    nextCode ((PatchCode.values ws).bytes ++ bs) = some (.values ws, bs) := by
  have hb : (BitVec.ofNat 8 ws.length : Byte).toNat = ws.length := by
    rw [BitVec.toNat_ofNat]
    omega
  rw [bytes_values, List.cons_append, nextCode_values ⟨by omega, by omega⟩, hb, takeWords_append]
  rfl

/-- A VALUES code whose bytes are all there is the bytes of its values. -/
theorem cons_eq_values_bytes (h : takeWords b.toNat bs = some (ws, rest)) :
    b :: bs = (PatchCode.values ws).bytes ++ rest ∧ ws.length = b.toNat := by
  obtain ⟨hlen, rfl⟩ := takeWords_some h
  rw [bytes_values, hlen, BitVec.ofNat_toNat, BitVec.setWidth_eq]
  exact ⟨rfl, rfl⟩

end Codes

/-! ## A patch is run code by code (R168, R169) -/

section Runs
variable {factory m : Bool} {cur : Option (Nat × Nat)} {p i n : Nat} {out o : Replayed} {ok : Bool}
  {ws : List Word16} {b : Byte} {bs : List Byte}

/-- A replayed patch from where it stands, with at most `n` codes to go. -/
def runFrom (factory : Bool) (n : Nat) (cur : Option (Nat × Nat)) (m : Bool) (out : Replayed) (bs : List Byte) :
    Replayed × Bool :=
  runPatch (replayWrite factory) n ⟨cur, m, out⟩ bs

/-- Where no code can be read the patch ends with an error. -/
theorem runFrom_none (h : nextCode bs = none) : runFrom factory (n + 1) cur m out bs = (out, false) := by
  simp [runFrom, runPatch, h]

theorem runFrom_finish : runFrom factory (n + 1) cur m out (0xFF :: bs) = (out, bs.isEmpty) := rfl

theorem runFrom_modeSet :
    runFrom factory (n + 1) cur m out (0x41 :: bs) = runFrom factory n cur false out bs := rfl

theorem runFrom_modeTighten :
    runFrom factory (n + 1) cur m out (0x42 :: bs) = runFrom factory n cur true out bs := rfl

theorem runFrom_moveTo {page idx : Byte} : runFrom factory (n + 1) cur m out (0x40 :: page :: idx :: bs) =
    if addrDefined page.toNat idx.toNat then runFrom factory n (some (page.toNat, idx.toNat)) m out bs
    else (out, false) := rfl

theorem runFrom_skip (h : isSkip b) : runFrom factory (n + 1) (some (p, i)) m out (b :: bs) =
    runFrom factory n (some (p, i + (b.toNat - 0x5F))) m out bs := by
  simp [runFrom, runPatch, nextCode_skip h]

/-- SKIP and VALUES need the cursor set. -/
theorem runFrom_unset (h : isSkip b ∨ isValues b) :
    runFrom factory (n + 1) none m out (b :: bs) = (out, false) := by
  obtain h | h := h
  · simp [runFrom, runPatch, nextCode_skip h]
  · rw [runFrom, runPatch, nextCode_values h]
    cases takeWords b.toNat bs <;> rfl

theorem runFrom_cutValues (h : isValues b) (hlen : bs.length < 2 * b.toNat) :
    runFrom factory (n + 1) cur m out (b :: bs) = (out, false) :=
  runFrom_none (by rw [nextCode_values h, takeWords_none.2 hlen]; rfl)

theorem runFrom_values (hlo : 1 ≤ ws.length) (hhi : ws.length ≤ 32) :
    runFrom factory (n + 1) (some (p, i)) m out ((PatchCode.values ws).bytes ++ bs) =
      if (valuesWritten factory m p i ws out).2 then
        runFrom factory n (some (p, i + ws.length)) m (valuesWritten factory m p i ws out).1 bs
      else ((valuesWritten factory m p i ws out).1, false) := by
  rw [runFrom, runPatch, nextCode_values_append hlo hhi]
  dsimp only
  rw [writeValues_eq]
  obtain ⟨out', _ | _⟩ := valuesWritten factory m p i ws out <;> rfl

/-- Every row of the rules is what the run does, given codes enough. -/
theorem PatchRuns.eq_runFrom (h : PatchRuns factory cur m out bs o ok) (hn : bs.length ≤ n) :
    runFrom factory (n + 1) cur m out bs = (o, ok) := by
  induction h generalizing n with
  | missing => exact runFrom_none rfl
  | unknown cur m out b bs hb => exact runFrom_none (nextCode_unknown hb)
  | ends => exact runFrom_finish
  | follows cur m out bs hbs => rw [runFrom_finish, List.isEmpty_eq_false_iff.2 hbs]
  | toSet cur m out bs o ok _ ih =>
    obtain ⟨n, rfl⟩ := Nat.exists_eq_add_of_le' (Nat.one_le_of_lt hn)
    rw [runFrom_modeSet]
    exact ih (Nat.le_of_succ_le_succ hn)
  | toTighten cur m out bs o ok _ ih =>
    obtain ⟨n, rfl⟩ := Nat.exists_eq_add_of_le' (Nat.one_le_of_lt hn)
    rw [runFrom_modeTighten]
    exact ih (Nat.le_of_succ_le_succ hn)
  | moves cur m out page idx bs o ok hdef _ ih =>
    obtain ⟨n, rfl⟩ := Nat.exists_eq_add_of_le' (Nat.one_le_of_lt hn)
    rw [runFrom_moveTo, if_pos hdef]
    exact ih (by simp only [List.length_cons] at hn; omega)
  | nowhere cur m out page idx bs hdef =>
    rw [runFrom_moveTo, hdef]
    rfl
  | cutMove cur m out bs hbs => exact runFrom_none (nextCode_cutMove hbs)
  | skips p i m out b bs o ok hlo hhi _ ih =>
    obtain ⟨n, rfl⟩ := Nat.exists_eq_add_of_le' (Nat.one_le_of_lt hn)
    rw [runFrom_skip ⟨hlo, hhi⟩]
    exact ih (Nat.le_of_succ_le_succ hn)
  | unset m out b bs hb => exact runFrom_unset hb
  | cutValues p i m out b bs hlo hhi hlen => exact runFrom_cutValues ⟨hlo, hhi⟩ hlen
  | values p i m out out' ws bs o ok hlo hhi hw _ ih =>
    obtain ⟨n, rfl⟩ := Nat.exists_eq_add_of_le' (Nat.one_le_of_lt hn)
    rw [runFrom_values hlo hhi, hw]
    exact ih (by simp only [bytes_values, List.cons_append, List.length_cons, List.length_append] at hn; omega)
  | stopped p i m out out' ws bs hlo hhi hw =>
    rw [runFrom_values hlo hhi, hw]
    rfl

/-- A run ends as the rules say where the code it begins with is VALUES. -/
theorem patchRuns_values (hb : isValues b) (hn : bs.length ≤ n)
    (ih : ∀ {cur out bs}, bs.length ≤ n →
      PatchRuns factory cur m out bs (runFrom factory (n + 1) cur m out bs).1
        (runFrom factory (n + 1) cur m out bs).2) :
    PatchRuns factory (some (p, i)) m out (b :: bs) (runFrom factory (n + 2) (some (p, i)) m out (b :: bs)).1
      (runFrom factory (n + 2) (some (p, i)) m out (b :: bs)).2 := by
  cases htaken : takeWords b.toNat bs with
  | none =>
    have hlen := takeWords_none.1 htaken
    rw [runFrom_cutValues hb hlen]
    exact .cutValues p i m out b bs hb.1 hb.2 hlen
  | some taken =>
    obtain ⟨ws, rest⟩ := taken
    obtain ⟨hbytes, hlen⟩ := cons_eq_values_bytes htaken
    obtain ⟨hlo, hhi⟩ : 1 ≤ ws.length ∧ ws.length ≤ 32 := hlen ▸ hb
    have hrest : rest.length ≤ n := by
      rw [(takeWords_some htaken).2, List.length_append] at hn
      omega
    rw [hbytes, runFrom_values hlo hhi]
    cases hw : valuesWritten factory m p i ws out with
    | mk out' done =>
      cases done with
      | true => exact .values p i m out out' ws rest _ _ hlo hhi hw (ih hrest)
      | false => exact .stopped p i m out out' ws rest hlo hhi hw

/-- A run with codes enough goes by the rules. -/
theorem patchRuns_runFrom (hn : bs.length ≤ n) :
    PatchRuns factory cur m out bs (runFrom factory (n + 1) cur m out bs).1
      (runFrom factory (n + 1) cur m out bs).2 := by
  induction n generalizing cur m out bs with
  | zero =>
    obtain rfl := List.length_eq_zero_iff.1 (Nat.le_zero.1 hn)
    exact .missing cur m out
  | succ n ih =>
    obtain - | ⟨b, bs⟩ := bs
    · exact .missing cur m out
    have hlen : bs.length ≤ n := Nat.le_of_succ_le_succ hn
    by_cases hfinish : b = 0xFF
    · subst hfinish
      rw [runFrom_finish]
      obtain - | ⟨b, bs⟩ := bs
      · exact .ends cur m out
      · exact .follows cur m out (b :: bs) (List.cons_ne_nil b bs)
    by_cases hmove : b = 0x40
    · subst hmove
      obtain - | ⟨page, - | ⟨idx, bs⟩⟩ := bs
      · exact .cutMove cur m out [] Nat.two_pos
      · exact .cutMove cur m out [page] Nat.one_lt_two
      rw [runFrom_moveTo]
      cases hdef : addrDefined page.toNat idx.toNat with
      | true => exact .moves cur m out page idx bs _ _ hdef (ih (by simp only [List.length_cons] at hlen; omega))
      | false => exact .nowhere cur m out page idx bs hdef
    by_cases hset : b = 0x41
    · subst hset
      exact .toSet cur m out bs _ _ (ih hlen)
    by_cases htighten : b = 0x42
    · subst htighten
      exact .toTighten cur m out bs _ _ (ih hlen)
    by_cases hcode : isSkip b ∨ isValues b
    · obtain - | ⟨p, i⟩ := cur
      · rw [runFrom_unset hcode]
        exact .unset m out b bs hcode
      obtain hskip | hvalues := hcode
      · rw [runFrom_skip hskip]
        exact .skips p i m out b bs _ _ hskip.1 hskip.2 (ih hlen)
      · exact patchRuns_values hvalues hlen ih
    · have hunknown : ¬ (b = 0xFF ∨ b = 0x40 ∨ b = 0x41 ∨ b = 0x42 ∨ isSkip b ∨ isValues b) := by
        simp only [hfinish, hmove, hset, htighten, hcode, or_false, not_false_eq_true]
      rw [runFrom_none (nextCode_unknown hunknown)]
      exact .unknown cur m out b bs hunknown

/-- What a replayed patch leaves written, and whether it ends without an error, are what the rules say. -/
theorem startPatch_eq_iff :
    startPatch (replayWrite factory) out bs = (o, ok) ↔ PatchRuns factory none false out bs o ok := by
  have hstart : startPatch (replayWrite factory) out bs = runFrom factory (bs.length + 1) none false out bs := rfl
  rw [hstart]
  refine ⟨fun h => ?_, fun h => h.eq_runFrom le_rfl⟩
  have hruns := patchRuns_runFrom (factory := factory) (cur := none) (m := false) (out := out) (le_refl bs.length)
  rwa [h] at hruns

end Runs

/-! ## The entries of the store (R169) -/

section Entries
variable {m : Memory} {count k : Nat} {out : Replayed} {err : Option Nat}

theorem Memory.entry_offset (m : Memory) (k : Nat) : (m.entry k).offset =
    256 * (m.read (2042 - 6 * k + 1)).toNat + (m.read (2042 - 6 * k + 2)).toNat := toNat_word16 _ _

theorem Memory.entry_patch (m : Memory) (k : Nat) :
    m.bytes (m.entry k).offset (m.entry k).length = m.patch k := by
  rw [Memory.entry_offset]
  rfl

/-- The model replays the entries that the rules replay. -/
theorem Memory.replayable_iff : m.replayable count (m.entry k) = true ↔ m.sound count k := by
  unfold Memory.replayable Memory.sound
  dsimp only
  rw [Memory.entry_offset]
  simp only [Bool.and_eq_true, beq_iff_eq, decide_eq_true_eq, and_assoc]
  rfl

/-- A skipped entry writes nothing and is a patch error. -/
theorem Memory.replayEntry_skipped (h : ¬ m.sound count k) (acc : Replayed × Option Nat) :
    m.replayEntry count acc k = (acc.1, acc.2.or (some k)) := by
  simp [Memory.replayEntry, mt Memory.replayable_iff.1 h]

/-- A sound entry is replayed from its first byte. -/
theorem Memory.replayEntry_sound {o : Replayed} {ok : Bool} (h : m.sound count k) {acc : Replayed × Option Nat}
    (hruns : PatchRuns (decide (k = 0)) none false acc.1 (m.patch k) o ok) :
    m.replayEntry count acc k = (o, if ok = true then acc.2 else acc.2.or (some k)) := by
  unfold Memory.replayEntry
  dsimp only
  rw [if_pos (Memory.replayable_iff.2 h), Memory.entry_patch, startPatch_eq_iff.2 hruns]

/-- Every patch runs to an end, with an error or without. -/
theorem Memory.exists_patchRuns (m : Memory) (k : Nat) (out : Replayed) :
    ∃ o ok, PatchRuns (decide (k = 0)) none false out (m.patch k) o ok :=
  ⟨_, _, startPatch_eq_iff.1 rfl⟩

/-- What the first `n` entries write, and the first patch error among them. -/
def Memory.replayedTo (m : Memory) (count n : Nat) : Replayed × Option Nat :=
  (List.range n).foldl (m.replayEntry count) (⟨{}, Vector.replicate 64 {}⟩, none)

theorem Memory.replayedTo_succ (m : Memory) (count n : Nat) :
    m.replayedTo count (n + 1) = m.replayEntry count (m.replayedTo count n) n := by
  simp [Memory.replayedTo, List.range_succ]

theorem Memory.ReplaysTo.eq_replayedTo {n : Nat} (h : m.ReplaysTo count n out err) :
    m.replayedTo count n = (out, err) := by
  induction h with
  | start => rfl
  | skipped k out err _ hs ih => rw [Memory.replayedTo_succ, ih, Memory.replayEntry_skipped hs]
  | replayed k out err o ok _ hs hruns ih => rw [Memory.replayedTo_succ, ih, Memory.replayEntry_sound hs hruns]

theorem Memory.replaysTo_replayedTo (m : Memory) (count n : Nat) :
    m.ReplaysTo count n (m.replayedTo count n).1 (m.replayedTo count n).2 := by
  induction n with
  | zero => exact .start
  | succ n ih =>
    rw [Memory.replayedTo_succ]
    by_cases hs : m.sound count n
    · obtain ⟨o, ok, hruns⟩ := m.exists_patchRuns n (m.replayedTo count n).1
      rw [Memory.replayEntry_sound hs hruns]
      exact .replayed n _ _ _ _ ih hs hruns
    · rw [Memory.replayEntry_skipped hs]
      exact .skipped n _ _ ih hs

theorem Memory.replaysTo_iff : m.ReplaysTo count count out err ↔ m.replay count = (out, err) := by
  refine ⟨fun h => h.eq_replayedTo, fun h => ?_⟩
  have hall := m.replaysTo_replayedTo count count
  rwa [show m.replayedTo count count = (out, err) from h] at hall

end Entries

/-! ## Later patches only tighten (R34, R169) -/

section Tightening
variable {f g h : Settings} {m : Bool} {cur : Option (Nat × Nat)} {out o : Replayed} {ok : Bool} {bs : List Byte}

theorem Settings.page_setPage (f : Settings) (c d : CavNo) (p : CavityPage) :
    (f.setPage c p).page d = if d = c then p else f.page d := by
  fin_cases c <;> fin_cases d <;> rfl

theorem Settings.ratings_setRatings (f : Settings) (c d : CavNo) (r : Ratings) :
    (f.setRatings c r).ratings d = if d = c then r else f.ratings d := by
  fin_cases c <;> fin_cases d <;> rfl

theorem Settings.setPage_ratings (f : Settings) (c d : CavNo) (p : CavityPage) :
    (f.setPage c p).ratings d = f.ratings d := by
  fin_cases c <;> rfl

theorem Ratings.at_put (r : Ratings) (p q : Position) (v : Nat) :
    (r.put p v).at q = if q = p then v else r.at q := by
  cases p <;> cases q <;> rfl

/-- A stored value is in force at its own setting. -/
theorem Settings.get_set_same (f : Settings) (id : SettingId) (v : Nat) : (f.set id v).get id = v := by
  cases id <;> simp [Settings.set, Settings.get, Settings.page_setPage, Settings.ratings_setRatings, Ratings.at_put]

theorem Settings.rating_set_other (f : Settings) {id : SettingId} {c : CavNo} {p : Position}
    (hne : id ≠ .rating c p) (v : Nat) : ((f.set id v).ratings c).at p = (f.ratings c).at p := by
  cases id with
  | rating d q =>
    show ((f.setRatings d ((f.ratings d).put q v)).ratings c).at p = _
    rw [Settings.ratings_setRatings]
    split
    next hc =>
      subst hc
      rw [Ratings.at_put, if_neg fun hq : p = q => hne (by rw [hq])]
    next => rfl
  | gain d | rampBand d | soakBand d | tripEnables d | attnMask d | fanOn d | fanOff d =>
    exact congrArg (Ratings.at · p) (f.setPage_ratings d c _)
  | _ => exact State.cav_cases (P := fun c => ((f.set _ v).ratings c).at p = (f.ratings c).at p) rfl rfl rfl c

/-- A stored value leaves every other protected setting as it was. -/
theorem Settings.get_set_other (f : Settings) {id id' : SettingId} (hp : id'.protection ≠ none) (hne : id ≠ id')
    (v : Nat) : (f.set id v).get id' = f.get id' := by
  cases id' with
  | rating c p => exact f.rating_set_other hne v
  | budgetCeiling | cleanCeiling | cookCeiling | overtempMargin | unlockLevel | doorWarn | doorTrip | cycleLimit
  | holdLimit => cases id <;> simp_all [Settings.set, Settings.get]
  | _ => exact absurd rfl hp

/-- Every protected setting of `f` lies on the safe side of its value in `g`, or equals it. -/
def Settings.Tightens (f g : Settings) : Prop :=
  ∀ id : SettingId, ∀ d ∈ id.protection, d.onSafeSide (f.get id) (g.get id) = true

theorem Safer.onSafeSide_refl (d : Safer) (v : Nat) : d.onSafeSide v v = true := by
  cases d <;> simp [Safer.onSafeSide]

theorem Safer.onSafeSide_trans {d : Safer} {u v w : Nat} (huv : d.onSafeSide u v = true)
    (hvw : d.onSafeSide v w = true) : d.onSafeSide u w = true := by
  cases d <;> simp only [Safer.onSafeSide, decide_eq_true_eq] at * <;> omega

theorem Settings.Tightens.refl (f : Settings) : f.Tightens f := fun _ d _ => d.onSafeSide_refl _

theorem Settings.Tightens.trans (hfg : f.Tightens g) (hgh : g.Tightens h) : f.Tightens h := fun id d hd =>
  Safer.onSafeSide_trans (hfg id d hd) (hgh id d hd)

/-- A value on the safe side tightens the settings it is stored in. -/
theorem Settings.tightens_set {id : SettingId} {v : Nat} (hv : f.unsafer id v = false) :
    (f.set id v).Tightens f := by
  intro id' d hd
  by_cases hid : id = id'
  · subst hid
    rw [Settings.get_set_same]
    simpa [Settings.unsafer, Option.mem_def.1 hd] using hv
  · rw [Settings.get_set_other f (by simp [Option.mem_def.1 hd]) hid]
    exact d.onSafeSide_refl _

/-- One value of a patch after the factory patch. -/
theorem Replayed.wrote_tightens {page idx : Nat} {w : Word16} (hw : out.wrote false m page idx w = some o) :
    o.cfg.Tightens out.cfg := by
  cases hid : settingAddr page idx with
  | some id =>
    rw [Replayed.wrote_setting hid] at hw
    split at hw
    next =>
      cases hw
      exact .refl _
    next hsafe =>
      split at hw
      next => cases hw
      next =>
        cases hw
        exact Settings.tightens_set (by simpa using hsafe)
  | none =>
    by_cases hs : 8 ≤ page ∧ page ≤ 15 ∧ idx ≤ 63
    · rw [Replayed.wrote_segment hid hs] at hw
      cases hw
      exact .refl _
    · rw [Replayed.wrote_undefined hid hs] at hw
      cases hw

theorem valuesWritten_tightens (page idx : Nat) (ws : List Word16) (out : Replayed) :
    (valuesWritten false m page idx ws out).1.cfg.Tightens out.cfg := by
  induction ws generalizing idx out with
  | nil => exact .refl _
  | cons w ws ih =>
    unfold valuesWritten
    split
    next out' hw => exact (ih (idx + 1) out').trans (Replayed.wrote_tightens hw)
    next => exact .refl _

/-- A whole patch after the factory patch. -/
theorem PatchRuns.tightens (hruns : PatchRuns false cur m out bs o ok) : o.cfg.Tightens out.cfg := by
  induction hruns with
  | toSet _ _ _ _ _ _ _ ih | toTighten _ _ _ _ _ _ _ ih | moves _ _ _ _ _ _ _ _ _ _ ih
  | skips _ _ _ _ _ _ _ _ _ _ _ ih => exact ih
  | values p i m out out' ws bs o ok _ _ hw _ ih =>
    have hws := valuesWritten_tightens (m := m) p i ws out
    rw [hw] at hws
    exact ih.trans hws
  | stopped p i m out out' ws bs _ _ hw =>
    have hws := valuesWritten_tightens (m := m) p i ws out
    rwa [hw] at hws
  | _ => exact .refl _

theorem Memory.replayEntry_tightens (mem : Memory) (count : Nat) {k : Nat} (hk : k ≠ 0)
    (acc : Replayed × Option Nat) : (mem.replayEntry count acc k).1.cfg.Tightens acc.1.cfg := by
  by_cases hs : mem.sound count k
  · obtain ⟨o, ok, hruns⟩ := mem.exists_patchRuns k acc.1
    rw [Memory.replayEntry_sound hs hruns]
    rw [decide_eq_false hk] at hruns
    exact hruns.tightens
  · rw [Memory.replayEntry_skipped hs]
    exact .refl _

end Tightening

/-- Settles O42: the replay is that of the rules, entry by entry, and the patch of every later entry tightens. -/
theorem laterPatchesOnlyTighten : Obligations.LaterPatchesOnlyTighten := by
  unfold Obligations.LaterPatchesOnlyTighten
  refine ⟨fun m count out err => Memory.replaysTo_iff, fun m count k acc hk => ⟨?_, fun hseal => ?_⟩⟩
  · exact m.replayEntry_tightens count hk acc
  · rw [Memory.replayEntry_skipped fun hs => hseal hs.1]

end Sys2Proof.Machine

namespace Sys2Proof.Machine

/-! ## Conditions and their owners (R65, R132 to R135) -/

/-- Whether the block that owns a condition holds its cause (R133); no block holds a momentary one's (R134). -/
def Cavity.owns (k : Cavity) : Condition → Bool
  | .overtemp => k.prb.overtemp
  | .sensor => k.prb.cavity.fault && decide (k.prb.cavity.taken = 3)
  | .doorHot => k.prb.doorHot
  | .doorProbe => k.prb.door.fault && decide (k.prb.door.taken = 3)
  | .doorWarm => k.prb.doorWarm
  | .lockJam => decide (k.lock.state = .jammed)
  | .fanStall => k.fan.stall
  | .starved => decide (40 ≤ k.starve)
  | .lockLost | .doorForced | .program => false

/-- A condition is present exactly where its owner holds its cause. -/
def Cavity.Follows (k : Cavity) (c : Condition) : Prop := k.cond.present.has c = k.owns c

/-- The conditions that the decisions of the controller and the monitor never bring to an end. -/
@[reducible] def Condition.steady (c : Condition) : Prop := c ≠ .lockJam ∧ c ≠ .fanStall ∧ c ≠ .starved

/-- What the trip law asks of one cavity. -/
def Cavity.TripFits (k : Cavity) : Prop := k.cond.trip.isSome = true ↔ k.cc.state = .faulted

/-- What the condition law asks of one cavity. -/
structure Cavity.Noted (k : Cavity) : Prop where
  cavity : k.prb.cavity.starting
  door : k.prb.door.starting
  follows : ∀ c, k.Follows c
  probeView : k.fan.probeView = k.owns .sensor
  warmView : k.fan.warmView = k.owns .doorWarm
  presentSeen : k.presentSeen

theorem Cavity.presentSeen_iff (k : Cavity) :
    k.presentSeen ↔ ∀ c, k.cond.present.has c = true → k.cond.seen.has c = true := by
  simp [Cavity.presentSeen]

theorem Cavity.noted_iff (k : Cavity) : k.Noted ↔ k.conditionsFollow ∧ k.presentSeen := by
  constructor
  · rintro ⟨hcavity, hdoor, hf, hprobe, hwarm, hseen⟩
    exact ⟨⟨hcavity, hdoor, hf .overtemp, hf .sensor, hprobe.trans (hf .sensor).symm, hf .doorHot,
      hf .doorProbe, hf .doorWarm, hwarm, hf .lockJam, hf .fanStall, hf .starved, hf .lockLost,
      hf .doorForced, hf .program⟩, hseen⟩
  · rintro ⟨⟨hcavity, hdoor, hover, hsensor, hprobe, hhot, hdp, hdw, hwarm, hjam, hstall, hstarved, hlost,
      hforced, hprogram⟩, hseen⟩
    refine ⟨hcavity, hdoor, fun c => ?_, hprobe.trans hsensor, hwarm, hseen⟩
    cases c <;> assumption

/-! ## What leaves the conditions with their owners -/

/-- A change of a cavity that moves no probe and no level, and brings no condition apart from its owner. The
proposition `p` stands for the lock drive's lawful record: a lock in JAMMED whose motor ran toward open would be
stopped out of its jam with nothing reported. -/
structure Cavity.KeepsOwners (p : Prop) (k m : Cavity) : Prop where
  probes : m.prb = { k.prb with mark := m.prb.mark }
  probeView : m.fan.probeView = k.fan.probeView
  warmView : m.fan.warmView = k.fan.warmView
  present : ∀ c, c.steady → m.cond.present.has c = k.cond.present.has c
  follows : p → ∀ c, k.Follows c → m.Follows c
  seen : ∀ c, k.cond.seen.has c = true → m.cond.seen.has c = true
  presentSeen : k.presentSeen → m.presentSeen

/-- Such a change that keeps the trip law too: what the controller and the condition monitor do. -/
structure Cavity.Handles (p : Prop) (k m : Cavity) : Prop extends Cavity.KeepsOwners p k m where
  trip : k.TripFits → m.TripFits

/-- What the trip and condition laws read of a cavity, the rest at start-up values. -/
def Cavity.monitored (k : Cavity) : Cavity :=
  { cc := { state := k.cc.state }, prb := { k.prb with mark := none }, lock := { state := k.lock.state },
    fan := { probeView := k.fan.probeView, warmView := k.fan.warmView, stall := k.fan.stall },
    cond := k.cond, starve := k.starve }

/-- A condition noted as present and as seen, before it is judged (R133). -/
def Cavity.withPresent (c : Condition) (k : Cavity) : Cavity :=
  { k with cond := { k.cond with present := k.cond.present.add c, seen := k.cond.seen.add c } }

section KeepsOwners
variable {p : Prop} {e : Env} {k m n : Cavity}

theorem Cavity.KeepsOwners.refl (k : Cavity) : Cavity.KeepsOwners p k k :=
  ⟨rfl, rfl, rfl, fun _ _ => rfl, fun _ _ h => h, fun _ h => h, fun h => h⟩

theorem Cavity.KeepsOwners.trans (h : Cavity.KeepsOwners p k m) (h' : Cavity.KeepsOwners p m n) :
    Cavity.KeepsOwners p k n where
  probes := by rw [h'.probes, h.probes]
  probeView := h'.probeView.trans h.probeView
  warmView := h'.warmView.trans h.warmView
  present c hc := (h'.present c hc).trans (h.present c hc)
  follows hp c hk := h'.follows hp c (h.follows hp c hk)
  seen c hk := h'.seen c (h.seen c hk)
  presentSeen hk := h'.presentSeen (h.presentSeen hk)

theorem Cavity.Handles.refl (k : Cavity) : Cavity.Handles p k k := ⟨.refl k, fun h => h⟩

theorem Cavity.Handles.trans (h : Cavity.Handles p k m) (h' : Cavity.Handles p m n) : Cavity.Handles p k n :=
  ⟨h.toKeepsOwners.trans h'.toKeepsOwners, fun hk => h'.trip (h.trip hk)⟩

/-- The owners of two records that differ in nothing that an owner holds. -/
theorem Cavity.owns_congr (hprb : m.prb = { k.prb with mark := m.prb.mark })
    (hjam : m.lock.state = .jammed ↔ k.lock.state = .jammed) (hstall : m.fan.stall = k.fan.stall)
    (hstarve : m.starve = k.starve) : m.owns = k.owns := by
  funext c
  cases c <;> simp only [Cavity.owns, hjam, hstall, hstarve] <;> rw [hprb]

/-- Nothing that the laws read. -/
theorem Cavity.Handles.same (h : m.monitored = k.monitored) : Cavity.Handles p k m := by
  have read {α : Type} (f : Cavity → α) : f m.monitored = f k.monitored := congrArg f h
  have hcond : m.cond = k.cond := read Cavity.cond
  have hprb : m.prb = { k.prb with mark := m.prb.mark } :=
    read fun x : Cavity => ({ x.prb with mark := m.prb.mark } : Probes)
  have hlock : m.lock.state = k.lock.state := read fun x => x.lock.state
  have howns : m.owns = k.owns :=
    Cavity.owns_congr hprb (by rw [hlock]) (read fun x => x.fan.stall) (read Cavity.starve)
  have hstate : m.cc.state = k.cc.state := read fun x => x.cc.state
  refine ⟨⟨hprb, read fun x => x.fan.probeView, read fun x => x.fan.warmView, fun c _ => by rw [hcond],
    fun _ c hc => ?_, fun c hc => by rwa [hcond], fun hs => ?_⟩, fun ht => ?_⟩
  · unfold Cavity.Follows
    rwa [hcond, howns]
  · unfold Cavity.presentSeen
    rwa [hcond]
  · unfold Cavity.TripFits
    rwa [hcond, hstate]

/-- After a change that the laws do not read. -/
theorem Cavity.Handles.after (m : Cavity) (h : m.monitored = k.monitored) (h' : Cavity.Handles p m n) :
    Cavity.Handles p k n := (Cavity.Handles.same h).trans h'

/-- A condition whose owner holds its cause, noted as present. -/
theorem Cavity.follows_withPresent {c d : Condition} (hcond : m.cond = k.cond) (hc : m.owns c = true)
    (hd : d ≠ c → m.owns d = k.owns d) (h : d ≠ c → k.Follows d) : (m.withPresent c).Follows d := by
  have howns : (m.withPresent c).owns = m.owns := by funext d; cases d <;> rfl
  have hpresent : (m.withPresent c).cond.present = k.cond.present.add c := by rw [← hcond]; rfl
  unfold Cavity.Follows
  rw [howns, hpresent, CondSet.has_add]
  by_cases hdc : d = c
  · subst hdc
    simp [hc]
  · rw [hd hdc, h hdc]
    simp [hdc]

/-- A condition whose owner no longer holds its cause, absent. -/
theorem Cavity.follows_absent {c d : Condition} (hcond : m.cond = k.cond) (hc : m.owns c = false)
    (hd : d ≠ c → m.owns d = k.owns d) (h : d ≠ c → k.Follows d) : (m.absent c).Follows d := by
  have howns : (m.absent c).owns = m.owns := by funext d; cases d <;> rfl
  have hpresent : (m.absent c).cond.present = k.cond.present.del c := by rw [← hcond]; rfl
  unfold Cavity.Follows
  rw [howns, hpresent, CondSet.has_del]
  by_cases hdc : d = c
  · subst hdc
    simp [hc]
  · rw [hd hdc, h hdc]
    simp [hdc]

theorem Cavity.presentSeen_withPresent {c : Condition} (h : k.presentSeen) : (k.withPresent c).presentSeen := by
  rw [Cavity.presentSeen_iff] at h ⊢
  intro d
  simp only [Cavity.withPresent, CondSet.has_add, Bool.or_eq_true]
  exact Or.imp_left (h d)

theorem Cavity.presentSeen_absent {c : Condition} (h : k.presentSeen) : (k.absent c).presentSeen := by
  rw [Cavity.presentSeen_iff] at h ⊢
  intro d
  simp only [Cavity.absent, CondSet.has_del, Bool.and_eq_true]
  exact fun hd => h d hd.1

/-- What the change of one owner may be: the conditions noted, the probes, the views and the state stay. -/
structure Cavity.OwnerMoves (k m : Cavity) (c : Condition) : Prop where
  cond : m.cond = k.cond
  prb : m.prb = k.prb
  probeView : m.fan.probeView = k.fan.probeView
  warmView : m.fan.warmView = k.fan.warmView
  state : m.cc.state = k.cc.state
  others : ∀ d, d ≠ c → m.owns d = k.owns d

/-- The lock, the fan or the scheduler comes to hold the cause of its condition, and reports it. -/
theorem Cavity.OwnerMoves.raise {c : Condition} (h : k.OwnerMoves m c) (hc : ¬ c.steady)
    (ho : m.owns c = true) : Cavity.Handles p k (m.withPresent c) := by
  obtain ⟨hcond, hprb, hprobe, hwarm, hstate, hothers⟩ := h
  have hne {d : Condition} (hd : d.steady) : d ≠ c := fun h => hc (h ▸ hd)
  refine ⟨⟨by rw [show (m.withPresent c).prb = m.prb from rfl, hprb], hprobe, hwarm, fun d hd => ?_,
    fun _ d hd => Cavity.follows_withPresent hcond ho (hothers d) fun _ => hd, fun d hd => ?_,
    fun hs => ?_⟩, ?_⟩
  · simp [Cavity.withPresent, hcond, hne hd]
  · simp [Cavity.withPresent, hcond, hd]
  · exact Cavity.presentSeen_withPresent (k := m) (by rwa [Cavity.presentSeen, hcond])
  · unfold Cavity.TripFits Cavity.withPresent
    dsimp only
    rw [hcond, hstate]
    exact fun h => h

/-- The lock, the fan or the scheduler no longer holds the cause of its condition, and reports it. -/
theorem Cavity.OwnerMoves.lower {c : Condition} (h : k.OwnerMoves m c) (hc : ¬ c.steady)
    (ho : m.owns c = false) : Cavity.Handles p k (m.absent c) := by
  obtain ⟨hcond, hprb, hprobe, hwarm, hstate, hothers⟩ := h
  have hne {d : Condition} (hd : d.steady) : d ≠ c := fun h => hc (h ▸ hd)
  refine ⟨⟨by rw [show (m.absent c).prb = m.prb from rfl, hprb], hprobe, hwarm, fun d hd => ?_,
    fun _ d hd => Cavity.follows_absent hcond ho (hothers d) fun _ => hd, fun d hd => ?_,
    fun hs => ?_⟩, ?_⟩
  · simp [Cavity.absent, hcond, hne hd]
  · simpa [Cavity.absent, hcond] using hd
  · exact Cavity.presentSeen_absent (k := m) (by rwa [Cavity.presentSeen, hcond])
  · unfold Cavity.TripFits Cavity.absent
    dsimp only
    rw [hcond, hstate]
    exact fun h => h

/-- The owner moves without its condition, which it holds no more and no less than before. -/
theorem Cavity.OwnerMoves.still {c : Condition} (h : k.OwnerMoves m c)
    (ho : p → k.Follows c → m.owns c = k.owns c) : Cavity.Handles p k m := by
  obtain ⟨hcond, hprb, hprobe, hwarm, hstate, hothers⟩ := h
  refine ⟨⟨by rw [hprb], hprobe, hwarm, fun d _ => by rw [hcond], fun hp d hd => ?_,
    fun d hd => by rwa [hcond], fun hs => by rwa [Cavity.presentSeen, hcond]⟩,
    fun ht => by rwa [Cavity.TripFits, hcond, hstate]⟩
  unfold Cavity.Follows
  by_cases hdc : d = c
  · subst hdc
    rw [hcond, ho hp hd]
    exact hd
  · rw [hcond, hothers d hdc]
    exact hd

/-! ### One owner moves -/

/-- A change of the lock moves the owner of LOCK JAM alone. -/
theorem Cavity.ownerMoves_lock (k : Cavity) (l : Lock) : k.OwnerMoves { k with lock := l } .lockJam :=
  ⟨rfl, rfl, rfl, rfl, rfl, fun d hd => by cases d <;> first | rfl | exact absurd rfl hd⟩

/-- A change of the fan that leaves its views moves the owner of FAN STALL alone. -/
theorem Cavity.ownerMoves_fan (k : Cavity) (f : Fan) (hprobe : f.probeView = k.fan.probeView)
    (hwarm : f.warmView = k.fan.warmView) : k.OwnerMoves { k with fan := f } .fanStall :=
  ⟨rfl, rfl, hprobe, hwarm, rfl, fun d hd => by cases d <;> first | rfl | exact absurd rfl hd⟩

/-- A change of the starvation counter moves the owner of STARVED alone. -/
theorem Cavity.ownerMoves_starve (k : Cavity) (n : Nat) : k.OwnerMoves { k with starve := n } .starved :=
  ⟨rfl, rfl, rfl, rfl, rfl, fun d hd => by cases d <;> first | rfl | exact absurd rfl hd⟩

/-! ### The fan decision and the entry of a state -/

/-- A decision of the fan reports the end of a stall that it ends (R129). -/
theorem Cavity.Handles.decideFan : Cavity.Handles p k k.decideFan := by
  obtain ⟨-, -, hprobe, hwarm, -⟩ := Fan.take_keeps k.fan (k.fan.wanted k.cc.state)
  let m : Cavity := { k with fan := k.fan.take (k.fan.wanted k.cc.state) }
  have hmoves : k.OwnerMoves m .fanStall := k.ownerMoves_fan _ hprobe hwarm
  cases hends : k.fan.stall && !m.fan.stall with
  | true =>
    have heq : k.decideFan = m.absent .fanStall := by
      simp only [Cavity.decideFan, Cavity.absent, m] at hends ⊢
      rw [if_pos hends]
    rw [heq]
    simp only [Bool.and_eq_true, Bool.not_eq_true'] at hends
    exact hmoves.lower (fun h => h.2.1 rfl) hends.2
  | false =>
    have heq : k.decideFan = m := by
      simp only [Cavity.decideFan, m] at hends ⊢
      rw [if_neg (by simp [hends])]
    rw [heq]
    refine hmoves.still fun _ _ => ?_
    have hle : m.fan.stall = true → k.fan.stall = true := by
      simp only [m]
      unfold Fan.take
      split_ifs
      · exact fun h => h
      · exact nofun
      · exact fun h => h
      · exact fun h => h
    show m.fan.stall = k.fan.stall
    cases hm : m.fan.stall <;> cases hk : k.fan.stall <;> simp_all

/-- A change of the fan that the laws do not read, and the fan decided. -/
theorem Cavity.Handles.fan (f : Fan) (hprobe : f.probeView = k.fan.probeView)
    (hwarm : f.warmView = k.fan.warmView) (hstall : f.stall = k.fan.stall) :
    Cavity.Handles p k ({ k with fan := f } : Cavity).decideFan := by
  refine .after { k with fan := f } ?_ .decideFan
  unfold Cavity.monitored
  dsimp only
  rw [hprobe, hwarm, hstall]

/-- The starvation counter set to 0, with STARVED absent. -/
theorem Cavity.Handles.starve_zero : Cavity.Handles p k (({ k with starve := 0 } : Cavity).absent .starved) :=
  (k.ownerMoves_starve 0).lower (fun h => h.2.2 rfl) rfl

/-- An entry of a state, the trip record apart. -/
theorem Cavity.KeepsOwners.enterState (st : CavState) : Cavity.KeepsOwners p k (k.enterState e st) := by
  have hkept : Cavity.Handles p k
      (if st.keepsStarve then k else ({ k with starve := 0 } : Cavity).absent .starved) := by
    split
    · exact .refl k
    · exact .starve_zero
  have hfan : ({ k.enterState e st with cc := k.cc } : Cavity).monitored =
      ((if st.keepsStarve then k else ({ k with starve := 0 } : Cavity).absent .starved).monitored) := by
    obtain ⟨-, hprobe, hwarm, -, -⟩ := Cavity.enterState_fan_keeps e st k
    have hstall : (k.enterState e st).fan.stall = k.fan.stall := by
      unfold Cavity.enterState
      refine (Fan.take_stall fun h => ?_).trans ?_
      · obtain ⟨hst, hlow⟩ := Fan.wanted_off h
        have hst : st = .idle := hst
        subst hst
        simpa [Fan.setIdle] using hlow
      · split <;> rfl
    unfold Cavity.monitored
    dsimp only
    rw [hprobe, hwarm, hstall, Cavity.enterState_cond, Cavity.enterState_starve]
    split <;> rfl
  obtain ⟨hk, -⟩ := hkept.trans (.same hfan)
  exact ⟨hk.probes, hk.probeView, hk.warmView, hk.present, hk.follows, hk.seen, hk.presentSeen⟩

/-- An entry of a state from one other than FAULTED. -/
theorem Cavity.Handles.enterState {st : CavState} (hst : st ≠ .faulted) (hk : k.cc.state ≠ .faulted) :
    Cavity.Handles p k (k.enterState e st) := by
  refine ⟨.enterState st, fun ht => ?_⟩
  unfold Cavity.TripFits at ht ⊢
  rw [Cavity.enterState_trip, ht]
  exact iff_of_false hk hst

/-! ### The condition monitor -/

/-- The views and the stall of the fan after a trip are those that the entry of FAULTED leaves. -/
theorem Cavity.trip_fan_eq (c : Condition) (later : CondSet) :
    (k.trip e c later).fan.probeView = (k.enterState e .faulted).fan.probeView ∧
      (k.trip e c later).fan.warmView = (k.enterState e .faulted).fan.warmView ∧
      (k.trip e c later).fan.stall = (k.enterState e .faulted).fan.stall := by
  unfold Cavity.trip
  dsimp only
  split <;> split <;> exact ⟨rfl, rfl, rfl⟩

/-- The STOP of a trip brings no lock into JAMMED or out of it. -/
theorem Lock.takeStop_jammed_iff (l : Lock) : l.takeStop.1.state = .jammed ↔ l.state = .jammed := by
  unfold Lock.takeStop
  split
  next ht =>
    refine iff_of_false nofun fun hj => ?_
    simp [hj, LockState.travelling] at ht
  next => rfl

/-- A trip. -/
theorem Cavity.Handles.trip_of (c : Condition) (later : CondSet) : Cavity.Handles p k (k.trip e c later) := by
  have hentered : Cavity.KeepsOwners p k (k.enterState e .faulted) := .enterState .faulted
  obtain ⟨x, hx, -⟩ := Cavity.trip_record e k c later
  obtain ⟨hpresent, hseen⟩ := Cavity.trip_cond e c later k
  obtain ⟨hprobe, hwarm, hstall⟩ := Cavity.trip_fan_eq (e := e) (k := k) c later
  have hprb : (k.trip e c later).prb = { k.prb with mark := (k.trip e c later).prb.mark } := by
    rw [Cavity.trip_prb]
    split <;> rfl
  have hpresent : (k.trip e c later).cond.present = (k.enterState e .faulted).cond.present := by
    rw [hpresent, Cavity.enterState_present]
    rfl
  have howns : (k.trip e c later).owns = (k.enterState e .faulted).owns :=
    Cavity.owns_congr hprb (by rw [Cavity.trip_lock]; exact Lock.takeStop_jammed_iff _) hstall
      (Cavity.trip_starve e c later k)
  refine ⟨⟨hprb, hprobe.trans hentered.probeView, hwarm.trans hentered.warmView, fun d hd => ?_,
    fun hp d hd => ?_, fun d hd => by rwa [hseen], fun hs => ?_⟩, fun _ => ?_⟩
  · rw [hpresent]
    exact hentered.present d hd
  · unfold Cavity.Follows
    rw [hpresent, howns]
    exact hentered.follows hp d hd
  · unfold Cavity.presentSeen
    rw [hpresent, hseen, ← Cavity.enterState_seen e .faulted k]
    exact hentered.presentSeen hs
  · unfold Cavity.TripFits
    simp [hx]

theorem Cavity.Handles.decideAmong (asked : Condition → Bool) : Cavity.Handles p k (k.decideAmong e asked) := by
  unfold Cavity.decideAmong
  split
  · exact .refl k
  · exact .trip_of _ _

theorem Cavity.Handles.decideEntry : Cavity.Handles p k (k.decideEntry e) := .decideAmong _

theorem Cavity.Handles.judge (c : Condition) : Cavity.Handles p k (k.judge e c) := by
  have later : Cavity.Handles p k { k with cond := { k.cond with
      trip := k.cond.trip.map fun t => { t with later := t.later.add c } } } := by
    refine ⟨⟨rfl, rfl, rfl, fun _ _ => rfl, fun _ d hd => ?_, fun _ h => h, fun h => h⟩, fun ht => ?_⟩
    · exact hd.trans (by cases d <;> rfl)
    · simpa [Cavity.TripFits] using ht
  unfold Cavity.judge
  split_ifs
  · exact later
  · exact .refl k
  · exact .trip_of _ _
  · exact .refl k

/-- A momentary condition is seen, and judged. -/
theorem Cavity.Handles.momentary (c : Condition) : Cavity.Handles p k (k.momentary e c) := by
  refine Cavity.Handles.trans (m := { k with cond := { k.cond with seen := k.cond.seen.add c } }) ?_ (.judge c)
  refine ⟨⟨rfl, rfl, rfl, fun _ _ => rfl, fun _ d hd => hd.trans (by cases d <;> rfl), fun d hd => ?_,
    fun hs => ?_⟩, fun ht => ht⟩
  · simp [hd]
  · rw [Cavity.presentSeen_iff] at hs ⊢
    intro d hd
    simp [hs d hd]

end KeepsOwners

end Sys2Proof.Machine

namespace Sys2Proof.Machine

/-! ## The controller leaves the conditions with their owners -/

section Controller
variable {p : Prop} {e : Env} {k : Cavity} {send : Cavity → Cavity}

/-! ### Entries of states and the program -/

theorem Cavity.Handles.endInIdle (hk : k.cc.state ≠ .faulted) : Cavity.Handles p k (k.endInIdle e) :=
  Cavity.Handles.trans (.enterState (e := e) (st := .idle) nofun hk)
    (.after ((k.enterState e .idle).setEvent .cycleEnded) rfl .decideEntry)

theorem Cavity.Handles.enterCooldown (why : LastEnd) (hk : k.cc.state ≠ .faulted) :
    Cavity.Handles p k (k.enterCooldown e why) :=
  .after (k.writeEnd why) rfl (Cavity.Handles.trans (.enterState (e := e) (st := .cooldown) nofun hk)
    (.after (((k.writeEnd why).enterState e .cooldown).clearProgram) rfl .decideEntry))

theorem Cavity.Handles.enterSegment (i : Nat) (stack : List Nat) :
    Cavity.Handles p k (k.enterSegment e i stack) :=
  Cavity.Handles.trans (.same (by rfl)) .decideFan

theorem Cavity.Handles.moveTo (hk : k.cc.state ≠ .faulted) (i : Nat) : Cavity.Handles p k (k.moveTo e i) := by
  unfold Cavity.moveTo
  split
  next j stack _ => exact .enterSegment j stack
  next j stack _ =>
    exact .after { k with cc := { k.cc with segIndex := some j, stack := stack } } rfl (.enterCooldown _ hk)
  next sub j stack _ =>
    unfold Cavity.programFault
    dsimp only
    refine .after { k with cc := { k.cc with segIndex := j, stack := stack } } rfl
      (Cavity.Handles.trans (.momentary (e := e) .program) ?_)
    split
    next => exact .refl _
    next hs => exact .enterCooldown _ hs

theorem Cavity.Handles.segmentEnds (hk : k.cc.state ≠ .faulted) : Cavity.Handles p k (k.segmentEnds e) := by
  unfold Cavity.segmentEnds
  split
  · exact .moveTo hk _
  · exact .refl k

theorem Cavity.Handles.enterCleaning (hk : k.cc.state ≠ .faulted) : Cavity.Handles p k (k.enterCleaning e) := by
  cases hi : k.cc.startSeg with
  | none =>
    unfold Cavity.enterCleaning
    rw [hi]
    exact .refl k
  | some i =>
    rw [Cavity.enterCleaning_eq hi]
    refine Cavity.Handles.trans (.enterState (e := e) (st := .cleaning) nofun hk) ?_
    refine .after (k.begun e) rfl (Cavity.Handles.trans (.moveTo (e := e) ?_ i) .decideEntry)
    rw [show (k.begun e).cc.state = .cleaning from rfl]
    exact nofun

/-! ### The lock's reports -/

/-- A way of sending RELEASE that leaves the conditions with their owners. -/
def Cavity.SendsHandled (p : Prop) (send : Cavity → Cavity) : Prop :=
  ∀ k : Cavity, Cavity.Handles p k (send k)

theorem Cavity.Handles.failStart (hsend : Cavity.SendsHandled p send) (why : StartFault)
    (hk : k.cc.state = .locking) : Cavity.Handles p k (k.failStart e why send) :=
  .after (k.writeEnd (.startFailed why)) rfl (Cavity.Handles.trans
    (.enterState (e := e) (st := .unlocking) nofun (by simp [Cavity.writeEnd, hk]))
    (Cavity.Handles.trans (hsend _) .decideEntry))

/-- A report that tells nothing of a jam. -/
def LockReport.unjammed : LockReport → Bool
  | .jamPresent | .jamAbsent => false
  | _ => true

theorem Cavity.Handles.handOver (hsend : Cavity.SendsHandled p send) {r : LockReport} (hr : r.unjammed = true) :
    Cavity.Handles p k (k.handOver e send r) := by
  cases r with
  | jamPresent => cases hr
  | jamAbsent => cases hr
  | lockLost => exact .momentary _
  | doorForced => exact .momentary _
  | locked =>
    simp only [Cavity.handOver, Cavity.answer]
    split
    next h => exact .enterCleaning (by simp [h])
    next => exact hsend k
    next => exact .refl k
  | opened =>
    rw [Cavity.handOver_opened]
    split
    next h => exact .endInIdle (by simp [h])
    next => exact .refl k
  | unknown =>
    simp only [Cavity.handOver, Cavity.answer]
    split
    next h => exact .failStart hsend _ h
    next => exact hsend k
    next => exact .refl k
  | jammed =>
    simp only [Cavity.handOver, Cavity.answer]
    split
    next h =>
      simp only [Bool.and_eq_true, decide_eq_true_eq] at h
      exact .failStart hsend _ h.1
    next => exact .refl k
  | doorOpened =>
    simp only [Cavity.handOver, Cavity.answer]
    split
    next h => exact .failStart (fun k => Cavity.Handles.refl k) _ h
    next => exact .refl k
  | lockRefused =>
    simp only [Cavity.handOver, Cavity.answer]
    split
    next h =>
      exact .after (k.writeEnd (.startFailed .doorOpen)) rfl (.endInIdle (by simp [Cavity.writeEnd, h]))
    next h => exact .endInIdle (by simp [h])
    next => exact .refl k

/-- A lock drive reports a jam with its entry of JAMMED, and the end of the jam with the leg that leaves it,
before anything else (R119, R120); `p` is what that takes of its record. -/
inductive Lock.Tells (p : Prop) (l : Lock) : Lock × List LockReport → Prop
  | aside {l' : Lock} {rs : List LockReport} (h : p → (l'.state = .jammed ↔ l.state = .jammed))
      (hrs : rs.all LockReport.unjammed = true) : Tells p l (l', rs)
  | jams {l' : Lock} {rs : List LockReport} (h : l'.state = .jammed)
      (hrs : rs.all LockReport.unjammed = true) : Tells p l (l', .jamPresent :: rs)
  | ends {l' : Lock} {rs : List LockReport} (h : l'.state ≠ .jammed)
      (hrs : rs.all LockReport.unjammed = true) : Tells p l (l', .jamAbsent :: rs)

/-- A change at a lock drive that tells of its jams, with its reports. -/
theorem Cavity.Handles.afterLock (hsend : Cavity.SendsHandled p send) {res : Lock × List LockReport}
    (h : k.lock.Tells p res) : Cavity.Handles p k (k.afterLock e send res) := by
  have rest (rs : List LockReport) : ∀ m : Cavity, rs.all LockReport.unjammed = true →
      Cavity.Handles p m (rs.foldl (fun k r => k.handOver e send r) m) := by
    induction rs with
    | nil => exact fun m _ => .refl m
    | cons r rs ih =>
      intro m hrs
      rw [List.all_cons, Bool.and_eq_true] at hrs
      exact Cavity.Handles.trans (.handOver hsend hrs.1) (ih _ hrs.2)
  cases h with
  | @aside l rs h hrs =>
    exact Cavity.Handles.trans ((k.ownerMoves_lock l).still fun hp _ => decide_eq_decide.2 (h hp))
      (rest rs _ hrs)
  | @jams l rs h hrs =>
    refine Cavity.Handles.trans ((k.ownerMoves_lock l).raise (fun hs => hs.1 rfl) (decide_eq_true h)) ?_
    exact Cavity.Handles.trans (.judge (e := e) .lockJam) (rest rs _ hrs)
  | @ends l rs h hrs =>
    exact Cavity.Handles.trans ((k.ownerMoves_lock l).lower (fun hs => hs.1 rfl) (decide_eq_false h))
      (rest rs _ hrs)

end Controller

/-! ### The lock drive tells of its jams -/

section Tells
variable {p : Prop} {v : LockEnv} {l m : Lock}

/-- A drive that comes of an event neither jammed nor with a word of a jam. -/
def Lock.unjams (res : Lock × List LockReport) : Prop :=
  res.1.state ≠ .jammed ∧ res.2.all LockReport.unjammed = true

theorem Lock.tells_same (hs : m.state = l.state) : l.Tells p (m, []) := .aside (fun _ => by rw [hs]) rfl

theorem Lock.tells_of_unjams {res : Lock × List LockReport} (h : Lock.unjams res) (hl : l.state ≠ .jammed) :
    l.Tells p res := .aside (fun _ => iff_of_false h.1 hl) h.2

theorem Lock.tells_jam : l.Tells p m.jam := .jams rfl rfl

theorem Lock.unjams_finalLeg {st : LockState} {g : Goal} {n : Nat} (hst : st ≠ .jammed) :
    Lock.unjams (l.finalLeg v st g n) := by
  unfold Lock.finalLeg
  split
  · cases g <;> exact ⟨nofun, rfl⟩
  · exact ⟨hst, rfl⟩

theorem Lock.unjams_turnLock : Lock.unjams (l.turnLock v) := by
  unfold Lock.turnLock
  split
  · exact Lock.unjams_finalLeg nofun
  · exact ⟨nofun, rfl⟩

theorem Lock.tells_turnRelease (hl : l.state ≠ .jammed) : l.Tells p (m.turnRelease v) := by
  unfold Lock.turnRelease
  split
  · exact Lock.tells_of_unjams (Lock.unjams_finalLeg nofun) hl
  · exact Lock.tells_jam

/-- A first leg from JAMMED ends the jam. -/
theorem Lock.tells_finalLeg_of_jammed {st : LockState} {g : Goal} {n : Nat} (hst : st ≠ .jammed) :
    l.Tells p ((l.finalLeg v st g n).1, .jamAbsent :: (l.finalLeg v st g n).2) := by
  obtain ⟨h, hrs⟩ := Lock.unjams_finalLeg (l := l) (v := v) (g := g) (n := n) hst
  exact .ends h hrs

theorem Lock.tells_takeLock : l.Tells p (l.takeLock v) := by
  unfold Lock.takeLock
  split
  case h_3 =>
    split
    · exact Lock.tells_finalLeg_of_jammed nofun
    · exact .aside (fun _ => Iff.rfl) rfl
  case h_4 => exact .aside (fun _ => Iff.rfl) rfl
  case h_5 hs =>
    split_ifs
    · exact Lock.tells_same rfl
    · exact Lock.tells_of_unjams (Lock.unjams_finalLeg nofun) (by simp [hs])
    · exact .aside (fun _ => Iff.rfl) rfl
  case h_6 hs =>
    split <;> exact Lock.tells_same rfl
  all_goals
    split
    next hs _ => exact Lock.tells_of_unjams (Lock.unjams_finalLeg nofun) (by simp [hs])
    next => exact .aside (fun _ => Iff.rfl) rfl

theorem Lock.tells_takeRelease : l.Tells p (l.takeRelease v) := by
  unfold Lock.takeRelease
  split
  case h_1 => exact .aside (fun _ => Iff.rfl) rfl
  case h_4 =>
    split
    · exact Lock.tells_finalLeg_of_jammed nofun
    · exact Lock.tells_same rfl
  case h_5 hs =>
    split_ifs
    · exact Lock.tells_same rfl
    · exact Lock.tells_of_unjams (Lock.unjams_finalLeg nofun) (by simp [hs])
    · exact Lock.tells_same rfl
  case h_6 => split <;> exact Lock.tells_same rfl
  all_goals
    split
    next hs _ => exact Lock.tells_of_unjams (Lock.unjams_finalLeg nofun) (by simp [hs])
    next => exact Lock.tells_same rfl

/-- A lawful drive whose motor runs toward open is in travel, and not in JAMMED. -/
theorem Lock.tells_stopOpenDrive (hp : p → l.shaped) : l.Tells p l.stopOpenDrive := by
  unfold Lock.stopOpenDrive
  split
  next hm =>
    refine .aside (fun h => iff_of_false nofun fun hj => ?_) rfl
    obtain ⟨-, -, hstop, -⟩ := (hp h).atRest (by rw [hj]; rfl)
    simp [hstop] at hm
  next => exact Lock.tells_same rfl

theorem Lock.tells_endLeg (ht : l.state.travelling = true) : l.Tells p (l.endLeg v) := by
  have hl : l.state ≠ .jammed := fun hj => by simp [hj, LockState.travelling] at ht
  unfold Lock.endLeg
  split
  · exact Lock.tells_of_unjams Lock.unjams_turnLock hl
  · exact Lock.tells_turnRelease hl
  · exact Lock.tells_of_unjams ⟨nofun, rfl⟩ hl
  · exact Lock.tells_of_unjams ⟨nofun, rfl⟩ hl
  · exact Lock.tells_same rfl

theorem Lock.tells_afterSwitch (sw : EndSwitch) (active : Bool) : l.Tells p (l.afterSwitch v sw active) := by
  have lost (hs : l.state ≠ .jammed) {rs : List LockReport} (hrs : rs.all LockReport.unjammed = true) :
      l.Tells p (l.rest .unknown, rs) := Lock.tells_of_unjams ⟨nofun, hrs⟩ hs
  unfold Lock.afterSwitch
  split
  · split
    · split
      next => exact Lock.tells_same rfl
      next => exact Lock.tells_same rfl
      next hs => exact lost (by simp [hs]) rfl
      next hj _ => exact lost hj rfl
    split
    next hends =>
      refine Lock.tells_endLeg ?_
      cases hs : l.state <;> simp [hs, LockState.endsAt] at hends ⊢ <;> rfl
    next => exact Lock.tells_same rfl
  · split
    next hs => exact lost (by simp [hs]) rfl
    next hs => exact lost (by simp [hs]) rfl
    next => exact Lock.tells_same rfl

theorem Lock.Tells.of_state {res : Lock × List LockReport} (h : m.Tells p res) (hs : m.state = l.state) :
    l.Tells p res := by
  cases h with
  | aside h hrs => exact .aside (fun hp => by rw [h hp, hs]) hrs
  | jams h hrs => exact .jams h hrs
  | ends h hrs => exact .ends h hrs

theorem Lock.tells_switchChange (sw : EndSwitch) (active : Bool) : l.Tells p (l.switchChange v sw active) := by
  unfold Lock.switchChange
  split
  · exact Lock.tells_same rfl
  · exact (Lock.tells_afterSwitch sw active).of_state (by cases sw <;> rfl)

theorem Lock.tells_doorChange (closed : Bool) : l.Tells p (l.doorChange v closed) := by
  unfold Lock.doorChange
  split
  · exact Lock.tells_same rfl
  dsimp only
  split
  · exact Lock.tells_same rfl
  split
  next hs =>
    have hl : l.state ≠ .jammed := by rw [show l.state = .closing from hs]; exact nofun
    unfold Lock.doorTurn
    dsimp only
    split
    · obtain ⟨h, hrs⟩ := Lock.unjams_finalLeg (l := { l with doorClosed := closed }) (v := v) (g := .opened)
        (n := l.attempt) (st := .opening) nofun
      exact Lock.tells_of_unjams ⟨h, by rw [List.all_append, hrs]; rfl⟩ hl
    · exact .jams rfl rfl
  next => exact .aside (fun _ => Iff.rfl) rfl
  next => exact Lock.tells_same rfl

theorem Lock.tells_timeout : l.Tells p (l.timeout v) := by
  unfold Lock.timeout
  split
  swap
  · exact Lock.tells_same rfl
  next h =>
    simp only [Bool.and_eq_true, decide_eq_true_eq] at h
    have hl : l.state ≠ .jammed := fun hj => by simp [hj, LockState.travelling] at h
    split_ifs
    · unfold Lock.retryRelease
      split
      · exact Lock.tells_turnRelease hl
      · exact Lock.tells_of_unjams ⟨nofun, rfl⟩ hl
    · exact Lock.tells_jam
    · unfold Lock.retryLock
      split
      · exact Lock.tells_of_unjams Lock.unjams_turnLock hl
      · exact Lock.tells_of_unjams ⟨nofun, rfl⟩ hl
    · exact Lock.tells_jam
    · exact Lock.tells_jam

theorem Lock.tells_mainsBack : l.Tells p (l.mainsBack v) := by
  unfold Lock.mainsBack
  dsimp only
  split
  next => exact Lock.tells_same rfl
  next hs =>
    split
    · exact Lock.tells_same rfl
    · exact Lock.tells_of_unjams ⟨nofun, rfl⟩ (by rw [show l.state = .opening from hs]; exact nofun)
  next => exact Lock.tells_same rfl

end Tells

section Sends
variable {p : Prop} {e : Env} {k : Cavity}

theorem Cavity.Handles.sendRelease : Cavity.Handles p k (k.sendRelease e) :=
  .afterLock (fun k => Cavity.Handles.refl k) Lock.tells_takeRelease

theorem Cavity.Handles.lockChanged {res : Lock × List LockReport} (h : k.lock.Tells p res) :
    Cavity.Handles p k (k.lockChanged e res) := .afterLock (fun _ => Cavity.Handles.sendRelease) h

/-- UNLOCKING entered with a RELEASE. -/
theorem Cavity.Handles.unlock (hk : k.cc.state ≠ .faulted) :
    Cavity.Handles p k (((k.enterState e .unlocking).sendRelease e).decideEntry e) :=
  Cavity.Handles.trans (.enterState (e := e) (st := .unlocking) nofun hk)
    (Cavity.Handles.trans .sendRelease .decideEntry)

end Sends

end Sys2Proof.Machine

namespace Sys2Proof.Machine

/-! ## The stages of a sample and the conditions (R62 to R65, R69 to R71, R133) -/

/-- A level's condition as the level leaves it, before it is judged (R133). -/
def Cavity.levelNoted (c : Condition) (was now : Bool) (k : Cavity) : Cavity :=
  if was = now then k else if now then k.withPresent c else k.absent c

section Stages
variable {p : Prop} {e : Env} {k m : Cavity}

theorem Cavity.Handles.noted (h : Cavity.Handles p k m) (hp : p) (hk : k.Noted) : m.Noted := by
  obtain ⟨hcavity, hdoor, hfollows, hprobe, hwarm, hseen⟩ := hk
  have hsensor : m.owns .sensor = k.owns .sensor := by simp only [Cavity.owns]; rw [h.probes]
  have hdoorWarm : m.owns .doorWarm = k.owns .doorWarm := by simp only [Cavity.owns]; rw [h.probes]
  refine ⟨by rw [h.probes]; exact hcavity, by rw [h.probes]; exact hdoor,
    fun c => h.follows hp c (hfollows c), ?_, ?_, h.presentSeen hseen⟩
  · rw [h.probeView, hprobe, hsensor]
  · rw [h.warmView, hwarm, hdoorWarm]

theorem Cavity.Handles.releaseLaw (hp : p → k.lock.shaped) (cls : SampleClass) :
    Cavity.Handles p k (k.releaseLaw e cls) := by
  unfold Cavity.releaseLaw
  split
  · exact .lockChanged (Lock.tells_stopOpenDrive hp)
  · exact .refl k

theorem Cavity.Handles.markStage (cls : SampleClass) : Cavity.Handles p k (k.markStage e cls) := by
  unfold Cavity.markStage
  cases k.prb.mark with
  | none => exact .refl k
  | some d =>
    dsimp only
    split_ifs
    · have hmarked : Cavity.Handles p k (k.marked d) := .same rfl
      obtain ⟨i, -, hk, -, h⟩ | ⟨-, h⟩ := Cavity.confirmMark_cases e d k <;> rw [h]
      · exact hmarked.trans (Cavity.Handles.moveTo (k := k.marked d) (by simp [Cavity.marked, hk]) _)
      · exact hmarked
    · exact .same rfl
    · exact .same rfl

theorem Cavity.Handles.recoverStage (third : Bool) : Cavity.Handles p k (k.recoverStage e third) := by
  unfold Cavity.recoverStage Cavity.recover
  let k1 : Cavity := { k with cc := { k.cc with recovering := false } }
  dsimp only
  split_ifs with h1 hf
  · exact .same rfl
  · exact .after k1 rfl (.fan _ rfl rfl rfl)
  · exact .after (k1.writeEnd .recovered) rfl (.unlock hf)
  · exact .after k1 rfl (.enterCooldown _ hf)
  · exact .refl k

theorem Cavity.Handles.goodSample : Cavity.Handles p k (k.goodSample e) := by
  unfold Cavity.goodSample
  dsimp only
  split
  · exact .refl k
  split
  next hs =>
    split_ifs
    · exact .endInIdle (by simp [hs])
    · exact .unlock (by simp [hs])
    · exact .refl k
  next =>
    split
    · exact .sendRelease
    · exact .refl k
  next =>
    split
    · exact .sendRelease
    · exact .refl k
  next => exact .refl k

/-- What is left of a cavity sample once OVERTEMP has been looked at. -/
def Cavity.sampleRest (e : Env) (cls : SampleClass) (third : Bool) (k : Cavity) : Cavity :=
  let k6 := ((k.releaseLaw e cls).markStage e cls).recoverStage e third
  if cls.good then k6.goodSample e else k6

theorem Cavity.Handles.sampleRest (hp : p → k.lock.shaped) (cls : SampleClass) (third : Bool) :
    Cavity.Handles p k (k.sampleRest e cls third) := by
  have last (m : Cavity) : Cavity.Handles p m (if cls.good then m.goodSample e else m) := by
    split
    · exact .goodSample
    · exact .refl m
  exact Cavity.Handles.trans (.releaseLaw hp cls)
    (Cavity.Handles.trans (.markStage cls) (Cavity.Handles.trans (.recoverStage third) (last _)))

/-- The cavity once a cavity sample's fault, its end and OVERTEMP have been reported. -/
def Cavity.sampleHead (e : Env) (v : Int) (k : Cavity) : Cavity :=
  let k2 := (k.probed v).reportCavityFault e (k.prb.cavity.sampleClass v)
  if (k.prb.cavity.sampleClass v).good then k2.checkOvertemp e else k2

theorem Cavity.cavitySample_eq_rest (e : Env) (v : Int) (k : Cavity) : k.cavitySample e v =
    (k.sampleHead e v).sampleRest e (k.prb.cavity.sampleClass v)
      (decide ((k.prb.cavity.after (-400) 6000 v).taken = 3)) := Cavity.cavitySample_eq

theorem Cavity.sampleHead_shaped (v : Int) (h : k.lock.shaped) : (k.sampleHead e v).lock.shaped := by
  have hacts : (k.probed v).Acts (k.sampleHead e v) := by
    unfold Cavity.sampleHead
    dsimp only
    split
    · exact Cavity.Acts.trans (.reportCavityFault _) .checkOvertemp
    · exact .reportCavityFault _
  exact (hacts.lockShaped h).2.1

/-! ### The reports of a sample -/

/-- A level's report is its condition noted, and judged where the level has risen. -/
theorem Cavity.Handles.levelReport (c : Condition) (was now : Bool) :
    Cavity.Handles p (k.levelNoted c was now) (k.levelReport e c was now) := by
  unfold Cavity.levelNoted Cavity.levelReport
  split_ifs
  · exact .refl k
  · exact .judge c
  · exact .refl _

/-- Every condition but one stands with its owner, that one as its level was: then every condition stands with
its owner once the level is noted. -/
theorem Cavity.follows_levelNoted {c : Condition} {was now : Bool} (hothers : ∀ d, d ≠ c → k.Follows d)
    (hwas : k.cond.present.has c = was) (hnow : k.owns c = now) (d : Condition) :
    (k.levelNoted c was now).Follows d := by
  unfold Cavity.levelNoted
  split_ifs with hsame hn
  · by_cases hd : d = c
    · subst hd
      exact hwas.trans (hsame.trans hnow.symm)
    · exact hothers d hd
  · exact Cavity.follows_withPresent rfl (hnow.trans hn) (fun _ => rfl) (hothers d)
  · exact Cavity.follows_absent rfl (hnow.trans (by simpa using hn)) (fun _ => rfl) (hothers d)

theorem Cavity.presentSeen_levelNoted {c : Condition} {was now : Bool} (h : k.presentSeen) :
    (k.levelNoted c was now).presentSeen := by
  unfold Cavity.levelNoted
  split_ifs
  · exact h
  · exact Cavity.presentSeen_withPresent h
  · exact Cavity.presentSeen_absent h

/-- A level's condition noted changes nothing but the conditions present and seen. -/
theorem Cavity.levelNoted_eq (c : Condition) (was now : Bool) (k : Cavity) :
    k.levelNoted c was now = { k with cond := (k.levelNoted c was now).cond } ∧
      (k.levelNoted c was now).cond.trip = k.cond.trip := by
  unfold Cavity.levelNoted
  split_ifs <;> exact ⟨rfl, rfl⟩

/-- A level moves: its owner's field is written, and its condition reported. -/
theorem Cavity.noted_levelReport {c : Condition} {was now : Bool}
    (hprobes : k.prb.cavity.starting ∧ k.prb.door.starting) (hothers : ∀ d, d ≠ c → k.Follows d)
    (hwas : k.cond.present.has c = was) (hnow : k.owns c = now) (hprobe : k.fan.probeView = k.owns .sensor) (hwarm : k.fan.warmView = k.owns .doorWarm)
    (hseen : k.presentSeen) : (k.levelReport e c was now).Noted := by
  obtain ⟨heq, -⟩ := Cavity.levelNoted_eq c was now k
  have howns (d : Condition) : (k.levelNoted c was now).owns d = k.owns d := by rw [heq]; cases d <;> rfl
  refine (Cavity.Handles.levelReport (p := True) c was now).noted trivial ⟨?_, ?_,
    Cavity.follows_levelNoted hothers hwas hnow, ?_, ?_, Cavity.presentSeen_levelNoted hseen⟩
  · rw [heq]
    exact hprobes.1
  · rw [heq]
    exact hprobes.2
  · rw [howns, ← hprobe, heq]
  · rw [howns, ← hwarm, heq]

theorem Cavity.tripFits_levelReport {c : Condition} {was now : Bool} (h : k.TripFits) :
    (k.levelReport e c was now).TripFits := by
  obtain ⟨heq, htrip⟩ := Cavity.levelNoted_eq c was now k
  refine (Cavity.Handles.levelReport (p := True) c was now).trip ?_
  unfold Cavity.TripFits
  rw [htrip, heq]
  exact h

/-! ### A probe and its fault -/

theorem Probe.after_starting {lo hi v : Int} {q : Probe} (h : q.starting) : (q.after lo hi v).starting := by
  obtain ⟨htaken, hfault⟩ := h
  unfold Probe.after Probe.starting
  by_cases hf : q.fault = true
  · by_cases hr : lo ≤ v ∧ v ≤ hi <;> by_cases hg : 2 ≤ q.good <;> simp [hf, hr, hg] <;> omega
  · have h3 : q.taken = 3 := by
      by_contra hne
      exact hf (hfault (by omega)).1
    by_cases hr : lo ≤ v ∧ v ≤ hi <;> by_cases hb : 2 ≤ q.bad <;> simp [hf, hr, hb, h3]

/-- A probe's fault stands as a condition after a sample where the sample reports it, and where it stood before
unless the sample ends it. -/
theorem Probe.after_owns {lo hi v : Int} {q : Probe} (h : q.starting) :
    ((q.after lo hi v).fault && decide ((q.after lo hi v).taken = 3)) =
      (q.faultReported lo hi v || ((q.fault && decide (q.taken = 3)) && !q.goodSample lo hi v)) := by
  obtain ⟨htaken, hfault⟩ := h
  by_cases hf : q.fault = true
  · have ht : (min 3 (q.taken + 1) = 3) = (q.taken = 2 ∨ q.taken = 3) := by
      simp only [eq_iff_iff]
      omega
    by_cases hr : lo ≤ v ∧ v ≤ hi <;> by_cases hg : 2 ≤ q.good <;>
      simp [Probe.after, Probe.faultReported, Probe.goodSample, hf, hr, hg, ht]
  · have h3 : q.taken = 3 := by
      by_contra hne
      exact hf (hfault (by omega)).1
    by_cases hr : lo ≤ v ∧ v ≤ hi <;> by_cases hb : 2 ≤ q.bad <;>
      simp [Probe.after, Probe.faultReported, hf, hr, hb, h3]

/-- A probe's fault noted as present where a sample begins it, and as absent where one ends it. -/
def Cavity.faultNoted (c : Condition) (cls : SampleClass) (k : Cavity) : Cavity :=
  if cls.onset then k.withPresent c else if cls.ended then k.absent c else k

theorem Cavity.faultNoted_keeps (c : Condition) (cls : SampleClass) (k : Cavity) :
    (k.faultNoted c cls).cc = k.cc ∧ (k.faultNoted c cls).prb = k.prb ∧ (k.faultNoted c cls).fan = k.fan ∧
      (k.faultNoted c cls).cond.trip = k.cond.trip := by
  unfold Cavity.faultNoted
  split_ifs <;> exact ⟨rfl, rfl, rfl, rfl⟩

theorem Cavity.presentSeen_faultNoted {c : Condition} {cls : SampleClass} (h : k.presentSeen) :
    (k.faultNoted c cls).presentSeen := by
  unfold Cavity.faultNoted
  split_ifs
  · exact Cavity.presentSeen_withPresent h
  · exact Cavity.presentSeen_absent h
  · exact h

/-- The cavity `m` is `k` with one probe sampled, whose fault is the condition `c`: once the fault is noted, every
condition stands with its owner. -/
theorem Cavity.follows_faultNoted {c : Condition} {lo hi v : Int} {q : Probe} (hq : q.starting)
    (hk : ∀ d, k.Follows d) (hcond : m.cond = k.cond) (hothers : ∀ d, d ≠ c → m.owns d = k.owns d)
    (hwas : k.owns c = (q.fault && decide (q.taken = 3)))
    (hnow : m.owns c = ((q.after lo hi v).fault && decide ((q.after lo hi v).taken = 3))) (d : Condition) :
    (m.faultNoted c
      { good := q.goodSample lo hi v
        onset := q.faultReported lo hi v
        ended := q.fault && q.goodSample lo hi v }).Follows d := by
  rw [Probe.after_owns hq, ← hwas] at hnow
  unfold Cavity.faultNoted
  dsimp only
  split_ifs with honset hended
  · exact Cavity.follows_withPresent hcond (by rw [hnow, honset]; rfl) (hothers d) fun _ => hk d
  · rw [Bool.and_eq_true] at hended
    refine Cavity.follows_absent hcond ?_ (hothers d) fun _ => hk d
    rw [hnow, Bool.eq_false_iff.2 honset, hended.2]
    simp
  · have hsame : m.owns c = k.owns c := by
      rw [hnow, Bool.eq_false_iff.2 honset, hwas]
      cases hf : q.fault <;> simp_all
    unfold Cavity.Follows
    rw [hcond, hk d]
    by_cases hd : d = c
    · rw [hd, hsame]
    · exact (hothers d hd).symm

end Stages

end Sys2Proof.Machine

namespace Sys2Proof.Machine

/-! ## Every operation keeps the trip and condition laws of its cavity -/

/-- A change that keeps the trip law of a cavity and, its lock drive being lawful (`p`), the condition law. -/
structure Cavity.Keeps (p : Prop) (k m : Cavity) : Prop where
  trip : k.TripFits → m.TripFits
  noted : p → k.Noted → m.Noted

section Keeps
variable {p : Prop} {e : Env} {k m n : Cavity}

theorem Cavity.Handles.keeps (h : Cavity.Handles p k m) : Cavity.Keeps p k m := ⟨h.trip, h.noted⟩

theorem Cavity.Keeps.refl (k : Cavity) : Cavity.Keeps p k k := ⟨fun h => h, fun _ h => h⟩

theorem Cavity.Keeps.trans (h : Cavity.Keeps p k m) (h' : Cavity.Keeps p m n) : Cavity.Keeps p k n :=
  ⟨fun hk => h'.trip (h.trip hk), fun hp hk => h'.noted hp (h.noted hp hk)⟩

theorem Cavity.Keeps.same (h : m.monitored = k.monitored) : Cavity.Keeps p k m := (Cavity.Handles.same h).keeps

/-! ### Samples -/

/-- A sample of the cavity probe, with the begin or the end of its fault reported to the monitor and the fan. -/
theorem Cavity.Keeps.cavityFault (v : Int) :
    Cavity.Keeps p k ((k.probed v).reportCavityFault e (k.prb.cavity.sampleClass v)) := by
  let noted : Cavity := (k.probed v).faultNoted .sensor (k.prb.cavity.sampleClass v)
  obtain ⟨hcc, hnprb, hfan, htrip⟩ : noted.cc = k.cc ∧ noted.prb = (k.probed v).prb ∧
      noted.fan = k.fan ∧ noted.cond.trip = k.cond.trip := Cavity.faultNoted_keeps ..
  have told {j : Cavity} (hj : Cavity.Handles p noted j) (b : Bool)
      (hb : k.Noted → noted.cond.present.has .sensor = b) :
      Cavity.Keeps p k { j with fan := { j.fan with probeView := b } } := by
    refine ⟨fun ht => hj.trip ?_, fun hp hk => ?_⟩
    · unfold Cavity.TripFits
      rw [htrip, hcc]
      exact ht
    have hf (d : Condition) : noted.Follows d :=
      Cavity.follows_faultNoted (k := k) (m := k.probed v) (q := k.prb.cavity) hk.cavity hk.follows rfl
        (fun d hd => by cases d <;> first | rfl | exact absurd rfl hd) rfl rfl d
    have hprb : j.prb = { (k.probed v).prb with mark := j.prb.mark } := by
      rw [hj.probes, hnprb]
    have hwarm : j.fan.warmView = k.prb.doorWarm := by
      rw [hj.warmView, hfan]
      exact hk.warmView
    refine ⟨?_, ?_, fun d => (hj.follows hp d (hf d)).trans (by cases d <;> rfl), ?_, ?_,
      hj.presentSeen (Cavity.presentSeen_faultNoted hk.presentSeen)⟩
    · dsimp only
      rw [hprb]
      exact Probe.after_starting hk.cavity
    · dsimp only
      rw [hprb]
      exact hk.door
    · have hsensor : j.owns .sensor = noted.owns .sensor := by
        simp only [Cavity.owns]
        rw [hj.probes]
      exact ((hb hk).symm.trans (hf .sensor)).trans hsensor.symm
    · exact hwarm.trans (by simp only [Cavity.owns]; rw [hprb]; rfl)
  unfold Cavity.reportCavityFault
  split_ifs with honset hended
  · have hn : noted = (k.probed v).withPresent .sensor := if_pos honset
    exact Cavity.Keeps.trans (told (hn ▸ Cavity.Handles.judge .sensor) true
      fun _ => by simp [hn, Cavity.withPresent]) Cavity.Handles.decideFan.keeps
  · have hn : noted = (k.probed v).absent .sensor := (if_neg honset).trans (if_pos hended)
    exact Cavity.Keeps.trans (told (hn ▸ Cavity.Handles.refl _) false
      fun _ => by simp [hn, Cavity.absent]) Cavity.Handles.decideFan.keeps
  · have hn : noted = k.probed v := (if_neg honset).trans (if_neg hended)
    exact told (j := k.probed v) (by rw [hn]; exact .refl _) k.fan.probeView fun hk => by
      rw [hn, hk.probeView]
      exact hk.follows .sensor

/-- OVERTEMP follows its level (R71). -/
theorem Cavity.Keeps.checkOvertemp : Cavity.Keeps p k (k.checkOvertemp e) := by
  refine ⟨fun ht => Cavity.tripFits_levelReport ht, fun hp hk => ?_⟩
  refine Cavity.noted_levelReport ⟨hk.cavity, hk.door⟩ (fun d hd => (hk.follows d).trans ?_)
    (hk.follows .overtemp) rfl hk.probeView hk.warmView hk.presentSeen
  cases d <;> first | rfl | exact absurd rfl hd

theorem Cavity.Keeps.cavitySample (hs : p → k.lock.shaped) (v : Int) :
    Cavity.Keeps p k (k.cavitySample e v) := by
  rw [Cavity.cavitySample_eq_rest]
  refine Cavity.Keeps.trans (m := k.sampleHead e v) ?_
    (Cavity.Handles.sampleRest (fun hp => Cavity.sampleHead_shaped v (hs hp)) _ _).keeps
  unfold Cavity.sampleHead
  dsimp only
  split
  · exact Cavity.Keeps.trans (.cavityFault v) .checkOvertemp
  · exact .cavityFault v

/-- What a sample is to the stages that follow its first, at the door. -/
def Probe.doorClass (v : Int) (q : Probe) : SampleClass :=
  { good := q.goodSample (-400) 2500 v, onset := q.faultReported (-400) 2500 v,
    ended := q.fault && q.goodSample (-400) 2500 v }

/-- The cavity with its door probe as the first stage of a door sample leaves it. -/
def Cavity.doorProbed (v : Int) (k : Cavity) : Cavity :=
  { k with prb := { k.prb with door := k.prb.door.after (-400) 2500 v } }

/-- A door sample is its stages. -/
theorem Cavity.doorSample_eq (e : Env) (v : Int) (k : Cavity) :
    let k2 := (k.doorProbed v).reportDoorFault e (k.prb.door.doorClass v)
    k.doorSample e v =
      if (k.prb.door.doorClass v).good then (k2.decideDoorHot e).decideDoorWarm e else k2 := by
  have hs : k.prb.door.sample Config.doorLo Config.doorHi v =
      (k.prb.door.after (-400) 2500 v, k.prb.door.doorClass v) := Probe.sample_eq ..
  unfold Cavity.doorSample
  rw [hs]
  rfl

/-- A sample of the door probe, with the begin or the end of its fault reported. -/
theorem Cavity.Keeps.doorFault (v : Int) :
    Cavity.Keeps p k ((k.doorProbed v).reportDoorFault e (k.prb.door.doorClass v)) := by
  let noted : Cavity := (k.doorProbed v).faultNoted .doorProbe (k.prb.door.doorClass v)
  obtain ⟨hcc, hprb, hfan, htrip⟩ : noted.cc = k.cc ∧ noted.prb = (k.doorProbed v).prb ∧
      noted.fan = k.fan ∧ noted.cond.trip = k.cond.trip := Cavity.faultNoted_keeps ..
  have hreport : Cavity.Handles p noted ((k.doorProbed v).reportDoorFault e (k.prb.door.doorClass v)) := by
    simp only [noted, Cavity.faultNoted, Cavity.reportDoorFault]
    split_ifs
    · exact .judge .doorProbe
    · exact .refl _
    · exact .refl _
  refine Cavity.Keeps.trans (m := noted) ⟨fun ht => ?_, fun _ hk => ?_⟩ hreport.keeps
  · unfold Cavity.TripFits
    rw [htrip, hcc]
    exact ht
  refine ⟨by rw [hprb]; exact hk.cavity, by rw [hprb]; exact Probe.after_starting hk.door,
    Cavity.follows_faultNoted (k := k) (lo := -400) (hi := 2500) hk.door hk.follows rfl
      (fun d hd => by cases d <;> first | rfl | exact absurd rfl hd) rfl rfl, ?_, ?_,
    Cavity.presentSeen_faultNoted hk.presentSeen⟩
  · rw [hfan, hk.probeView]
    simp only [Cavity.owns, hprb]
    rfl
  · rw [hfan, hk.warmView]
    simp only [Cavity.owns, hprb]
    rfl

/-- DOOR HOT follows its level (R70). -/
theorem Cavity.Keeps.decideDoorHot : Cavity.Keeps p k (k.decideDoorHot e) := by
  refine ⟨fun ht => Cavity.tripFits_levelReport ht, fun hp hk => ?_⟩
  refine Cavity.noted_levelReport ⟨hk.cavity, hk.door⟩ (fun d hd => (hk.follows d).trans ?_)
    (hk.follows .doorHot) rfl hk.probeView hk.warmView hk.presentSeen
  cases d <;> first | rfl | exact absurd rfl hd

/-- DOOR WARM never trips, so its report is its condition noted (R136). -/
theorem Cavity.levelReport_doorWarm (was now : Bool) :
    k.levelReport e .doorWarm was now = k.levelNoted .doorWarm was now := by
  have hjudge (m : Cavity) : m.judge e .doorWarm = m := by
    unfold Cavity.judge
    split_ifs with h1 h2 h3
    · cases h2
    · rfl
    · cases hs : m.cc.state <;> simp [CavState.trips] at h3
    · rfl
  unfold Cavity.levelReport Cavity.levelNoted
  split_ifs
  · rfl
  · exact hjudge _
  · rfl

/-- DOOR WARM follows its level, and the fan its view of it (R69). -/
theorem Cavity.Keeps.decideDoorWarm : Cavity.Keeps p k (k.decideDoorWarm e) := by
  unfold Cavity.decideDoorWarm
  dsimp only
  split
  · exact .refl k
  generalize k.prb.warmNow e.cfg.limits.doorWarn = now
  rw [Cavity.levelReport_doorWarm]
  let m : Cavity := { k with prb := { k.prb with doorWarm := now } }
  let n : Cavity := { m with cond := (m.levelNoted .doorWarm k.prb.doorWarm now).cond,
                             fan := { k.fan with warmView := now } }
  obtain ⟨heq, htrip⟩ := Cavity.levelNoted_eq .doorWarm k.prb.doorWarm now m
  have hn : ({ m.levelNoted .doorWarm k.prb.doorWarm now with
      fan := { (m.levelNoted .doorWarm k.prb.doorWarm now).fan with warmView := now } } : Cavity) = n := by
    rw [heq]
  rw [hn]
  refine Cavity.Keeps.trans (m := n) ⟨fun ht => ?_, fun _ hk => ?_⟩ Cavity.Handles.decideFan.keeps
  · unfold Cavity.TripFits
    rw [show n.cond.trip = k.cond.trip from htrip]
    exact ht
  · have hseen : m.presentSeen := hk.presentSeen
    have hlevel : (m.levelNoted .doorWarm k.prb.doorWarm now).presentSeen := Cavity.presentSeen_levelNoted hseen
    refine ⟨hk.cavity, hk.door, fun d => ?_, hk.probeView, rfl, hlevel⟩
    have hd : (m.levelNoted .doorWarm k.prb.doorWarm now).Follows d :=
      Cavity.follows_levelNoted (k := m) (fun d hd => (hk.follows d).trans
        (by cases d <;> first | rfl | exact absurd rfl hd)) (hk.follows .doorWarm) rfl d
    refine hd.trans ?_
    rw [heq]
    cases d <;> rfl

theorem Cavity.Keeps.doorSample (v : Int) : Cavity.Keeps p k (k.doorSample e v) := by
  rw [Cavity.doorSample_eq]
  split
  · exact Cavity.Keeps.trans (.doorFault v) (Cavity.Keeps.trans .decideDoorHot .decideDoorWarm)
  · exact .doorFault v

/-! ### The work of a window start, the fan's tach and starvation -/

theorem Cavity.Handles.windowWork : Cavity.Handles p k (k.windowWork e) := by
  have stage1 : Cavity.Handles p k (k.stage1 e) := by
    unfold Cavity.stage1 Cavity.countCleaning Cavity.countHeld
    split
    next hs =>
      dsimp only
      split_ifs
      · exact .after { k with cc := { k.cc with cycle := k.cc.cycle + 1 } } rfl (.enterCooldown _ (by simp [hs]))
      · split <;> exact .same rfl
    next hs =>
      dsimp only
      split_ifs
      · exact .after { k with cc := { k.cc with hold := k.cc.hold + 1 } } rfl (.enterCooldown _ (by simp [hs]))
      · exact .same rfl
    next => exact .refl k
  have stage3 (m : Cavity) : Cavity.Handles p m (m.stage3 e) := by
    unfold Cavity.stage3
    split
    next i hs hi =>
      have harr : (m.decideArrived e (e.segs.at i)).monitored = m.monitored ∧
          (m.decideArrived e (e.segs.at i)).cc.state = m.cc.state := by
        unfold Cavity.decideArrived
        split <;> exact ⟨rfl, rfl⟩
      obtain ⟨harr, hst⟩ := harr
      have hst : (m.decideArrived e (e.segs.at i)).cc.state ≠ .faulted := by simp [hst, hs]
      refine .after _ harr ?_
      dsimp only
      split_ifs
      · exact .segmentEnds hst
      · exact .enterCooldown _ hst
      · exact .segmentEnds hst
      · exact .refl _
    next => exact .refl m
  have stage2 (m : Cavity) : Cavity.Handles p m (m.stage2 e) := .same rfl
  have stage4 (m : Cavity) : Cavity.Handles p m (m.stage4 e) := .same rfl
  exact ((stage1.trans (stage2 _)).trans (stage3 _)).trans (stage4 _)

theorem Cavity.Handles.tachPulse : Cavity.Handles p k (k.tachPulse e) := by
  unfold Cavity.tachPulse
  split
  swap
  · exact .refl k
  have hmoves := k.ownerMoves_fan { k.fan with pulseSeen := true, stall := false } rfl rfl
  dsimp only
  split
  next => exact hmoves.lower (fun h => h.2.1 rfl) rfl
  next hs => exact hmoves.still fun _ _ => (by simpa using hs : k.fan.stall = false).symm

theorem Cavity.Handles.tachExpiry : Cavity.Handles p k (k.tachExpiry e) := by
  unfold Cavity.tachExpiry
  split
  next => exact .refl k
  next => exact .same rfl
  next =>
    let stalls := !k.fan.pulseSeen && !k.fan.stall
    let f : Fan := { k.fan with tachLeft := Config.tachMs, pulseSeen := false, stall := k.fan.stall || stalls }
    have hmoves := k.ownerMoves_fan f rfl rfl
    dsimp only
    split
    next hs =>
      exact Cavity.Handles.trans (hmoves.raise (fun h => h.2.1 rfl) (by simp [Cavity.owns, f, stalls, hs]))
        (.judge .fanStall)
    next hs => exact hmoves.still fun _ _ => by simp [Cavity.owns, f, stalls, hs]

theorem Cavity.Handles.moveStarve : Cavity.Handles p k (k.moveStarve e) := by
  unfold Cavity.moveStarve
  split
  · split
    swap
    · exact .starve_zero
    have hmoves := k.ownerMoves_starve (k.starve + 1)
    dsimp only
    split
    next h =>
      rw [Bool.and_eq_true] at h
      exact Cavity.Handles.trans (hmoves.raise (fun h => h.2.2 rfl) h.1) (.judge .starved)
    next h =>
      refine hmoves.still fun _ hk => ?_
      have hk : k.cond.present.has .starved = decide (40 ≤ k.starve) := hk
      have h : 40 ≤ k.starve + 1 → k.cond.present.has .starved = true := by
        simpa [Config.starvedAt] using h
      simp only [Cavity.owns, decide_eq_decide]
      refine ⟨fun h40 => ?_, fun h40 => by omega⟩
      simpa [hk] using h h40
  · exact .refl k
  · exact .starve_zero

/-! ### Orders, events, and what every cavity takes alike -/

/-- A FAULT CLEAR that passes its checks, up to the entry that ends FAULTED: no record stands over it. -/
theorem Cavity.Keeps.clearTrip {st : CavState} (hst : st ≠ .faulted) :
    Cavity.Keeps p k (({ k with cond := { k.cond with trip := none } } : Cavity).enterState e st) := by
  let k1 : Cavity := { k with cond := { k.cond with trip := none } }
  have hentered : Cavity.KeepsOwners p k1 (k1.enterState e st) := .enterState st
  have htrip : (k1.enterState e st).TripFits := by
    unfold Cavity.TripFits
    rw [Cavity.enterState_trip]
    exact iff_of_false nofun hst
  refine ⟨fun _ => htrip, fun hp hk => ?_⟩
  have hk1 : k1.Noted := ⟨hk.cavity, hk.door, fun d => (hk.follows d).trans (by cases d <;> rfl), hk.probeView,
    hk.warmView, hk.presentSeen⟩
  exact Cavity.Handles.noted ⟨hentered, fun _ => htrip⟩ hp hk1

/-- CONDITIONS ACK takes no condition present from the conditions seen (R146). -/
theorem Cavity.Keeps.conditionsAck (w : Word16) : Cavity.Keeps p k (k.conditionsAck w).1 := by
  unfold Cavity.conditionsAck
  split
  swap
  · exact .refl k
  refine ⟨fun ht => ht, fun _ hk => ⟨hk.cavity, hk.door, fun d => (hk.follows d).trans (by cases d <;> rfl),
    hk.probeView, hk.warmView, ?_⟩⟩
  have hseen := (Cavity.presentSeen_iff _).1 hk.presentSeen
  rw [Cavity.presentSeen_iff]
  intro d hd
  have hd : maskHas k.cond.present d.bit = true := hd
  have hs : maskHas k.cond.seen d.bit = true := hseen d hd
  simp [CondSet.has, hd, hs]

theorem Cavity.Order.keeps (ho : k.Order e m) : Cavity.Keeps p k m := by
  cases ho with
  | start i =>
    unfold Cavity.cleanStart
    split_ifs with h1
    all_goals first | exact .refl k | skip
    refine Cavity.Handles.keeps
      (Cavity.Handles.trans (.enterState (e := e) (st := .locking) nofun (by simp_all)) ?_)
    refine .after { k.enterState e .locking with
      cc := { (k.enterState e .locking).cc with startSeg := some i } } rfl ?_
    exact Cavity.Handles.trans (.lockChanged Lock.tells_takeLock) .decideEntry
  | hold =>
    unfold Cavity.cleanHold
    split
    next h =>
      exact (Cavity.Handles.trans (.enterState (e := e) (st := .held) nofun (by simp [h])) .decideEntry).keeps
    next => exact .refl k
    next => exact .refl k
  | resume =>
    unfold Cavity.cleanResume
    split
    next h =>
      refine (Cavity.Handles.trans (.enterState (e := e) (st := .cleaning) nofun (by simp [h])) ?_).keeps
      exact Cavity.Handles.trans (.same (by rfl)) .decideEntry
    next => exact .refl k
  | abandon =>
    unfold Cavity.cleanAbandon
    split
    next h =>
      exact (Cavity.Handles.after (k := k) (k.writeEnd .abandoned) rfl
        (.unlock (by simp [Cavity.writeEnd, h]))).keeps
    next h => exact (Cavity.Handles.enterCooldown _ (by simp [h])).keeps
    next h => exact (Cavity.Handles.enterCooldown _ (by simp [h])).keeps
    next => exact .refl k
    next => exact .refl k
    next => exact .refl k
  | cook v elems =>
    rw [Cavity.cookSet]
    split_ifs with h1 h2 h3 h4
    · exact .refl k
    · exact .refl k
    · exact .refl k
    · refine (Cavity.Handles.trans (.enterState (e := e) (st := .cooking) nofun (by simp [h4])) ?_).keeps
      exact Cavity.Handles.trans (.same (by rfl)) .decideEntry
    · exact .same rfl
  | cookOff =>
    unfold Cavity.cookOff
    split
    next => exact .refl k
    next h =>
      exact (Cavity.Handles.trans (.enterState (e := e) (st := .idle) nofun (by simp [h])) .decideEntry).keeps
    next => exact .refl k
  | events b =>
    unfold Cavity.eventsAck
    split <;> exact .same rfl
  | conditions w => exact .conditionsAck w
  | clear =>
    let k1 : Cavity := { k with cond := { k.cond with trip := none } }
    unfold Cavity.faultClear
    dsimp only
    split_ifs
    · exact .refl k
    · exact .refl k
    · exact .refl k
    · refine Cavity.Keeps.trans (.clearTrip (e := e) (st := .idle) nofun) ?_
      exact (Cavity.Handles.after (k := k1.enterState e .idle) ((k1.enterState e .idle).setEvent .cycleEnded) rfl
        .decideEntry).keeps
    · refine Cavity.Keeps.trans (.clearTrip (e := e) (st := .unlocking) nofun) ?_
      exact (Cavity.Handles.trans .sendRelease .decideEntry).keeps

theorem Cavity.Event.keeps (he : k.Event e m) (hs : p → k.lock.shaped) : Cavity.Keeps p k m := by
  cases he with
  | cavitySample v => exact .cavitySample hs v
  | doorSample v => exact .doorSample v
  | lockSwitch sw active => exact (Cavity.Handles.lockChanged (Lock.tells_switchChange sw active)).keeps
  | doorSwitch c => exact (Cavity.Handles.lockChanged (Lock.tells_doorChange c)).keeps
  | timeout => exact (Cavity.Handles.lockChanged Lock.tells_timeout).keeps
  | review =>
    unfold Cavity.levelReview
    dsimp only
    split
    · exact Cavity.Handles.keeps (.fan _ rfl rfl rfl)
    · exact .refl k
  | pulse => exact Cavity.Handles.tachPulse.keeps
  | expiry => exact Cavity.Handles.tachExpiry.keeps
  | work => exact Cavity.Handles.windowWork.keeps

theorem Cavity.Common.keeps (hc : k.Common e m) : Cavity.Keeps p k m := by
  cases hc with
  | clearEvents => exact .same rfl
  | clampClean => exact .same rfl
  | clampCook =>
    unfold Cavity.clampCook
    dsimp only
    split <;> exact .same rfl
  | enables old => exact (Cavity.Handles.decideAmong _).keeps
  | starve => exact Cavity.Handles.moveStarve.keeps
  | mainsBack => exact (Cavity.Handles.lockChanged Lock.tells_mainsBack).keeps
  | pass => exact .same rfl
  | shed q => cases q <;> exact .same rfl

theorem Cavity.Keeps.unlockLowered (hs : p → k.lock.shaped) : Cavity.Keeps p k (k.unlockLowered e) := by
  unfold Cavity.unlockLowered
  split
  · exact .refl k
  · exact (Cavity.Handles.lockChanged (Lock.tells_stopOpenDrive hs)).keeps

/-- A dropout pauses the lock and gives the window up. -/
theorem Cavity.Keeps.dropout :
    Cavity.Keeps p k { k.abandonWindow e with lock := k.lock.mainsGone } := by
  refine .same ?_
  unfold Cavity.monitored
  dsimp only
  rw [k.lock.mainsGone_keeps.1]
  rfl

end Keeps

/-! ### Every kind of change keeps the trip and condition laws -/

section Shifts
variable {s t : State}

theorem State.tripLaw_iff (s : State) : s.TripLaw ↔ ∀ c, (s.cav c).TripFits := Iff.rfl

theorem State.conditionLaw_iff (s : State) : s.ConditionLaw ↔ ∀ c, (s.cav c).Noted :=
  forall_congr' fun _ => (Cavity.noted_iff _).symm

/-- A cavity at its start-up values, its lock not in JAMMED. -/
theorem Cavity.noted_of_startUp {k : Cavity} (hprb : k.prb = {}) (hfan : k.fan = {}) (hcond : k.cond = {})
    (hstarve : k.starve = 0) (hlock : k.lock.state ≠ .jammed) : k.Noted := by
  refine ⟨?_, ?_, fun c => ?_, ?_, ?_, ?_⟩
  · rw [hprb]
    decide
  · rw [hprb]
    decide
  · unfold Cavity.Follows
    rw [hcond, show (({} : Conditions).present.has c) = false from CondSet.has_zero c]
    cases c <;> simp [Cavity.owns, hprb, hfan, hstarve, hlock]
  · rw [hfan, Cavity.owns, hprb]
    rfl
  · rw [hfan, Cavity.owns, hprb]
  · rw [Cavity.presentSeen_iff, hcond]
    intro c hc
    rw [show (({} : Conditions).present.has c) = false from CondSet.has_zero c] at hc
    cases hc

theorem Lock.fromSwitches_ne_jammed (l : Lock) : l.fromSwitches.state ≠ .jammed := by
  show lockStateOf l.lockedSw l.openSw ≠ .jammed
  unfold lockStateOf
  split <;> exact nofun

/-- Every kind of change keeps the trip law. -/
theorem State.Shift.tripLaw (h : State.Shift s t) (hs : s.TripLaw) : t.TripLaw := by
  have setCav {c : CavNo} {k : Cavity} (hk : Cavity.Keeps False (s.cav c) k) : (s.setCav c k).TripLaw :=
    (State.tripLaw_iff _).2 (State.forall_setCav (P := fun _ k => k.TripFits) hs (hk.trip (hs c)))
  have fresh {k : Cavity} (hcc : k.cc.state = .idle) (hcond : k.cond = {}) : k.TripFits := by
    unfold Cavity.TripFits
    rw [hcc, hcond]
    exact iff_of_false nofun nofun
  rw [State.tripLaw_iff]
  cases h with
  | aside hf hc =>
    intro c
    rw [hc]
    exact hs c
  | opens h l hl => exact hs
  | order c hf ho h => exact setCav h.keeps
  | event c hf h => exact setCav (h.keeps nofun)
  | common c h => exact setCav h.keeps
  | follows c hf sw active => exact setCav ⟨fun h => h, nofun⟩
  | followsDoor c hf cl => exact setCav ⟨fun h => h, nofun⟩
  | unlock v =>
    obtain ⟨-, -, -, -, hc⟩ := s.storeUnlock_eq v
    intro c
    obtain ⟨h, -⟩ | ⟨-, h⟩ := hc c
    · rw [h]
      exact hs c
    · rw [h]
      exact (Cavity.Keeps.unlockLowered (p := False) nofun).trip (hs c)
  | fits v hidle =>
    obtain ⟨-, -, -, -, hc⟩ := s.storeFitted_eq v
    intro c
    rw [hc]
    split
    · exact hs c
    · exact fresh rfl rfl
  | segment g _ => exact hs
  | window segs slot cfg link h =>
    intro c
    rw [(h c).1]
    exact hs c
  | slot hi hij =>
    intro c
    rw [State.beginSlot_cav]
    exact hs c
  | dropout segs slot cfg link h =>
    intro c
    rw [h]
    exact (Cavity.Keeps.dropout (p := False)).trip (hs c)
  | starts inp =>
    exact State.cav_cases (P := fun c => ((s.startUp inp).cav c).TripFits) (fresh rfl rfl) (fresh rfl rfl)
      (fresh rfl rfl)

/-- Every kind of change keeps the condition law, the unfitted cavities and the lock drives being lawful. -/
theorem State.Shift.conditionLaw (h : State.Shift s t) (hu : s.UnfittedLaw) (hl : s.LockLaw)
    (hs : s.ConditionLaw) : t.ConditionLaw := by
  rw [State.conditionLaw_iff] at hs ⊢
  have setCav {c : CavNo} {k : Cavity} (hk : Cavity.Keeps True (s.cav c) k) :
      ∀ d, ((s.setCav c k).cav d).Noted :=
    State.forall_setCav (P := fun _ k => k.Noted) hs (hk.noted trivial (hs c))
  have same {c : CavNo} {k : Cavity} (h : k.monitored = (s.cav c).monitored) : k.Noted :=
    (Cavity.Keeps.same (p := True) h).noted trivial (hs c)
  have unjammed {c : CavNo} (hf : s.fitted c = false) : (s.cav c).lock.state ≠ .jammed := by
    obtain ⟨-, -, -, -, -, hlock⟩ := hu c hf
    rw [hlock]
    exact Lock.fromSwitches_ne_jammed _
  cases h with
  | aside hf hc =>
    intro c
    rw [hc]
    exact hs c
  | opens h l hl => exact hs
  | order c hf ho h => exact setCav h.keeps
  | event c hf h => exact setCav (h.keeps fun _ => (hl c).1)
  | common c h => exact setCav h.keeps
  | follows c hf sw active =>
    obtain ⟨-, hprb, hfan, hcond, hstarve, -⟩ := hu c hf
    exact setCav ⟨fun h => h, fun _ _ =>
      Cavity.noted_of_startUp hprb hfan hcond hstarve (Lock.fromSwitches_ne_jammed _)⟩
  | followsDoor c hf cl => exact setCav (.same rfl)
  | unlock v =>
    obtain ⟨-, -, -, -, hc⟩ := s.storeUnlock_eq v
    intro c
    obtain ⟨h, -⟩ | ⟨-, h⟩ := hc c
    · rw [h]
      exact hs c
    · rw [h]
      exact (Cavity.Keeps.unlockLowered (p := True) fun _ => (hl c).1).noted trivial (hs c)
  | fits v hidle =>
    obtain ⟨-, -, -, -, hc⟩ := s.storeFitted_eq v
    intro c
    rw [hc]
    split
    · exact hs c
    next hne =>
      refine Cavity.noted_of_startUp rfl rfl rfl rfl ?_
      cases hf : s.fitted c with
      | true =>
        rw [show (s.storeFitted v).fitted c = false by simpa [hf] using Ne.symm hne]
        exact Lock.fromSwitches_ne_jammed _
      | false =>
        rw [show (s.storeFitted v).fitted c = true by simpa [hf] using Ne.symm hne]
        exact unjammed hf
  | segment g _ => exact hs
  | window segs slot cfg link h =>
    intro c
    rw [(h c).1]
    exact same rfl
  | slot hi hij =>
    intro c
    rw [State.beginSlot_cav]
    exact same rfl
  | dropout segs slot cfg link h =>
    intro c
    rw [h]
    exact (Cavity.Keeps.dropout (p := True)).noted trivial (hs c)
  | starts inp =>
    have fresh (fitted : Bool) (sw : SwitchPositions) : (cavityAtStart fitted sw).Noted :=
      Cavity.noted_of_startUp rfl rfl rfl rfl (Lock.fromSwitches_ne_jammed _)
    exact State.cav_cases (P := fun c => ((s.startUp inp).cav c).Noted) (fresh _ _) (fresh _ _) (fresh _ _)

/-- Settles O11: the trip law of each cavity, and its conditions with their owners beside the laws that say which
locks can be in JAMMED. -/
theorem tripAndConditionLawsAreKept : Obligations.TripAndConditionLawsAreKept := by
  unfold Obligations.TripAndConditionLawsAreKept
  intro s t h
  have condition (s t : State) (hst : State.Shift s t) (hs : (s.UnfittedLaw ∧ s.LockLaw) ∧ s.ConditionLaw) :
      (t.UnfittedLaw ∧ t.LockLaw) ∧ t.ConditionLaw :=
    ⟨⟨hst.unfittedLaw hs.1.1, hst.lockLaw hs.1.1 hs.1.2⟩, hst.conditionLaw hs.1.1 hs.1.2 hs.2⟩
  exact ⟨step_keeps (fun _ _ => State.Shift.tripLaw) h,
    fun hu hl hc => (step_keeps condition h ⟨⟨hu, hl⟩, hc⟩).2⟩

end Shifts

end Sys2Proof.Machine

namespace Sys2Proof.Machine

/-! ## Samples move their probe and its levels (R60 to R65, R69 to R71) -/

section Probes
variable {e : Env} {v : Int} {k : Cavity}

/-- A report of a level moves no probe and no level. -/
theorem Cavity.levelReport_probes (c : Condition) (was now : Bool) :
    (k.levelReport e c was now).prb = { k.prb with mark := (k.levelReport e c was now).prb.mark } := by
  have h := (Cavity.Handles.levelReport (p := False) (e := e) (k := k) c was now).probes
  rwa [show (k.levelNoted c was now).prb = k.prb by rw [(Cavity.levelNoted_eq c was now k).1]] at h

theorem Cavity.reportCavityFault_probes (cls : SampleClass) :
    (k.reportCavityFault e cls).prb = { k.prb with mark := (k.reportCavityFault e cls).prb.mark } := by
  unfold Cavity.reportCavityFault
  split_ifs
  · exact (Cavity.Handles.judge (p := False) (e := e) (k := k.withPresent .sensor) .sensor).probes
  · rfl
  · rfl

theorem Cavity.reportDoorFault_probes (cls : SampleClass) :
    (k.reportDoorFault e cls).prb = { k.prb with mark := (k.reportDoorFault e cls).prb.mark } := by
  unfold Cavity.reportDoorFault
  split_ifs
  · exact (Cavity.Handles.judge (p := False) (e := e) (k := k.withPresent .doorProbe) .doorProbe).probes
  · rfl
  · rfl

/-- The check of OVERTEMP moves its level alone. -/
theorem Cavity.checkOvertemp_probes : ∃ d, (k.checkOvertemp e).prb = { k.prb with
    overtemp := decide ((e.cfg.limits.cleanCeiling : Int) + e.cfg.limits.overtempMargin < k.prb.cavity.reading)
    mark := d } := ⟨_, Cavity.levelReport_probes ..⟩

/-- The decisions of DOOR HOT and DOOR WARM move each its level alone. -/
theorem Cavity.decideDoorHot_probes : ∃ d, (k.decideDoorHot e).prb = { k.prb with
    doorHot := decide ((e.cfg.limits.doorTrip : Int) ≤ k.prb.door.reading), mark := d } :=
  ⟨_, Cavity.levelReport_probes ..⟩

theorem Cavity.decideDoorWarm_probes : ∃ d, (k.decideDoorWarm e).prb = { k.prb with
    doorWarm := k.prb.warmNow e.cfg.limits.doorWarn, mark := d } := by
  unfold Cavity.decideDoorWarm
  dsimp only
  split
  next h => exact ⟨k.prb.mark, by rw [← h]⟩
  next => exact ⟨_, Cavity.levelReport_probes ..⟩

/-- A cavity sample at the probe interface is the one of the statements. -/
theorem Cavity.cavitySample_sampled : k.cavitySampled e v (k.cavitySample e v) := by
  have hrest := (Cavity.Handles.sampleRest (p := False) (e := e) (k := k.sampleHead e v) nofun
    (k.prb.cavity.sampleClass v) (decide ((k.prb.cavity.after (-400) 6000 v).taken = 3))).probes
  rw [← Cavity.cavitySample_eq_rest] at hrest
  have hfault := Cavity.reportCavityFault_probes (e := e) (k := k.probed v) (k.prb.cavity.sampleClass v)
  have hhead : ∃ d, (k.sampleHead e v).prb = { (k.probed v).prb with
      overtemp := if k.prb.cavity.goodSample (-400) 6000 v then
        decide ((e.cfg.limits.cleanCeiling : Int) + e.cfg.limits.overtempMargin < v) else k.prb.overtemp
      mark := d } := by
    unfold Cavity.sampleHead
    dsimp only
    cases hg : k.prb.cavity.goodSample (-400) 6000 v with
    | true =>
      obtain ⟨hread, -, -⟩ := Probe.after_of_good hg
      obtain ⟨d, hover⟩ := Cavity.checkOvertemp_probes (e := e)
        (k := (k.probed v).reportCavityFault e (k.prb.cavity.sampleClass v))
      refine ⟨d, ?_⟩
      rw [if_pos (show (k.prb.cavity.sampleClass v).good = true from hg), hover, hfault]
      simp only [Cavity.probed, hread, if_true]
    | false =>
      refine ⟨((k.probed v).reportCavityFault e (k.prb.cavity.sampleClass v)).prb.mark, ?_⟩
      rw [if_neg (by simp [Probe.sampleClass, hg]), hfault]
      rfl
  obtain ⟨d, hhead⟩ := hhead
  rw [hhead] at hrest
  unfold Cavity.cavitySampled
  rw [hrest]
  exact ⟨rfl, rfl, rfl, rfl, rfl⟩

/-- A door sample at the probe interface is the one of the statements. -/
theorem Cavity.doorSample_sampled : k.doorSampled e v (k.doorSample e v) := by
  have hfault := Cavity.reportDoorFault_probes (e := e) (k := k.doorProbed v) (k.prb.door.doorClass v)
  unfold Cavity.doorSampled
  rw [Cavity.doorSample_eq]
  cases hg : k.prb.door.goodSample (-400) 2500 v with
  | true =>
    obtain ⟨hread, -, -⟩ := Probe.after_of_good hg
    generalize (k.doorProbed v).reportDoorFault e (k.prb.door.doorClass v) = m at hfault
    obtain ⟨d, hhot⟩ := Cavity.decideDoorHot_probes (e := e) (k := m)
    obtain ⟨d', hwarm⟩ := Cavity.decideDoorWarm_probes (e := e) (k := m.decideDoorHot e)
    rw [if_pos (show (k.prb.door.doorClass v).good = true from hg), if_pos rfl, hwarm, hhot, hfault]
    refine ⟨rfl, rfl, rfl, by simp only [Cavity.doorProbed, hread], ?_⟩
    simp only [Probes.warmNow, Cavity.doorProbed, hread]
    split
    · rw [← decide_not, decide_eq_decide, not_lt]
    · rfl
  | false =>
    rw [if_neg (by simp [Probe.doorClass, hg]), if_neg nofun, hfault]
    exact ⟨rfl, rfl, rfl, rfl, rfl⟩

/-- Settles O43: each sample is its stages, of which only the first and the levels move the probe interface. -/
theorem samplesMoveTheirProbe : Obligations.SamplesMoveTheirProbe := by
  unfold Obligations.SamplesMoveTheirProbe
  intro s c v
  have sampled {f : Env → Cavity → Cavity} {P : Cavity → Prop} (hP : P (f (s.env c) (s.cav c))) :
      ∃ t, (s.ifFitted c f).settled = .next t ∧
        if s.fitted c then s.onlyCavity c t ∧ P (t.cav c) else s.nothingMoves t := by
    cases hf : s.fitted c with
    | true =>
      obtain ⟨t, ht, honly, hc⟩ := s.ifFitted_settled c f hf
      exact ⟨t, ht, by rw [if_pos rfl, hc]; exact ⟨honly, hP⟩⟩
    | false =>
      refine ⟨_, rfl, ?_⟩
      rw [if_neg nofun, s.ifFitted_of_not c f hf]
      exact s.nothingMoves_self
  exact ⟨sampled Cavity.cavitySample_sampled, sampled Cavity.doorSample_sampled⟩

end Probes

end Sys2Proof.Machine

namespace Sys2Proof.Machine

/-! ## Onsets that trip (R62, R70, R71, R136, R137) -/

/-- A change after a trip that leaves the cavity tripped as it was. -/
structure Cavity.StaysTripped (k m : Cavity) : Prop where
  state : m.cc.state = k.cc.state
  trip : m.cond.trip = k.cond.trip
  demand : m.cc.demand = k.cc.demand
  speff : m.cc.speff = k.cc.speff
  event : maskHas k.cc.events CavEvent.tripped.bit = true → maskHas m.cc.events CavEvent.tripped.bit = true
  channel : ∀ p, m.channel p = k.channel p
  catalyst : m.fan.catalyst = k.fan.catalyst
  fan : k.fan.command = .high → m.fan.command = .high

section Tripped
variable {e : Env} {k m n : Cavity}

theorem Cavity.StaysTripped.refl (k : Cavity) : k.StaysTripped k :=
  ⟨rfl, rfl, rfl, rfl, fun h => h, fun _ => rfl, rfl, fun h => h⟩

theorem Cavity.StaysTripped.trans (h : k.StaysTripped m) (h' : m.StaysTripped n) : k.StaysTripped n :=
  ⟨h'.state.trans h.state, h'.trip.trans h.trip, h'.demand.trans h.demand, h'.speff.trans h.speff,
    fun hk => h'.event (h.event hk), fun p => (h'.channel p).trans (h.channel p), h'.catalyst.trans h.catalyst,
    fun hk => h'.fan (h.fan hk)⟩

/-- The lock, the probes, the conditions present and the flags of recovery and mark say nothing of a trip. -/
theorem Cavity.StaysTripped.of_eq (hcc : m.cc = { k.cc with recovering := m.cc.recovering })
    (htrip : m.cond.trip = k.cond.trip) (hfan : m.fan = k.fan) (hch : ∀ p, m.channel p = k.channel p) :
    k.StaysTripped m := by
  refine ⟨?_, htrip, ?_, ?_, ?_, hch, by rw [hfan], by rw [hfan]; exact fun h => h⟩ <;> rw [hcc]
  exact fun h => h

/-- In FAULTED the fan stands at HIGH whatever it is told (R125). -/
theorem Cavity.staysTripped_fan (hs : k.cc.state = .faulted) {f : Fan} (hcat : f.catalyst = k.fan.catalyst) :
    k.StaysTripped ({ k with fan := f } : Cavity).decideFan := by
  obtain ⟨-, -, -, -, -, -, hkept⟩ := Fan.take_keeps f (f.wanted k.cc.state)
  refine ⟨rfl, Cavity.decideFan_trip _, rfl, rfl, fun h => h, fun p => by cases p <;> rfl, hkept.trans hcat,
    fun _ => ?_⟩
  rw [Cavity.decideFan_command]
  simp [hs, fanPolicy]

/-- What is left of a cavity sample in FAULTED: a motor is stopped, a mark confirmed or counted, a recovery given
up, and nothing else. -/
theorem Cavity.staysTripped_sampleRest (hs : k.cc.state = .faulted) (cls : SampleClass) (third : Bool) :
    k.StaysTripped (k.sampleRest e cls third) := by
  have stopped : k.StaysTripped (k.releaseLaw e cls) := by
    unfold Cavity.releaseLaw Lock.stopOpenDrive
    split_ifs
    · rw [show k.lockChanged e (k.lock.rest .unknown, [.unknown]) = { k with lock := k.lock.rest .unknown } by
        simp [Cavity.lockChanged, Cavity.handOver, Cavity.answer, hs]]
      exact .of_eq rfl rfl rfl fun p => by cases p <;> rfl
    · exact .of_eq rfl rfl rfl fun p => by cases p <;> rfl
    · exact .refl k
  have marked (m : Cavity) (hs : m.cc.state = .faulted) : m.StaysTripped (m.markStage e cls) := by
    unfold Cavity.markStage
    split
    · exact .refl m
    next d _ =>
      split_ifs
      · obtain ⟨i, -, hc, -⟩ | ⟨-, h⟩ := Cavity.confirmMark_cases e d m
        · simp [hs] at hc
        · rw [h]
          refine ⟨rfl, rfl, rfl, rfl, fun hm => ?_, fun p => by cases p <;> rfl, rfl, fun h => h⟩
          have hlt : (if d.dir = .rise then 2 else 3) < 6 := by split <;> decide
          simp [Cavity.marked, hlt, hm]
      · exact .of_eq rfl rfl rfl fun p => by cases p <;> rfl
      · exact .of_eq rfl rfl rfl fun p => by cases p <;> rfl
  have recovered (m : Cavity) (hs : m.cc.state = .faulted) : m.StaysTripped (m.recoverStage e third) := by
    unfold Cavity.recoverStage Cavity.recover
    dsimp only
    rw [if_pos hs]
    split
    · exact .of_eq rfl rfl rfl fun p => by cases p <;> rfl
    · exact .refl m
  have good (m : Cavity) (hs : m.cc.state = .faulted) :
      m.StaysTripped (if cls.good then m.goodSample e else m) := by
    unfold Cavity.goodSample
    simp only [hs, ite_self]
    exact .refl m
  have h1 := stopped
  have h2 := h1.trans (marked _ (h1.state.trans hs))
  have h3 := h2.trans (recovered _ (h2.state.trans hs))
  exact h3.trans (good _ (h3.state.trans hs))

/-- A tripped cavity that stays so is tripped by the same causes from the same state. -/
theorem Cavity.StaysTripped.trippedBy (h : k.StaysTripped m) {slot : Option Nat} {causes : List Condition}
    (hk : k.trippedBy slot causes) : m.trippedBy slot causes := by
  obtain ⟨hs, hfirst, hlater, hevent, hdemand, hspeff, hch, hcat, hcmd⟩ := hk
  exact ⟨h.state.trans hs, by rwa [h.trip], by rwa [h.trip], h.event hevent, h.demand.trans hdemand,
    h.speff.trans hspeff, fun p hp => by rw [h.channel]; exact hch p hp, h.catalyst.trans hcat, h.fan hcmd⟩

/-- A condition raised is present, seen and judged. -/
theorem Cavity.onset_raised {x : Condition} (hx : x.steady) (hs : m.cc.state = k.cc.state) :
    k.raised e x (m.onset e x) := by
  have hj : Cavity.Handles False (m.withPresent x) (m.onset e x) := .judge x
  refine ⟨?_, hj.seen x (by simp [Cavity.withPresent]), fun ht => ?_⟩
  · rw [hj.present x hx]
    simp [Cavity.withPresent]
  · have hst : (m.withPresent x).cc.state = k.cc.state := hs
    have htrip : m.onset e x = (m.withPresent x).trip e x 0 := by
      obtain ⟨hf, -⟩ | ⟨-, -, h⟩ | ⟨-, hno, -⟩ := Cavity.judge_cases e (m.withPresent x) x
      · rw [← hst, hf, tripsIn_faulted] at ht
        cases ht
      · exact h
      · rw [hst, ht] at hno
        cases hno
    obtain ⟨y, hy, -, -, hbefore, -⟩ := Cavity.trip_record e (m.withPresent x) x 0
    rw [htrip]
    refine ⟨Cavity.trip_trippedBy_one .., fun z hz => ?_⟩
    obtain rfl : y = z := Option.some.inj (hy.symm.trans hz)
    exact hbefore.trans hst

/-- A condition raised stays raised over what leaves it present and seen, and the cavity tripped. -/
theorem Cavity.raised_after {x : Condition} (h : k.raised e x m)
    (hpresent : m.cond.present.has x = true → n.cond.present.has x = true)
    (hseen : m.cond.seen.has x = true → n.cond.seen.has x = true)
    (htrip : m.cc.state = .faulted → m.StaysTripped n) : k.raised e x n := by
  obtain ⟨hp, hs, ht⟩ := h
  refine ⟨hpresent hp, hseen hs, fun hx => ?_⟩
  obtain ⟨htripped, hbefore⟩ := ht hx
  have hstays := htrip htripped.1
  exact ⟨hstays.trippedBy htripped, by rwa [hstays.trip]⟩

/-- What is left of a cavity sample leaves a raised condition raised. -/
theorem Cavity.raised_sampleRest {x : Condition} (hx : x.steady) (h : k.raised e x m) (cls : SampleClass)
    (third : Bool) : k.raised e x (m.sampleRest e cls third) := by
  have hh : Cavity.Handles False m (m.sampleRest e cls third) := .sampleRest nofun cls third
  exact Cavity.raised_after h (fun hp => by rwa [hh.present x hx]) (hh.seen x)
    fun hs => Cavity.staysTripped_sampleRest hs cls third

/-- A report that begins no fault leaves the state. -/
theorem Cavity.reportCavityFault_state {cls : SampleClass} (h : cls.onset = false) :
    (k.reportCavityFault e cls).cc.state = k.cc.state := by
  unfold Cavity.reportCavityFault
  rw [if_neg (by simp [h])]
  split <;> rfl

theorem Cavity.reportDoorFault_state {cls : SampleClass} (h : cls.onset = false) :
    (k.reportDoorFault e cls).cc.state = k.cc.state := by
  unfold Cavity.reportDoorFault
  rw [if_neg (by simp [h])]
  split <;> rfl

/-- A cavity sample raises SENSOR with a reported fault, and OVERTEMP with a good sample above its level. -/
theorem Cavity.cavitySample_raised {v : Int} {x : Condition} (h : k.raisedByCavity e v = some x) :
    k.raised e x (k.cavitySample e v) := by
  rw [Cavity.cavitySample_eq_rest]
  unfold Cavity.raisedByCavity at h
  split at h
  next honset =>
    obtain rfl : Condition.sensor = x := Option.some.inj h
    refine Cavity.raised_sampleRest (by decide) ?_ _ _
    have hgood : k.prb.cavity.goodSample (-400) 6000 v = false := by
      by_contra hg
      rw [(Probe.after_of_good (by simpa using hg)).2.2] at honset
      cases honset
    have hhead : k.sampleHead e v = ({ (k.probed v).onset e .sensor with
        fan := { ((k.probed v).onset e .sensor).fan with probeView := true } } : Cavity).decideFan := by
      simp [Cavity.sampleHead, Probe.sampleClass, hgood, Cavity.reportCavityFault, honset]
    rw [hhead]
    have hd : Cavity.Handles False { (k.probed v).onset e .sensor with
        fan := { ((k.probed v).onset e .sensor).fan with probeView := true } } _ := .decideFan
    exact Cavity.raised_after (Cavity.onset_raised (m := k.probed v) (by decide) rfl)
      (fun hp => by rwa [hd.present .sensor (by decide)]) (hd.seen .sensor)
      fun hs => Cavity.staysTripped_fan hs rfl
  next =>
    split at h
    next hover =>
      obtain rfl : Condition.overtemp = x := Option.some.inj h
      obtain ⟨hgood, hwas, hnow⟩ := hover
      obtain ⟨hread, -, honset⟩ := Probe.after_of_good hgood
      refine Cavity.raised_sampleRest (by decide) ?_ _ _
      let m : Cavity := (k.probed v).reportCavityFault e (k.prb.cavity.sampleClass v)
      have hprb : m.prb = { (k.probed v).prb with mark := m.prb.mark } := Cavity.reportCavityFault_probes _
      have hhead : k.sampleHead e v =
          ({ m with prb := { m.prb with overtemp := true } } : Cavity).onset e .overtemp := by
        have hm : k.sampleHead e v = m.checkOvertemp e := if_pos hgood
        have hmread : m.prb.cavity.reading = v := by rw [hprb]; exact hread
        have hmwas : m.prb.overtemp = false := by rw [hprb]; exact hwas
        rw [hm]
        simp [Cavity.checkOvertemp, Cavity.levelReport, hmread, hmwas, hnow]
      rw [hhead]
      exact Cavity.onset_raised (by decide) (Cavity.reportCavityFault_state honset)
    next => cases h

/-- DOOR WARM is decided after DOOR HOT, and leaves it raised. -/
theorem Cavity.raised_decideDoorWarm (h : k.raised e .doorHot m) : k.raised e .doorHot (m.decideDoorWarm e) := by
  unfold Cavity.decideDoorWarm
  dsimp only
  split
  · exact h
  rw [Cavity.levelReport_doorWarm]
  generalize m.prb.warmNow e.cfg.limits.doorWarn = now
  let m1 : Cavity := { m with prb := { m.prb with doorWarm := now } }
  let m2 : Cavity := m1.levelNoted .doorWarm m.prb.doorWarm now
  obtain ⟨heq, htrip⟩ : m2 = { m1 with cond := m2.cond } ∧ m2.cond.trip = m.cond.trip :=
    Cavity.levelNoted_eq ..
  have hcc : m2.cc = m1.cc := by rw [heq]
  have hfan : m2.fan = m1.fan := by rw [heq]
  have hkept : m2.cond.present.has .doorHot = m.cond.present.has .doorHot ∧
      (m.cond.seen.has .doorHot = true → m2.cond.seen.has .doorHot = true) := by
    simp only [m2, m1, Cavity.levelNoted]
    split_ifs <;> simp [Cavity.withPresent, Cavity.absent]
  have hraised : k.raised e .doorHot m2 := by
    refine Cavity.raised_after h (fun hp => hkept.1.trans hp) hkept.2 fun _ => ?_
    refine .of_eq (by rw [hcc]) htrip hfan fun p => ?_
    rw [heq]
    cases p <;> rfl
  have hd : Cavity.Handles False { m2 with fan := { m2.fan with warmView := now } } _ := .decideFan
  exact Cavity.raised_after hraised (fun hp => by rwa [hd.present .doorHot (by decide)]) (hd.seen .doorHot)
    fun hs => Cavity.staysTripped_fan hs rfl

/-- A door sample raises DOOR PROBE with a reported fault, and DOOR HOT with a good sample at its level. -/
theorem Cavity.doorSample_raised {v : Int} {x : Condition} (h : k.raisedByDoor e v = some x) :
    k.raised e x (k.doorSample e v) := by
  rw [Cavity.doorSample_eq]
  unfold Cavity.raisedByDoor at h
  split at h
  next honset =>
    obtain rfl : Condition.doorProbe = x := Option.some.inj h
    have hgood : k.prb.door.goodSample (-400) 2500 v = false := by
      by_contra hg
      rw [(Probe.after_of_good (by simpa using hg)).2.2] at honset
      cases honset
    rw [if_neg (by simp [Probe.doorClass, hgood])]
    have hreport : (k.doorProbed v).reportDoorFault e (k.prb.door.doorClass v) =
        (k.doorProbed v).onset e .doorProbe := if_pos honset
    rw [hreport]
    exact Cavity.onset_raised (by decide) rfl
  next =>
    split at h
    next hhot =>
      obtain rfl : Condition.doorHot = x := Option.some.inj h
      obtain ⟨hgood, hwas, hnow⟩ := hhot
      obtain ⟨hread, -, honset⟩ := Probe.after_of_good hgood
      rw [if_pos (show (k.prb.door.doorClass v).good = true from hgood)]
      refine Cavity.raised_decideDoorWarm ?_
      have hprb := Cavity.reportDoorFault_probes (e := e) (k := k.doorProbed v) (k.prb.door.doorClass v)
      have hstate := Cavity.reportDoorFault_state (e := e) (k := k.doorProbed v)
        (cls := k.prb.door.doorClass v) honset
      generalize (k.doorProbed v).reportDoorFault e (k.prb.door.doorClass v) = m at hprb hstate
      have hmread : m.prb.door.reading = v := by rw [hprb]; exact hread
      have hmwas : m.prb.doorHot = false := by rw [hprb]; exact hwas
      have hm : m.decideDoorHot e =
          ({ m with prb := { m.prb with doorHot := true } } : Cavity).onset e .doorHot := by
        simp [Cavity.decideDoorHot, Cavity.levelReport, hmread, hmwas, hnow]
      rw [hm]
      exact Cavity.onset_raised (by decide) hstate
    next => cases h

/-- Settles O44: the condition is noted and judged in its stage, and no later stage of the sample takes it back. -/
theorem sampleOnsetsTripTheCavity : Obligations.SampleOnsetsTripTheCavity := by
  unfold Obligations.SampleOnsetsTripTheCavity
  intro s c v x hf
  refine ⟨fun h => ?_, fun h => ?_⟩
  · obtain ⟨t, ht, -, hc⟩ := s.ifFitted_settled c (fun e k => k.cavitySample e v) hf
    exact ⟨t, ht, by rw [hc]; exact Cavity.cavitySample_raised h⟩
  · obtain ⟨t, ht, -, hc⟩ := s.ifFitted_settled c (fun e k => k.doorSample e v) hf
    exact ⟨t, ht, by rw [hc]; exact Cavity.doorSample_raised h⟩

end Tripped

end Sys2Proof.Machine

namespace Sys2Proof.Machine

/-! ## A millisecond with no command waiting (log entries 4, 8 and 10) -/

section Idle

/-- A timer's millisecond and its running out are those of the statements. -/
theorem Timer.pass_eq (x : Timer) : x.pass = x.oneMs := by
  unfold Timer.pass Timer.oneMs
  split <;> rfl

theorem Timer.due_iff (x : Timer) : x.due = true ↔ x.ranOut := by
  simp [Timer.due, Timer.ranOut]

theorem Fan.tachDue_iff (f : Fan) : f.tachDue = true ↔ f.tach ≠ .stopped ∧ f.tachLeft = 0 := by
  simp [Fan.tachDue]

theorem mem_allCavs (c : CavNo) : c ∈ allCavs := State.cav_cases (by decide) (by decide) (by decide) c

/-- Every command that time can bring, each once: `w` is what the window timer brings. -/
def Instr.timed (w : Instr) : List Instr :=
  [.dropout] ++ [.frameCut] ++ [w] ++ allCavs.map Instr.travelTimeout ++ allCavs.map Instr.tachTimerExpiry ++
    [.levelReview] ++ [.linkOpen]

theorem State.expiries_sublist (s : State) : s.expiries.Sublist (Instr.timed s.windowExpiry) := by
  have one (b : Bool) (i : Instr) : (if b then [i] else []).Sublist [i] := by
    cases b
    · exact List.nil_sublist _
    · exact List.Sublist.refl _
  have each (q : CavNo → Bool) (f : CavNo → Instr) : ((allCavs.filter q).map f).Sublist (allCavs.map f) :=
    List.filter_sublist.map f
  exact ((((((one _ _).append (one _ _)).append (one _ _)).append (each _ _)).append (each _ _)).append
    (one _ _)).append (one _ _)

/-- No command waits twice. -/
theorem State.expiries_nodup (s : State) : s.expiries.Nodup := by
  refine s.expiries_sublist.nodup ?_
  unfold State.windowExpiry
  split <;> decide

/-- The commands that wait after a millisecond are those whose time has come. -/
theorem State.mem_expiries (s : State) (i : Instr) : i ∈ s.expiries ↔ s.timeFor i := by
  have one (b : Bool) (j : Instr) : i ∈ (if b then [j] else []) ↔ i = j ∧ b = true := by
    cases b <;> simp
  have window : (i = s.windowExpiry ∧ s.sched.timer.ranOut) ↔
      (i = .windowStart ∧ s.sched.slot = some 29 ∨ i = .slotBoundary ∧ s.sched.slot ≠ some 29) ∧
        s.sched.timer.ranOut := by
    unfold State.windowExpiry
    split <;> simp [*]
  simp only [State.expiries, List.mem_append, one, List.mem_map, List.mem_filter, mem_allCavs, true_and,
    Timer.due_iff, Fan.tachDue_iff, State.linkReady_iff, window]
  cases i <;> simp [State.timeFor, and_comm]

/-- The waiting commands are not what a command's time is read from. -/
theorem State.timeFor_pending (s : State) (q : List Instr) (i : Instr) :
    ({ s with pending := q } : State).timeFor i ↔ s.timeFor i := by
  have hcav : ∀ c, ({ s with pending := q } : State).cav c = s.cav c := State.cav_cases rfl rfl rfl
  cases i with
  | travelTimeout c => simp only [State.timeFor, hcav]
  | tachTimerExpiry c => simp only [State.timeFor, hcav]
  | linkOpen =>
    simp only [State.timeFor, State.mayOpenLink, hcav]
    rfl
  | _ => exact Iff.rfl

/-- A millisecond of a cavity's timers is the one of the statements. -/
theorem State.passTime_cav (s : State) : ∀ c, s.passTime.cav c = (s.cav c).passTime :=
  State.cav_cases rfl rfl rfl

theorem State.tick_idled (s : State) : s.idled s.tick := by
  have hcav (c : CavNo) : s.tick.cav c = (s.cav c).passTime := by
    rw [← State.passTime_cav]
    exact State.cav_cases (P := fun c => s.tick.cav c = s.passTime.cav c) rfl rfl rfl c
  refine ⟨rfl, rfl, rfl, rfl, ?_, ?_, ?_, ?_, fun c => ?_, s.passTime.expiries_nodup, fun i => ?_⟩
  · simp only [State.tick, State.passTime, Timer.pass_eq]
  · simp only [State.tick, State.passTime, Timer.pass_eq]
  · simp only [State.tick, State.passTime, Timer.pass_eq]
  · simp only [State.tick, State.passTime, Timer.pass_eq]
  · rw [hcav, Cavity.passTime, Timer.pass_eq]
  · exact (s.passTime.mem_expiries i).trans (s.passTime.timeFor_pending s.passTime.expiries i).symm

/-- Settles O2: with the queue empty a step is a tick of the clock. -/
theorem idleStepPassesAMillisecond : Obligations.IdleStepPassesAMillisecond := by
  unfold Obligations.IdleStepPassesAMillisecond
  intro s h
  exact ⟨s.tick, by simp only [step, h], s.tick_idled⟩

end Idle

end Sys2Proof.Machine

namespace Sys2Proof.Machine

/-! ## BUDGET LEND (R94, R95) -/

section Lend
variable {s : State}

/-- A lend taken: the watts held to the ceiling are the lend, and the budget falls to it. -/
theorem State.takeLend_falls (h : s.BudgetLaw) (watts : Nat) :
    s.budgetFalls (min watts s.cfg.part.budgetCeiling) (s.takeLend watts).1 ∧
      (s.takeLend watts).1.sched.lend = min watts s.cfg.part.budgetCeiling :=
  have hfalls := State.lowerBudget_falls (min watts s.cfg.part.budgetCeiling) _ h
    (u := { s with sched := { s.sched with lend := min watts s.cfg.part.budgetCeiling } }) rfl
    (State.cav_cases rfl rfl rfl)
  ⟨hfalls.1, hfalls.2.1⟩

/-- The walk of a lowered budget replaces cavities' records alone. -/
theorem State.budgetWalk_sameButCavs (s : State) : s.SameButCavs s.budgetWalk := by
  have hstep (u : State) (n : Nat) : u.SameButCavs (u.walkStep n) := by
    rw [State.walkStep_eq]
    split
    · exact u.setCav_sameButCavs _ _
    · exact .refl u
  have hall (ns : List Nat) : ∀ u : State, u.SameButCavs (ns.foldl State.walkStep u) := by
    induction ns with
    | nil => exact fun u => .refl u
    | cons n ns ih => exact fun u => (hstep u n).trans (ih _)
  exact hall _ s

/-- What a lend leaves alone. -/
theorem State.takeLend_frame (s : State) (watts : Nat) :
    s.windowKeeps (s.takeLend watts).1 ∧ (s.takeLend watts).1.mains = s.mains ∧
      (s.takeLend watts).1.link = s.link := by
  unfold State.takeLend State.lowerBudget
  dsimp only
  split
  · have hwalk := State.budgetWalk_sameButCavs { s with sched := { s.sched with
      lend := min watts s.cfg.part.budgetCeiling, budget := min watts s.cfg.part.budgetCeiling } }
    exact ⟨hwalk.windowKeeps, hwalk.mains, hwalk.link⟩
  · exact ⟨⟨rfl, rfl, rfl, rfl, rfl, rfl⟩, rfl, rfl⟩

theorem State.takeLend_result (s : State) (watts : Nat) : (s.takeLend watts).2 =
    if s.cfg.part.budgetCeiling < watts then .clamped else .done := by
  simp only [State.takeLend, ← not_lt, ite_not]

theorem serveBudgetLend_eq (r : Request) (s : State) : serveBudgetLend r s =
    ((s.takeLend (at16 r.payload 0).toNat).1, [(s.takeLend (at16 r.payload 0).toNat).2.code]) := rfl

/-- Neither the reply nor ATTN is part of a budget's fall. -/
theorem State.budgetFalls.withLink {t : State} {v : Nat} (h : s.budgetFalls v t) (l : Link) :
    s.budgetFalls v { t with link := l } := h

/-- Settles O28: the lend is held to the ceiling, and the budget falls to it by the walk. -/
theorem budgetLendShedsFromTheLastRanked : Obligations.BudgetLendShedsFromTheLastRanked := by
  unfold Obligations.BudgetLendShedsFromTheLastRanked
  intro s r htaken hbudget
  obtain ⟨hfalls, hlend⟩ := State.takeLend_falls hbudget (at16 r.payload 0).toNat
  obtain ⟨⟨hcfg, hbounds, hsegs, hreview, hstore, hpending⟩, hmains, hlink⟩ :=
    s.takeLend_frame (at16 r.payload 0).toNat
  refine ⟨(s.request .budgetLend serveBudgetLend r).decideAttn, rfl, ?_⟩
  rw [State.request_taken htaken, serveBudgetLend_eq, s.takeLend_result]
  generalize (s.takeLend (at16 r.payload 0).toNat).1 = u at *
  exact ⟨hcfg, hbounds, hsegs, hmains, hreview, hstore, hpending,
    State.decideAttn_linkIs (by rw [State.sendReply_link, hlink]), hlend, hfalls.withLink _⟩

end Lend

end Sys2Proof.Machine

namespace Sys2Proof.Machine

/-! ## Window starts, slot boundaries and dropouts (R75 to R77, R87, R121) -/

section Windows
variable {s : State}

/-- Settles O48: with mains PRESENT the window is built, and in DROPOUT nothing moves. -/
theorem windowStartBuildsTheSchedule : Obligations.WindowStartBuildsTheSchedule := by
  unfold Obligations.WindowStartBuildsTheSchedule
  refine fun s => ⟨fun hmains hstarve => ?_, fun hmains => ?_⟩
  · obtain ⟨hkeeps, hlink, -, -⟩ := s.windowStart_frame
    have hexec := exec_windowStart hmains
    have hbuilt := State.windowStart_built hstarve
    generalize s.windowStart = u at *
    exact ⟨u.decideAttn, hexec, hkeeps, State.decideAttn_linkIs hlink, hbuilt.decideAttn⟩
  · refine ⟨s.decideAttn, ?_, s.nothingMoves_self⟩
    show (if s.mains.present then s.windowStart else s).settled = _
    rw [hmains]
    rfl

/-- A slot boundary where a next slot is due. -/
theorem State.beginSlot_begun (s : State) (j : Nat) : s.slotBegun j (s.beginSlot j).decideAttn := by
  obtain ⟨hkeeps, hlink, hmains, hsched⟩ := s.beginSlot_rest j
  refine ⟨hkeeps, hmains, State.decideAttn_linkIs hlink, hsched, fun c => ?_, fun n => ?_⟩
  · rw [State.decideAttn_cav, State.beginSlot_cav]
    exact ⟨rfl, rfl, rfl, rfl, rfl, rfl⟩
  · rw [State.chan, State.decideAttn_cav, State.beginSlot_cav, Cavity.channel_mapChannels]
    rfl

/-- Settles O52: the next slot begins where one is due, and elsewhere nothing moves. -/
theorem slotBoundariesSetTheRelays : Obligations.SlotBoundariesSetTheRelays := by
  unfold Obligations.SlotBoundariesSetTheRelays
  refine fun s => ⟨s.nextSlot.decideAttn, rfl, fun k hslot hmains hlt => ?_, fun hno => ?_⟩
  · have hnext : s.nextSlot = s.beginSlot (k + 1) := by simp [State.nextSlot, hslot, hmains, Config.slots, hlt]
    rw [hnext]
    exact s.beginSlot_begun (k + 1)
  · have hnext : s.nextSlot = s := by
      obtain hslot | hmains | hslot := hno
      · simp [State.nextSlot, hslot]
      · cases hslot : s.sched.slot <;> simp [State.nextSlot, hslot, hmains]
      · simp [State.nextSlot, hslot, Config.slots]
    rw [hnext]
    exact s.nothingMoves_self

/-- A lock drive told of a dropout, in the words of the statements. -/
theorem Lock.mainsGone_eq (l : Lock) : l.mainsGone =
    if l.state = .closing ∨ l.state = .opening then
      { l with mains := false, motor := .stop, timer :=
          ⟨if l.timer.status = .running then .paused else l.timer.status, l.timer.left⟩ }
    else { l with mains := false } := by
  have hpause : l.timer.pause =
      ⟨if l.timer.status = .running then .paused else l.timer.status, l.timer.left⟩ := by
    unfold Timer.pause
    split <;> rfl
  rw [← hpause, Lock.mainsGone]
  cases l.state <;> rfl

/-- The channels of an abandoned window: shed from the current slot on, every relay released. -/
theorem Cavity.abandonWindow_channel (e : Env) (k : Cavity) (p : Position) :
    (k.abandonWindow e).channel p = { (k.channel p).shedFrom e.slot with relay := false } := by
  cases p <;> rfl

/-- A cavity at a dropout. -/
theorem State.dropout_cav (h : s.mains.present = true) (c : CavNo) : s.crossingExpired.cav c =
    { (s.cav c).abandonWindow (s.env c) with lock := (s.cav c).lock.mainsGone } := by
  unfold State.crossingExpired
  dsimp only
  rw [if_pos h, State.onCavs_cav, State.cav_withSched, State.onCavs_cav]
  revert c
  exact State.cav_cases rfl rfl rfl

/-- What a dropout changes beside the cavities. -/
theorem State.dropout_frame (h : s.mains.present = true) : s.windowKeeps s.crossingExpired ∧
    s.crossingExpired.mains = { s.mains with present := false, crossing := ⟨.stopped, 0⟩, run := none } ∧
    s.crossingExpired.sched = { s.sched with slot := none, timer := ⟨.stopped, 0⟩ } ∧
    s.crossingExpired.link = { s.link with partEvents := maskAdd s.link.partEvents 1 } := by
  unfold State.crossingExpired
  dsimp only
  rw [if_pos h]
  have habandon := State.onCavs_sameButCavs (State.setPartEvent
    { s with mains := { s.mains with crossing := .halted, run := none, present := false } } .mainsDropout)
    Cavity.abandonWindow
  generalize State.onCavs _ Cavity.abandonWindow = u at habandon ⊢
  have hgone := State.onCavs_sameButCavs { u with sched := { u.sched with slot := none, timer := .halted } }
    fun _ k => { k with lock := k.lock.mainsGone }
  refine ⟨habandon.windowKeeps.trans hgone.windowKeeps, hgone.mains.trans habandon.mains, ?_,
    hgone.link.trans habandon.link⟩
  rw [hgone.sched, habandon.sched]
  rfl

/-- Settles O54: in PRESENT the window is abandoned and the drives told, in DROPOUT the run alone ends. -/
theorem dropoutAbandonsTheWindow : Obligations.DropoutAbandonsTheWindow := by
  unfold Obligations.DropoutAbandonsTheWindow
  refine fun s => ⟨s.crossingExpired.decideAttn, rfl, ?_⟩
  split
  next h =>
    have hcav := State.dropout_cav h
    obtain ⟨hkeeps, hmains, hsched, hlink⟩ := State.dropout_frame h
    refine ⟨hkeeps, hmains, hsched, State.decideAttn_linkIs hlink, fun n => ?_, fun c => ?_⟩
    · rw [State.chan, State.decideAttn_cav, hcav]
      exact Cavity.abandonWindow_channel ..
    · rw [State.decideAttn_cav, hcav]
      exact ⟨rfl, rfl, rfl, rfl, rfl, Lock.mainsGone_eq _⟩
  next h =>
    have hexp : s.crossingExpired = { s with mains := { s.mains with crossing := ⟨.stopped, 0⟩, run := none } } :=
      if_neg h
    rw [hexp]
    exact ⟨⟨rfl, rfl, rfl, rfl, rfl, rfl⟩, rfl, rfl, State.decideAttn_linkIs rfl, State.cav_cases rfl rfl rfl⟩

end Windows

end Sys2Proof.Machine

namespace Sys2Proof.Machine

/-! ## WINDOW STATUS and PART STATUS (R100, R155) -/

section Status
variable {s : State} {r : Request}

theorem State.peakLoad_eq_foldr (s : State) :
    s.peakLoad = ((List.range 30).map s.slotLoad).foldr max ⊥ := List.foldl_eq_foldr ..

/-- No slot's load exceeds the peak. -/
theorem State.slotLoad_le_peakLoad (s : State) {j : Nat} (hj : j < 30) : s.slotLoad j ≤ s.peakLoad := by
  rw [State.peakLoad_eq_foldr]
  exact List.le_max_of_le (List.mem_map_of_mem (List.mem_range.2 hj)) le_rfl

/-- The peak is the load of some slot. -/
theorem State.exists_slotLoad_eq_peakLoad (s : State) : ∃ j < 30, s.slotLoad j = s.peakLoad := by
  have hmem : s.peakLoad ∈ (List.range 30).map s.slotLoad := by
    rw [State.peakLoad_eq_foldr]
    exact List.maximum_mem (List.foldr_max_of_ne_nil (by simp)).symm
  obtain ⟨j, hj, h⟩ := List.mem_map.1 hmem
  exact ⟨j, List.mem_range.1 hj, h⟩

theorem slotCode_eq (slot : Option Nat) : slotCode slot = BitVec.ofNat 8 (slot.getD 255) := by
  cases slot <;> rfl

theorem byteOfBool_eq (b : Bool) : byteOfBool b = BitVec.ofNat 8 (if b then 1 else 0) := by
  cases b <;> rfl

/-- The three bits of the mains byte. -/
theorem Mains.flags_bits (m : Mains) : m.flags.getLsbD 0 = m.low ∧ m.flags.getLsbD 1 = m.high ∧
    m.flags.getLsbD 2 = !m.present ∧ m.flags.toNat < 8 := by
  unfold Mains.flags
  cases m.low <;> cases m.high <;> cases m.present <;> decide

/-- The bytes of the WINDOW STATUS payload. -/
theorem serveWindowStatus_carries (r : Request) (s : State) :
    let p := (serveWindowStatus r s).2
    p.length = 44 ∧ carries8 p 0 0 ∧ carries16 p 1 s.sched.budget ∧ carries16 p 3 s.sched.vw ∧
      carries16 p 5 s.peakLoad ∧ carries8 p 7 (s.sched.slot.getD 255) ∧
      ∀ n : Fin 12, carries8 p (8 + 3 * n) (s.chan n).demand ∧ carries8 p (9 + 3 * n) (s.chan n).granted ∧
        carries8 p (10 + 3 * n) (if (s.chan n).shed then 1 else 0) := by
  refine ⟨rfl, rfl, word16_bytes _, word16_bytes _, word16_bytes _, slotCode_eq _, fun n => ?_⟩
  refine ⟨by fin_cases n <;> rfl, by fin_cases n <;> rfl, ?_⟩
  fin_cases n <;> exact byteOfBool_eq _

theorem State.windowStatus_taken (h : s.takes .windowStatus r) :
    s.windowStatusTaken r (s.request .windowStatus serveWindowStatus r).decideAttn := by
  obtain ⟨hkeeps, hcavs, hlink⟩ := State.request_onlyLink h (s := s) (serve := serveWindowStatus) rfl
  obtain ⟨hlen, hdone, hbudget, hvw, hpeak, hslot, hchannels⟩ := serveWindowStatus_carries r s
  obtain ⟨j, hj, hmax⟩ := s.exists_slotLoad_eq_peakLoad
  have hsent := State.payloadSent_of_linkIs hlink
  unfold State.windowStatusTaken State.repliedWith
  dsimp only
  rw [hsent]
  exact ⟨hkeeps, hcavs, ⟨hlink, hlen⟩, hdone, hbudget, hvw, hpeak, fun j => s.slotLoad_le_peakLoad j.isLt,
    ⟨⟨j, hj⟩, hmax⟩, hslot, hchannels⟩

/-- The bytes of the PART STATUS payload. -/
theorem servePartStatus_carries (r : Request) (s : State) :
    let p := (servePartStatus r s).2
    p.length = 11 ∧ carries8 p 0 0 ∧ carries8 p 1 s.link.partEvents.toNat ∧
      ((at8 p 2).getLsbD 0 = s.mains.low ∧ (at8 p 2).getLsbD 1 = s.mains.high ∧
        (at8 p 2).getLsbD 2 = !s.mains.present ∧ (at8 p 2).toNat < 8) ∧
      carries8 p 3 s.cfg.part.fittedCount ∧ at8 p 4 = s.store.status.code ∧
      carries16 p 5 (s.store.errorEntry.getD 0xFFFF) ∧ at8 p 7 = s.store.burn.code ∧
      carries16 p 8 s.store.free ∧ carries8 p 10 s.store.staging.length := by
  have hreply : (servePartStatus r s).2 = [Result.done.code, byteOf s.link.partEvents.toNat, s.mains.flags,
      byteOf s.cfg.part.fittedCount, s.store.status.code] ++ bytesOfNat (s.store.errorEntry.getD 0xFFFF) ++
      [s.store.burn.code] ++ bytesOfNat s.store.free ++ [byteOf s.store.staging.length] := by
    unfold servePartStatus
    cases s.store.errorEntry <;> dsimp only <;> split <;> rfl
  rw [hreply]
  exact ⟨rfl, rfl, rfl, s.mains.flags_bits, rfl, rfl, word16_bytes _, rfl, word16_bytes _, rfl⟩

/-- The part events that a PART STATUS look leaves. -/
theorem servePartStatus_state (r : Request) (s : State) : (servePartStatus r s).1 =
    { s with link := { s.link with
        partEvents := if s.cfg.part.clearMode = 0 then 0 else s.link.partEvents } } := by
  unfold servePartStatus
  dsimp only
  split <;> rfl

theorem State.partStatus_taken (h : s.takes .partStatus r) :
    s.partStatusTaken r (s.request .partStatus servePartStatus r).decideAttn := by
  have hcarries := servePartStatus_carries r s
  rw [State.request_taken h, servePartStatus_state]
  generalize (servePartStatus r s).2 = p at *
  obtain ⟨hlen, hfields⟩ := hcarries
  have hlink := State.decideAttn_linkIs (s := State.sendReply ReqKind.partStatus.cls ReqKind.partStatus.code r.sel
    r.tag p { s with link := { s.link with
      partEvents := if s.cfg.part.clearMode = 0 then 0 else s.link.partEvents } })
    (l := { s.link.answered .partStatus r p with
      partEvents := if s.cfg.part.clearMode = 0 then 0 else s.link.partEvents }) rfl
  have hsent := State.payloadSent_of_linkIs (q := .partStatus) (l := { s.link with
    partEvents := if s.cfg.part.clearMode = 0 then 0 else s.link.partEvents }) hlink
  unfold State.partStatusTaken
  dsimp only
  rw [hsent]
  exact ⟨⟨rfl, rfl, rfl, rfl, rfl, rfl, rfl, rfl⟩, State.cav_cases rfl rfl rfl, hlen, hlink, hfields⟩

/-- Settles O31: the two looks answer with the bytes of their layouts and leave the part as it is. -/
theorem windowAndPartStatusReportThePart : Obligations.WindowAndPartStatusReportThePart := by
  unfold Obligations.WindowAndPartStatusReportThePart
  exact fun s r => ⟨fun h => ⟨_, rfl, State.windowStatus_taken h⟩, fun h => ⟨_, rfl, State.partStatus_taken h⟩⟩

end Status

end Sys2Proof.Machine

namespace Sys2Proof.Machine

/-! ## What the mains monitor told a lock drive (R121, R122)

No request, switch, door or timeout changes it. -/

section LockMains
variable {v : LockEnv} {l : Lock} {st : LockState} {g : Goal} {n : Nat}

@[simp] theorem Lock.rest_mains : (l.rest st).mains = l.mains := rfl
@[simp] theorem Lock.drive_mains : (l.drive v st g n).mains = l.mains := rfl
@[simp] theorem Lock.jam_mains : l.jam.1.mains = l.mains := rfl
@[simp] theorem Lock.arrive_mains : (l.arrive g).1.mains = l.mains := by cases g <;> rfl
@[simp] theorem Lock.record_mains (sw : EndSwitch) (active : Bool) : (l.record sw active).mains = l.mains := by
  cases sw <;> rfl
@[simp] theorem Lock.fromSwitches_mains : l.fromSwitches.mains = l.mains := rfl

@[simp] theorem Lock.finalLeg_mains : (l.finalLeg v st g n).1.mains = l.mains := by
  unfold Lock.finalLeg
  split <;> simp

@[simp] theorem Lock.turnLock_mains : (l.turnLock v).1.mains = l.mains := by
  unfold Lock.turnLock
  split <;> simp

@[simp] theorem Lock.turnRelease_mains : (l.turnRelease v).1.mains = l.mains := by
  unfold Lock.turnRelease
  split <;> simp

@[simp] theorem Lock.retryLock_mains : (l.retryLock v).1.mains = l.mains := by
  unfold Lock.retryLock
  split <;> simp

@[simp] theorem Lock.retryRelease_mains : (l.retryRelease v).1.mains = l.mains := by
  unfold Lock.retryRelease
  split <;> simp

@[simp] theorem Lock.endLeg_mains : (l.endLeg v).1.mains = l.mains := by
  unfold Lock.endLeg
  split <;> simp

@[simp] theorem Lock.takeLock_mains : (l.takeLock v).1.mains = l.mains := by
  unfold Lock.takeLock
  split <;> (try split_ifs) <;> simp

@[simp] theorem Lock.takeRelease_mains : (l.takeRelease v).1.mains = l.mains := by
  unfold Lock.takeRelease
  split <;> (try split_ifs) <;> simp

@[simp] theorem Lock.takeStop_mains : l.takeStop.1.mains = l.mains := by
  unfold Lock.takeStop
  split <;> simp

@[simp] theorem Lock.stopOpenDrive_mains : l.stopOpenDrive.1.mains = l.mains := by
  unfold Lock.stopOpenDrive
  split <;> simp

@[simp] theorem Lock.afterSwitch_mains (sw : EndSwitch) (active : Bool) :
    (l.afterSwitch v sw active).1.mains = l.mains := by
  unfold Lock.afterSwitch
  split
  · split
    · split <;> simp
    · split <;> simp
  · split <;> simp

@[simp] theorem Lock.switchChange_mains (sw : EndSwitch) (active : Bool) :
    (l.switchChange v sw active).1.mains = l.mains := by
  unfold Lock.switchChange
  split <;> simp

@[simp] theorem Lock.doorChange_mains (closed : Bool) : (l.doorChange v closed).1.mains = l.mains := by
  unfold Lock.doorChange
  split
  · rfl
  dsimp only
  split
  · rfl
  split
  · unfold Lock.doorTurn
    dsimp only
    split <;> simp
  · rfl
  · rfl

@[simp] theorem Lock.timeout_mains : (l.timeout v).1.mains = l.mains := by
  unfold Lock.timeout
  split_ifs <;> simp

@[simp] theorem Lock.mainsGone_mains : l.mainsGone.mains = false := by
  unfold Lock.mainsGone
  split <;> rfl

@[simp] theorem Lock.mainsBack_mains : (l.mainsBack v).1.mains = true := by
  unfold Lock.mainsBack
  dsimp only
  split
  · rfl
  · split <;> rfl
  · rfl

end LockMains

end Sys2Proof.Machine

namespace Sys2Proof.Machine

/-! ## What the laws of demand, fans and setpoints ask of one cavity -/

/-- What the fan law asks of a drive's tach timer and stall, whatever the policy. -/
def Fan.Timed (f : Fan) : Prop := (f.tach = .stopped ↔ f.command = .off) ∧ (f.stall = true → f.tach = .watching)

/-- What the fan law asks of one cavity. -/
def Cavity.FanLawful (k : Cavity) : Prop := k.fan.command = k.fan.wanted k.cc.state ∧ k.fan.Timed

/-- What the setpoint law asks of one cavity under the limits in force. -/
def Cavity.SetpointLawful (x : LimitPage) (k : Cavity) : Prop :=
  k.cc.speff ≤ x.cleanCeiling * 10 ∧
    (k.cc.state = .cooking → k.cc.cookSetpoint ≤ x.cookCeiling ∧ k.cc.speff = k.cc.cookSetpoint * 10)

theorem State.fanLaw_iff (s : State) : s.FanLaw ↔ ∀ c, (s.cav c).FanLawful := by
  simp only [Cavity.FanLawful, Fan.wanted_eq]
  exact Iff.rfl

theorem State.setpointLaw_iff (s : State) : s.SetpointLaw ↔ ∀ c, (s.cav c).SetpointLawful s.cfg.limits := Iff.rfl

/-- A channel left alone, or shed. -/
def Channel.Yields (slot : Option Nat) (ch ch' : Channel) : Prop := ch' = ch ∨ ch' = ch.shedFrom slot

/-- A change of a cavity that keeps its demand within the window, its fan drive at the policy and, where the cook
ceiling is within the clean ceiling, its setpoint within the ceilings. -/
structure Cavity.Upholds (x : LimitPage) (k m : Cavity) : Prop where
  demand : k.cc.demand ≤ 30 → m.cc.demand ≤ 30
  fan : k.FanLawful → m.FanLawful
  setpoint : x.cookCeiling ≤ x.cleanCeiling → k.SetpointLawful x → m.SetpointLawful x

/-- Such a change that tells the lock drive nothing of the mains, and does no more to a channel than shed it. -/
structure Cavity.Abides (e : Env) (k m : Cavity) : Prop extends Cavity.Upholds e.cfg.limits k m where
  mains : m.lock.mains = k.lock.mains
  channels : ∀ p, (k.channel p).Yields e.slot (m.channel p)

/-- What these laws read of a cavity besides its channels, the rest at start-up values. -/
def Cavity.ruled (k : Cavity) : Cavity :=
  { cc := { state := k.cc.state, speff := k.cc.speff, cookSetpoint := k.cc.cookSetpoint, demand := k.cc.demand }
    fan := { k.fan with tachLeft := 0, pulseSeen := false, catalyst := false } }

/-- What an abiding change reads of a cavity, the rest at start-up values. -/
def Cavity.conduct (k : Cavity) : Cavity :=
  { k.ruled with lock := { mains := k.lock.mains }, cat := k.cat, top := k.top, base := k.base, ring := k.ring }

section Abides
variable {x : LimitPage} {e : Env} {k m n : Cavity} {slot : Option Nat} {ch ch' ch'' : Channel}

/-! ### Channels -/

theorem Channel.shedFrom_shedFrom : (ch.shedFrom slot).shedFrom slot = ch.shedFrom slot := by
  unfold Channel.shedFrom
  cases slot with
  | none => rfl
  | some i =>
    dsimp only
    split
    · dsimp only
      rw [if_neg]
      simp only [List.any_filter, List.any_eq_true, Bool.and_eq_true, decide_eq_true_eq]
      omega
    next => rfl

theorem Channel.Yields.refl (ch : Channel) : ch.Yields slot ch := .inl rfl

theorem Channel.Yields.trans (h : ch.Yields slot ch') (h' : ch'.Yields slot ch'') : ch.Yields slot ch'' := by
  obtain rfl | rfl := h
  · exact h'
  · obtain rfl | rfl := h'
    · exact .inr rfl
    · exact .inr Channel.shedFrom_shedFrom

/-! ### Changes one after another -/

theorem Cavity.Upholds.refl (k : Cavity) : Cavity.Upholds x k k := ⟨fun h => h, fun h => h, fun _ h => h⟩

theorem Cavity.Upholds.trans (h : Cavity.Upholds x k m) (h' : Cavity.Upholds x m n) : Cavity.Upholds x k n :=
  ⟨fun hk => h'.demand (h.demand hk), fun hk => h'.fan (h.fan hk),
    fun hx hk => h'.setpoint hx (h.setpoint hx hk)⟩

/-- Nothing that the laws read. -/
theorem Cavity.Upholds.same (h : m.ruled = k.ruled) : Cavity.Upholds x k m := by
  have read {α : Type} (f : Cavity → α) : f m.ruled = f k.ruled := congrArg f h
  have hstate : m.cc.state = k.cc.state := read fun y => y.cc.state
  have hspeff : m.cc.speff = k.cc.speff := read fun y => y.cc.speff
  have hcook : m.cc.cookSetpoint = k.cc.cookSetpoint := read fun y => y.cc.cookSetpoint
  have hdemand : m.cc.demand = k.cc.demand := read fun y => y.cc.demand
  have hcmd : m.fan.command = k.fan.command := read fun y => y.fan.command
  have htach : m.fan.tach = k.fan.tach := read fun y => y.fan.tach
  have hstall : m.fan.stall = k.fan.stall := read fun y => y.fan.stall
  have hwanted (st : CavState) : m.fan.wanted st = k.fan.wanted st := read fun y => y.fan.wanted st
  refine ⟨fun hk => hdemand ▸ hk, fun hk => ?_, fun _ hk => ?_⟩
  · unfold Cavity.FanLawful Fan.Timed
    rw [hstate, hcmd, htach, hstall, hwanted]
    exact hk
  · unfold Cavity.SetpointLawful
    rw [hstate, hspeff, hcook]
    exact hk

theorem Cavity.Abides.refl (k : Cavity) : k.Abides e k := ⟨.refl k, rfl, fun _ => .refl _⟩

theorem Cavity.Abides.trans (h : k.Abides e m) (h' : m.Abides e n) : k.Abides e n :=
  ⟨h.toUpholds.trans h'.toUpholds, h'.mains.trans h.mains, fun p => (h.channels p).trans (h'.channels p)⟩

/-- Nothing that an abiding change reads. -/
theorem Cavity.Abides.same (h : m.conduct = k.conduct) : k.Abides e m := by
  have read {α : Type} (f : Cavity → α) : f m.conduct = f k.conduct := congrArg f h
  refine ⟨.same (read Cavity.ruled), read fun y => y.lock.mains, fun p => .inl ?_⟩
  cases p
  · exact read Cavity.cat
  · exact read Cavity.top
  · exact read Cavity.base
  · exact read Cavity.ring

/-- An abiding change after one that it does not read. -/
theorem Cavity.Abides.after (m : Cavity) (h : m.conduct = k.conduct) (h' : m.Abides e n) : k.Abides e n :=
  (Cavity.Abides.same h).trans h'

/-! ### The fan decided -/

/-- A drive that takes a command keeps its tach timer to it (R128, R129). -/
theorem Fan.Timed.take {f : Fan} (h : f.Timed) (cmd : FanSpeed) : (f.take cmd).Timed := by
  obtain ⟨htach, hstall⟩ := h
  unfold Fan.take
  split_ifs with hsame hoff hleaves
  · exact ⟨htach, hstall⟩
  · exact ⟨iff_of_true rfl rfl, nofun⟩
  · refine ⟨iff_of_false nofun hoff, fun h => ?_⟩
    have hw := hstall h
    simp [htach.2 hleaves] at hw
  · exact ⟨htach.trans (iff_of_false hleaves hoff), hstall⟩

/-- A drive stands at the policy after its decision. -/
theorem Cavity.decideFan_lawful (h : k.fan.Timed) : k.decideFan.FanLawful := by
  obtain ⟨hcmd, hlow, hprobe, hwarm, hseg, -⟩ := Fan.take_keeps k.fan (k.fan.wanted k.cc.state)
  refine ⟨?_, h.take _⟩
  rw [Fan.wanted_eq, show k.decideFan.fan = k.fan.take (k.fan.wanted k.cc.state) from rfl, hcmd, hlow, hprobe,
    hwarm, hseg, Fan.wanted_eq]
  rfl

/-- The fan decided after a change of its views, its flag or its idle speed. -/
theorem Cavity.Abides.redecided (f : Fan) (hcmd : f.command = k.fan.command) (htach : f.tach = k.fan.tach)
    (hstall : f.stall = k.fan.stall) : k.Abides e ({ k with fan := f } : Cavity).decideFan := by
  have htimed (h : k.FanLawful) : f.Timed := by
    unfold Fan.Timed
    rw [hcmd, htach, hstall]
    exact h.2
  exact ⟨⟨fun h => h, fun h => Cavity.decideFan_lawful (htimed h), fun _ h => h⟩, rfl,
    fun p => .inl (by cases p <;> rfl)⟩

/-! ### Sheds and entries of states -/

theorem Cavity.Abides.sheds (q : Position → Bool) : k.Abides e (k.shedWhere e.slot q) := by
  refine ⟨.same rfl, rfl, fun p => ?_⟩
  have h : (k.shedWhere e.slot q).channel p = if q p then (k.channel p).shedFrom e.slot else k.channel p := by
    cases p <;> rfl
  rw [h]
  split
  · exact .inr rfl
  · exact .inl rfl

theorem Cavity.enterState_fanLawful (st : CavState) (h : k.fan.Timed) : (k.enterState e st).FanLawful := by
  refine Cavity.decideFan_lawful ?_
  dsimp only
  split <;> exact h

/-- An entry of any state sheds channels at most. -/
theorem Cavity.enterState_yields (st : CavState) (p : Position) :
    (k.channel p).Yields e.slot ((k.enterState e st).channel p) := by
  rw [Cavity.enterState_channel]
  split
  · exact .refl _
  · exact .inr rfl

theorem Controller.enter_demand_le (st : CavState) (c : Controller) : (c.enter st).demand ≤ c.demand := by
  simp only [Controller.enter]
  split <;> omega

theorem Controller.enter_speff_le (st : CavState) (c : Controller) : (c.enter st).speff ≤ c.speff := by
  simp only [Controller.enter]
  split <;> omega

/-- An entry of a state other than COOKING. -/
theorem Cavity.Abides.enterState (st : CavState) (h : st ≠ .cooking) : k.Abides e (k.enterState e st) := by
  refine ⟨⟨fun hk => (Controller.enter_demand_le st k.cc).trans hk,
    fun hk => Cavity.enterState_fanLawful st hk.2, fun _ hk => ⟨?_, fun hc => absurd hc h⟩⟩, rfl,
    Cavity.enterState_yields st⟩
  exact (Controller.enter_speff_le st k.cc).trans hk.1

/-- The program cleared where the fan policy does not look at the segment. -/
theorem Cavity.Abides.clearProgram (h : k.cc.state = .cooldown ∨ k.cc.state = .faulted) :
    k.Abides e k.clearProgram := by
  refine ⟨⟨fun hk => hk, fun hk => ⟨hk.1.trans ?_, hk.2⟩, fun _ hk => hk⟩, rfl, fun p => .inl ?_⟩
  · show k.fan.wanted k.cc.state = k.clearProgram.fan.wanted k.cc.state
    obtain h | h := h <;> rw [h] <;> rfl
  · cases p <;> rfl

/-- A setpoint within the cook ceiling, which becomes SPeff (R11, R78). -/
theorem Cavity.Abides.cooks (v : Nat) (set : ElemSet) (hv : v ≤ e.cfg.limits.cookCeiling) :
    k.Abides e { k with cc := { k.cc with cookSetpoint := v, cookSet := set, speff := v * 10 } } := by
  refine ⟨⟨fun hk => hk, fun hk => hk, fun hx _ => ⟨?_, fun _ => ⟨hv, rfl⟩⟩⟩, rfl, fun p => .inl ?_⟩
  · dsimp only
    omega
  · cases p <;> rfl

/-- COOKING entered with a setpoint within the cook ceiling (R11). -/
theorem Cavity.Abides.enterCooking (v : Nat) (set : ElemSet) (hv : v ≤ e.cfg.limits.cookCeiling) :
    k.Abides e { k.enterState e .cooking with
      cc := { (k.enterState e .cooking).cc with cookSetpoint := v, cookSet := set, speff := v * 10 } } := by
  refine ⟨⟨fun hk => (Controller.enter_demand_le .cooking k.cc).trans hk,
    fun hk => Cavity.enterState_fanLawful .cooking hk.2, fun hx _ => ⟨?_, fun _ => ⟨hv, rfl⟩⟩⟩, rfl, fun p => ?_⟩
  · dsimp only
    omega
  · exact Cavity.enterState_yields .cooking p

end Abides

end Sys2Proof.Machine

namespace Sys2Proof.Machine

/-! ## The operations of a cavity abide by the laws -/

section Abides
variable {e : Env} {k m n : Cavity}

/-! ### Lock, SPeff and demand -/

theorem Cavity.Abides.relocked (l : Lock) (h : l.mains = k.lock.mains) : k.Abides e { k with lock := l } := by
  refine .same ?_
  unfold Cavity.conduct
  dsimp only
  rw [h]
  rfl

/-- SPeff moves outside COOKING, within the clean ceiling. -/
theorem Cavity.Abides.respeff (v : Nat) (hs : k.cc.state ≠ .cooking)
    (hv : v ≤ max k.cc.speff (e.cfg.limits.cleanCeiling * 10)) :
    k.Abides e { k with cc := { k.cc with speff := v } } := by
  refine ⟨⟨fun h => h, fun h => h, fun _ h => ⟨?_, fun hc => absurd hc hs⟩⟩, rfl, fun p => .inl ?_⟩
  · exact hv.trans (max_le h.1 le_rfl)
  · cases p <;> rfl

theorem Cavity.Abides.redemand (d : Nat) (hd : d ≤ 30) :
    k.Abides e { k with cc := { k.cc with demand := d } } :=
  ⟨⟨fun _ => hd, fun h => h, fun _ h => h⟩, rfl, fun p => .inl (by cases p <;> rfl)⟩

theorem Env.target_le (e : Env) (r : Segment) : e.target r ≤ e.cfg.limits.cleanCeiling := Nat.min_le_right _ _

theorem Env.speffOfReading_le (e : Env) (reading : Int) :
    e.speffOfReading reading ≤ e.cfg.limits.cleanCeiling * 10 :=
  Nat.mul_le_mul_right 10 (Nat.min_le_right _ _)

theorem demandOf_le (gain : Nat) (err : Int) : demandOf gain err ≤ 30 := by
  unfold demandOf
  split <;> omega

/-! ### The condition monitor -/

theorem Cavity.Abides.trip (c : Condition) (later : CondSet) : k.Abides e (k.trip e c later) := by
  have hclear : (k.enterState e .faulted).Abides e
      (if k.cc.state = .cleaning || k.cc.state = .held then (k.enterState e .faulted).clearProgram
        else k.enterState e .faulted) := by
    split
    · exact .clearProgram (.inr rfl)
    · exact .refl _
  unfold Cavity.trip
  refine Cavity.Abides.trans (.enterState .faulted nofun) (hclear.trans ?_)
  dsimp only
  generalize (if k.cc.state = .cleaning || k.cc.state = .held then (k.enterState e .faulted).clearProgram
    else k.enterState e .faulted) = k4
  refine Cavity.Abides.trans (.relocked _ k4.lock.takeStop_mains) ?_
  split <;> exact .same rfl

theorem Cavity.Abides.decideAmong (asked : Condition → Bool) : k.Abides e (k.decideAmong e asked) := by
  unfold Cavity.decideAmong
  split
  · exact .refl k
  · exact .trip _ _

theorem Cavity.Abides.decideEntry : k.Abides e (k.decideEntry e) := .decideAmong _

theorem Cavity.Abides.judge (c : Condition) : k.Abides e (k.judge e c) := by
  unfold Cavity.judge
  split_ifs
  · exact .same rfl
  · exact .refl k
  · exact .trip _ _
  · exact .refl k

theorem Cavity.Abides.onset (c : Condition) : k.Abides e (k.onset e c) := .after (k.withPresent c) rfl (.judge c)

theorem Cavity.Abides.momentary (c : Condition) : k.Abides e (k.momentary e c) :=
  .after { k with cond := { k.cond with seen := k.cond.seen.add c } } rfl (.judge c)

theorem Cavity.Abides.absent (c : Condition) : k.Abides e (k.absent c) := .same rfl

/-! ### Entries of states and the program -/

theorem Cavity.Abides.enterCooldown (why : LastEnd) : k.Abides e (k.enterCooldown e why) :=
  .after (k.writeEnd why) rfl (Cavity.Abides.trans (.enterState .cooldown nofun)
    (Cavity.Abides.trans (.clearProgram (.inl rfl)) .decideEntry))

theorem Cavity.Abides.endInIdle : k.Abides e (k.endInIdle e) :=
  Cavity.Abides.trans (.enterState .idle nofun) (.after ((k.enterState e .idle).setEvent .cycleEnded) rfl .decideEntry)

theorem Cavity.Abides.enterSegment (i : Nat) (stack : List Nat) : k.Abides e (k.enterSegment e i stack) := by
  let shed : Cavity := k.shedWhere e.slot fun p => !(e.segs.at i).allows p
  let k1 : Cavity := { shed with
    cc := { k.cc with segIndex := some i, stack := stack, elapsed := 0, soak := 0, arrived := false,
                      markHeld := false, direction := e.rampDir (e.segs.at i) k.cc.speff,
                      events := maskAdd k.cc.events CavEvent.segmentEntered.bit }
    prb := { k.prb with mark := e.arming (e.segs.at i) k.cc.speff } }
  have hshed : k.Abides e k1 := Cavity.Abides.trans (.sheds fun p => !(e.segs.at i).allows p) (.same rfl)
  exact hshed.trans (.redecided { k.fan with segFlag := (e.segs.at i).fanHigh, catalyst := (e.segs.at i).catalyst }
    rfl rfl rfl)

theorem Cavity.Abides.moveTo (i : Nat) : k.Abides e (k.moveTo e i) := by
  unfold Cavity.moveTo
  split
  next j stack _ => exact .enterSegment j stack
  next j stack _ =>
    exact .after { k with cc := { k.cc with segIndex := some j, stack := stack } } rfl (.enterCooldown _)
  next sub j stack _ =>
    unfold Cavity.programFault
    dsimp only
    refine .after { k with cc := { k.cc with segIndex := j, stack := stack } } rfl
      (Cavity.Abides.trans (.momentary .program) ?_)
    split
    · exact .refl _
    · exact .enterCooldown _

theorem Cavity.Abides.segmentEnds : k.Abides e (k.segmentEnds e) := by
  unfold Cavity.segmentEnds
  split
  · exact .moveTo _
  · exact .refl k

theorem Cavity.Abides.enterCleaning : k.Abides e (k.enterCleaning e) := by
  cases hi : k.cc.startSeg with
  | none =>
    unfold Cavity.enterCleaning
    rw [hi]
    exact .refl k
  | some i =>
    rw [Cavity.enterCleaning_eq hi]
    have hbegun : k.Abides e (k.begun e) := by
      refine Cavity.Abides.trans (.enterState .cleaning nofun) (Cavity.Abides.trans (.respeff
        (e.speffOfReading k.prb.cavity.reading) nofun ?_) (.same (by rfl)))
      exact (Env.speffOfReading_le e _).trans (Nat.le_max_right _ _)
    exact hbegun.trans (Cavity.Abides.trans (.moveTo i) .decideEntry)

/-! ### The lock's reports -/

/-- A way of sending RELEASE that abides by the laws. -/
def Cavity.SendsAbiding (e : Env) (send : Cavity → Cavity) : Prop := ∀ k : Cavity, k.Abides e (send k)

variable {send : Cavity → Cavity}

theorem Cavity.Abides.failStart (hsend : Cavity.SendsAbiding e send) (why : StartFault) :
    k.Abides e (k.failStart e why send) :=
  .after (k.writeEnd (.startFailed why)) rfl
    (Cavity.Abides.trans (.enterState .unlocking nofun) (Cavity.Abides.trans (hsend _) .decideEntry))

theorem Cavity.Abides.answer (hsend : Cavity.SendsAbiding e send) (r : LockReport) :
    k.Abides e (k.answer e send r) := by
  cases r with
  | locked =>
    simp only [Cavity.answer]
    split
    · exact .enterCleaning
    · exact hsend k
    · exact .refl k
  | opened =>
    simp only [Cavity.answer]
    split
    · exact .endInIdle
    · exact .refl k
  | unknown =>
    simp only [Cavity.answer]
    split
    · exact .failStart hsend _
    · exact hsend k
    · exact .refl k
  | jammed =>
    simp only [Cavity.answer]
    split
    · exact .failStart hsend _
    · exact .refl k
  | doorOpened =>
    simp only [Cavity.answer]
    split
    · exact .failStart (fun k => .refl k) _
    · exact .refl k
  | lockRefused =>
    simp only [Cavity.answer]
    split
    · exact .after (k.writeEnd (.startFailed .doorOpen)) rfl .endInIdle
    · exact .endInIdle
    · exact .refl k
  | jamPresent | jamAbsent | lockLost | doorForced => exact .refl k

theorem Cavity.Abides.handOver (hsend : Cavity.SendsAbiding e send) (r : LockReport) :
    k.Abides e (k.handOver e send r) := by
  cases r with
  | jamPresent => exact .onset _
  | jamAbsent => exact .absent _
  | lockLost => exact .momentary _
  | doorForced => exact .momentary _
  | jammed => exact .answer hsend .jammed
  | locked => exact .answer hsend .locked
  | opened => exact .answer hsend .opened
  | unknown => exact .answer hsend .unknown
  | doorOpened => exact .answer hsend .doorOpened
  | lockRefused => exact .answer hsend .lockRefused

/-- The reports of a lock drive handed over, its new record standing. -/
theorem Cavity.afterLock_abides (hsend : Cavity.SendsAbiding e send) (res : Lock × List LockReport) :
    Cavity.Abides e { k with lock := res.1 } (k.afterLock e send res) := by
  have hall (rs : List LockReport) : ∀ m : Cavity, m.Abides e (rs.foldl (fun k r => k.handOver e send r) m) := by
    induction rs with
    | nil => exact fun m => .refl m
    | cons r rs ih => exact fun m => Cavity.Abides.trans (.handOver hsend r) (ih _)
  exact hall _ _

theorem Cavity.Abides.sendRelease : k.Abides e (k.sendRelease e) :=
  Cavity.Abides.trans (.relocked _ Lock.takeRelease_mains) (Cavity.afterLock_abides (fun k => .refl k) _)

theorem Cavity.lockChanged_abides (res : Lock × List LockReport) :
    Cavity.Abides e { k with lock := res.1 } (k.lockChanged e res) :=
  Cavity.afterLock_abides (fun _ => .sendRelease) res

/-- A change at the lock drive that is not the mains monitor's. -/
theorem Cavity.Abides.lockChanged {res : Lock × List LockReport} (h : res.1.mains = k.lock.mains) :
    k.Abides e (k.lockChanged e res) :=
  Cavity.Abides.trans (.relocked _ h) (Cavity.lockChanged_abides res)

/-- UNLOCKING entered with a RELEASE. -/
theorem Cavity.Abides.unlock : k.Abides e (((k.enterState e .unlocking).sendRelease e).decideEntry e) :=
  Cavity.Abides.trans (.enterState .unlocking nofun) (Cavity.Abides.trans .sendRelease .decideEntry)

/-! ### Orders -/

theorem Env.holdSetpoint_le (e : Env) (v : Int) : (e.holdSetpoint v).1 ≤ e.cfg.limits.cookCeiling := by
  unfold Env.holdSetpoint
  split_ifs <;> dsimp only <;> omega

theorem Cavity.Order.abides (h : k.Order e m) : k.Abides e m := by
  cases h with
  | start i =>
    unfold Cavity.cleanStart
    split_ifs
    iterate 6 exact .refl k
    refine Cavity.Abides.trans (.enterState .locking nofun) (.after { k.enterState e .locking with
      cc := { (k.enterState e .locking).cc with startSeg := some i } } rfl ?_)
    exact Cavity.Abides.trans (.lockChanged Lock.takeLock_mains) .decideEntry
  | hold =>
    unfold Cavity.cleanHold
    split
    · exact Cavity.Abides.trans (.enterState .held nofun) .decideEntry
    · exact .refl k
    · exact .refl k
  | resume =>
    unfold Cavity.cleanResume
    split
    · refine Cavity.Abides.trans (.enterState .cleaning nofun) (Cavity.Abides.trans (.respeff
        (e.speffOfReading k.prb.cavity.reading) nofun ?_) (Cavity.Abides.trans (.same (by rfl)) .decideEntry))
      exact (Env.speffOfReading_le e _).trans (Nat.le_max_right _ _)
    · exact .refl k
  | abandon =>
    unfold Cavity.cleanAbandon
    split
    · exact .after (k.writeEnd .abandoned) rfl .unlock
    · exact .enterCooldown _
    · exact .enterCooldown _
    · exact .refl k
    · exact .refl k
    · exact .refl k
  | cook v elems =>
    rw [Cavity.cookSet]
    split_ifs
    · exact .refl k
    · exact .refl k
    · exact .refl k
    · exact Cavity.Abides.trans (.enterCooking _ _ (Env.holdSetpoint_le e v)) .decideEntry
    · exact Cavity.Abides.trans (.sheds _) (.cooks _ _ (Env.holdSetpoint_le e v))
  | cookOff =>
    unfold Cavity.cookOff
    split
    · exact .refl k
    · exact Cavity.Abides.trans (.enterState .idle nofun) .decideEntry
    · exact .refl k
  | events b =>
    unfold Cavity.eventsAck
    split <;> exact .same rfl
  | conditions w =>
    unfold Cavity.conditionsAck
    split <;> exact .same rfl
  | clear =>
    unfold Cavity.faultClear
    dsimp only
    split_ifs
    · exact .refl k
    · exact .refl k
    · exact .refl k
    · exact .after { k with cond := { k.cond with trip := none } } rfl .endInIdle
    · exact .after { k with cond := { k.cond with trip := none } } rfl .unlock

/-! ### Samples -/

theorem Cavity.Abides.levelReport (c : Condition) (was now : Bool) : k.Abides e (k.levelReport e c was now) := by
  unfold Cavity.levelReport
  split_ifs
  · exact .refl k
  · exact .onset c
  · exact .absent c

theorem Cavity.Abides.reportCavityFault (cls : SampleClass) : k.Abides e (k.reportCavityFault e cls) := by
  unfold Cavity.reportCavityFault
  split_ifs
  · exact Cavity.Abides.trans (.onset .sensor) (.redecided _ rfl rfl rfl)
  · exact Cavity.Abides.trans (.absent .sensor) (.redecided _ rfl rfl rfl)
  · exact .refl k

theorem Cavity.Abides.checkOvertemp : k.Abides e (k.checkOvertemp e) := by
  let now : Bool := (e.cfg.limits.cleanCeiling : Int) + e.cfg.limits.overtempMargin < k.prb.cavity.reading
  exact .after { k with prb := { k.prb with overtemp := now } } rfl (.levelReport ..)

theorem Cavity.Abides.releaseLaw (cls : SampleClass) : k.Abides e (k.releaseLaw e cls) := by
  unfold Cavity.releaseLaw
  split
  · exact .lockChanged Lock.stopOpenDrive_mains
  · exact .refl k

theorem Cavity.Abides.markStage (cls : SampleClass) : k.Abides e (k.markStage e cls) := by
  unfold Cavity.markStage
  split
  · exact .refl k
  next d _ =>
    split_ifs
    · have hmarked : k.Abides e (k.marked d) := .same rfl
      obtain ⟨i, -, -, -, h⟩ | ⟨-, h⟩ := Cavity.confirmMark_cases e d k <;> rw [h]
      · exact hmarked.trans (.moveTo _)
      · exact hmarked
    · exact .same rfl
    · exact .same rfl

theorem Cavity.Abides.recoverStage (third : Bool) : k.Abides e (k.recoverStage e third) := by
  unfold Cavity.recoverStage Cavity.recover
  let k1 : Cavity := { k with cc := { k.cc with recovering := false } }
  dsimp only
  split_ifs
  · exact .same rfl
  · exact .after k1 rfl (.redecided _ rfl rfl rfl)
  · exact .after (k1.writeEnd .recovered) rfl .unlock
  · exact .after k1 rfl (.enterCooldown _)
  · exact .refl k

theorem Cavity.Abides.goodSample : k.Abides e (k.goodSample e) := by
  unfold Cavity.goodSample
  dsimp only
  split
  · exact .refl k
  split
  · split_ifs
    · exact .endInIdle
    · exact .unlock
    · exact .refl k
  · split
    · exact .sendRelease
    · exact .refl k
  · split
    · exact .sendRelease
    · exact .refl k
  · exact .refl k

theorem Cavity.Abides.cavitySample (v : Int) : k.Abides e (k.cavitySample e v) := by
  rw [Cavity.cavitySample_eq]
  generalize k.prb.cavity.sampleClass v = cls
  generalize decide ((k.prb.cavity.after (-400) 6000 v).taken = 3) = third
  have hover (m : Cavity) : m.Abides e (if cls.good then m.checkOvertemp e else m) := by
    split
    · exact .checkOvertemp
    · exact .refl m
  have last (m : Cavity) : m.Abides e (if cls.good then m.goodSample e else m) := by
    split
    · exact .goodSample
    · exact .refl m
  refine .after (k.probed v) rfl (Cavity.Abides.trans (.reportCavityFault cls) ((hover _).trans ?_))
  exact Cavity.Abides.trans (.releaseLaw cls)
    (Cavity.Abides.trans (.markStage cls) (Cavity.Abides.trans (.recoverStage third) (last _)))

theorem Cavity.Abides.doorSample (v : Int) : k.Abides e (k.doorSample e v) := by
  have fault (m : Cavity) (cls : SampleClass) : m.Abides e (m.reportDoorFault e cls) := by
    unfold Cavity.reportDoorFault
    split_ifs
    · exact .onset _
    · exact .absent _
    · exact .refl _
  have hot (m : Cavity) : m.Abides e (m.decideDoorHot e) := by
    let now : Bool := (e.cfg.limits.doorTrip : Int) ≤ m.prb.door.reading
    exact .after { m with prb := { m.prb with doorHot := now } } rfl (.levelReport ..)
  have warm (m : Cavity) : m.Abides e (m.decideDoorWarm e) := by
    unfold Cavity.decideDoorWarm
    dsimp only
    split
    · exact .refl m
    · let now : Bool := m.prb.warmNow e.cfg.limits.doorWarn
      exact .after { m with prb := { m.prb with doorWarm := now } } rfl
        (Cavity.Abides.trans (.levelReport .doorWarm m.prb.doorWarm now) (.redecided _ rfl rfl rfl))
  rw [Cavity.doorSample_eq]
  refine .after (k.doorProbed v) rfl (Cavity.Abides.trans (fault _ (k.prb.door.doorClass v)) ?_)
  split
  · exact (hot _).trans (warm _)
  · exact .refl _

/-! ### The work of a window start (R20) -/

theorem Cavity.Abides.stage1 : k.Abides e (k.stage1 e) := by
  unfold Cavity.stage1 Cavity.countCleaning Cavity.countHeld
  dsimp only
  split
  · split_ifs
    · exact .after { k with cc := { k.cc with cycle := k.cc.cycle + 1 } } rfl (.enterCooldown _)
    · split <;> exact .same rfl
  · split_ifs
    · exact .after { k with cc := { k.cc with hold := k.cc.hold + 1 } } rfl (.enterCooldown _)
    · exact .same rfl
  · exact .refl k

/-- SPeff of a CLEANING cavity stays within the clean ceiling (R48). -/
theorem Cavity.cleaningSpeff_le (e : Env) (k : Cavity) :
    k.cleaningSpeff e ≤ max k.cc.speff (e.cfg.limits.cleanCeiling * 10) := by
  have htarget (r : Segment) : e.target r * 10 ≤ e.cfg.limits.cleanCeiling * 10 :=
    Nat.mul_le_mul_right 10 (e.target_le r)
  have hreading := e.speffOfReading_le k.prb.cavity.reading
  unfold Cavity.cleaningSpeff
  split
  · omega
  next i _ =>
    have := htarget (e.segs.at i)
    dsimp only
    split <;> omega

theorem Cavity.Abides.stage2 : k.Abides e (k.stage2 e) := by
  have hreading := e.speffOfReading_le k.prb.cavity.reading
  unfold Cavity.stage2
  cases hs : k.cc.state with
  | cooking =>
    refine ⟨⟨fun h => h, fun h => h, fun hx h => ?_⟩, rfl, fun p => .inl (by cases p <;> rfl)⟩
    obtain ⟨hcook, -⟩ := h.2 hs
    refine ⟨?_, fun _ => ⟨hcook, rfl⟩⟩
    dsimp only
    omega
  | cleaning => exact .respeff _ (by simp [hs]) (k.cleaningSpeff_le e)
  | held => exact .respeff _ (by simp [hs]) (hreading.trans (Nat.le_max_right _ _))
  | idle | locking | cooldown | unlocking | faulted => exact .respeff _ (by simp [hs]) (Nat.zero_le _)

theorem Cavity.Abides.stage3 : k.Abides e (k.stage3 e) := by
  unfold Cavity.stage3
  split
  next i _ _ =>
    have harr : k.Abides e (k.decideArrived e (e.segs.at i)) := by
      unfold Cavity.decideArrived
      split
      · exact .same rfl
      · exact .refl k
    dsimp only
    refine harr.trans ?_
    split_ifs
    · exact .segmentEnds
    · exact .enterCooldown _
    · exact .segmentEnds
    · exact .refl _
  next => exact .refl k

theorem Cavity.Abides.stage4 : k.Abides e (k.stage4 e) := by
  refine .redemand _ ?_
  have hle : (if k.formulaApplies e && !k.prb.cavity.fault then
      demandOf e.page.gain ((k.cc.speff / 10 : Nat) - k.prb.cavity.reading) else 0) ≤ 30 := by
    split
    · exact demandOf_le _ _
    · omega
  split <;> omega

theorem Cavity.Abides.windowWork : k.Abides e (k.windowWork e) :=
  Cavity.Abides.trans .stage1 (Cavity.Abides.trans .stage2 (Cavity.Abides.trans .stage3 .stage4))

/-! ### The fan's tach, starvation and the rest -/

/-- A drive's record within WATCHING, or at its begin (R128). -/
theorem Cavity.Abides.watches (f : Fan) (hk : k.fan.tach ≠ .stopped) (hf : f.tach = .watching)
    (hcmd : f.command = k.fan.command) (hwanted : ∀ st, f.wanted st = k.fan.wanted st) :
    k.Abides e { k with fan := f } := by
  refine ⟨⟨fun h => h, fun hl => ⟨?_, ?_, fun _ => hf⟩, fun _ h => h⟩, rfl, fun p => .inl (by cases p <;> rfl)⟩
  · exact hcmd.trans (hl.1.trans (hwanted _).symm)
  · have hon : k.fan.command ≠ .off := fun ho => hk (hl.2.1.2 ho)
    exact iff_of_false (by simp [hf]) (by simpa [hcmd] using hon)

theorem Cavity.Event.abides (h : k.Event e m) : k.Abides e m := by
  cases h with
  | cavitySample v => exact .cavitySample v
  | doorSample v => exact .doorSample v
  | lockSwitch sw active => exact .lockChanged (Lock.switchChange_mains sw active)
  | doorSwitch c => exact .lockChanged (Lock.doorChange_mains c)
  | timeout => exact .lockChanged Lock.timeout_mains
  | review =>
    unfold Cavity.levelReview
    split
    · exact .redecided _ rfl rfl rfl
    · exact .refl k
  | pulse =>
    unfold Cavity.tachPulse
    split
    next ht =>
      have hseen : k.Abides e { k with fan := { k.fan with pulseSeen := true, stall := false } } :=
        .watches _ (by simp [ht]) ht rfl fun _ => rfl
      dsimp only
      split
      · exact hseen.trans (.absent _)
      · exact hseen
    next => exact .refl k
  | expiry =>
    unfold Cavity.tachExpiry
    split
    next => exact .refl k
    next ht => exact .watches _ (by simp [ht]) rfl rfl fun _ => rfl
    next ht =>
      have hwatch (b : Bool) : k.Abides e { k with fan :=
          { k.fan with tachLeft := Config.tachMs, pulseSeen := false, stall := b } } :=
        .watches _ (by simp [ht]) ht rfl fun _ => rfl
      dsimp only
      split
      · exact (hwatch _).trans (.onset _)
      · exact hwatch _
  | work => exact .windowWork

theorem Cavity.Abides.moveStarve : k.Abides e (k.moveStarve e) := by
  unfold Cavity.moveStarve
  split
  · split
    · dsimp only
      split
      · exact .after { k with starve := k.starve + 1 } rfl (.onset _)
      · exact .same rfl
    · exact .same rfl
  · exact .refl k
  · exact .same rfl

theorem Cavity.Abides.passTime : k.Abides e k.passTime := .same rfl

theorem Cavity.Abides.clearEvents : k.Abides e k.clearEvents := .same rfl

theorem Cavity.Abides.unlockLowered : k.Abides e (k.unlockLowered e) := by
  unfold Cavity.unlockLowered
  split
  · exact .refl k
  · exact .lockChanged Lock.stopOpenDrive_mains

theorem Cavity.Abides.followSwitch (sw : EndSwitch) (active : Bool) : k.Abides e (k.followSwitch sw active) :=
  .relocked _ (by simp)

theorem Cavity.Abides.followDoor (closed : Bool) : k.Abides e (k.followDoor closed) := .same rfl

end Abides

end Sys2Proof.Machine

namespace Sys2Proof.Machine

open Relation

/-! ## The turns that a step takes

What the laws of the budget, the settings, the fans and the mains read of a step: the cavities do their part while
the settings, the schedule and the mains stand, or one of the few operations that move those. -/

/-- The settings and the window stand, the ring takes a reading at most, and every cavity abides by its laws. -/
structure State.Within (s t : State) : Prop where
  cfg : t.cfg = s.cfg
  bounds : t.bounds = s.bounds
  sched : t.sched = { s.sched with timer := t.sched.timer }
  timer : t.sched.timer.status = s.sched.timer.status
  present : t.mains.present = s.mains.present
  firstReturn : t.mains.firstReturn = s.mains.firstReturn
  ring : t.mains.ring = s.mains.ring ∨ ∃ v, t.mains.ring = ringJoin s.mains.ring v
  cavs : ∀ c, (s.cav c).Abides (s.env c) (t.cav c)

/-- The operations that a step is made of. -/
inductive State.Turn : State → State → Prop
  | within {s t : State} (h : s.Within t) : Turn s t
  /-- A value stored on pages 0 to 5 as it was decided (R163), the fitted count with every cavity IDLE. -/
  | stores {s : State} (id : SettingId) (v : Nat) (w : Word16) (r : Result)
      (hd : decideValue s.cfg s.bounds id w = .store v r)
      (hidle : id = .fittedCount → ∀ c, (s.cav c).cc.state = .idle) : Turn s (s.storeSetting id v)
  | lends {s : State} (watts : Nat) : Turn s (s.takeLend watts).1
  | window {s : State} (h : s.mains.present = true) : Turn s s.windowStart
  | returns {s : State} (volts : Nat) : Turn s (s.mainsReturn volts)
  | slot {s : State} {i : Nat} (hs : s.sched.slot = some i) (hp : s.mains.present = true) (hi : i + 1 < 30) :
      Turn s (s.beginSlot (i + 1))
  | dropout {s : State} (h : s.mains.present = true) : Turn s s.crossingExpired
  | starts {s : State} (inp : StartInputs) : Turn s (s.startUp inp)

/-- The state `t` comes from `s` by such turns. -/
def State.Turns : State → State → Prop := ReflTransGen State.Turn

section Turns
variable {s t u : State}

theorem State.Turns.refl (s : State) : State.Turns s s := ReflTransGen.refl
theorem State.Turns.trans (h : State.Turns s t) (h' : State.Turns t u) : State.Turns s u := ReflTransGen.trans h h'
theorem State.Turns.one (h : State.Turn s t) : State.Turns s t := ReflTransGen.single h

/-- The cavities alone do their part. -/
theorem State.Turns.cavities (hb : s.SameButCavs t) (h : ∀ c, (s.cav c).Abides (s.env c) (t.cav c)) :
    State.Turns s t :=
  .one (.within ⟨hb.cfg, hb.bounds, by rw [hb.sched], by rw [hb.sched], by rw [hb.mains], by rw [hb.mains],
    .inl (by rw [hb.mains]), h⟩)

/-- Nothing that the laws read. -/
theorem State.Turns.aside (cfg : t.cfg = s.cfg) (bounds : t.bounds = s.bounds) (sched : t.sched = s.sched)
    (mains : t.mains = s.mains) (h0 : t.c0 = s.c0) (h1 : t.c1 = s.c1) (h2 : t.c2 = s.c2) : State.Turns s t := by
  have hcav (c : CavNo) : t.cav c = s.cav c := State.cav_cases (P := fun c => t.cav c = s.cav c) h0 h1 h2 c
  refine .one (.within ⟨cfg, bounds, by rw [sched], by rw [sched], by rw [mains], by rw [mains],
    .inl (by rw [mains]), fun c => ?_⟩)
  rw [hcav]
  exact .refl _

theorem State.Turns.attn : State.Turns s s.decideAttn := .aside rfl rfl rfl rfl rfl rfl rfl

theorem State.Turns.partEvent (v : PartEvent) : State.Turns s (s.setPartEvent v) :=
  .aside rfl rfl rfl rfl rfl rfl rfl

/-! ### The cavities -/

theorem State.Turns.setCav (c : CavNo) {k : Cavity} (h : (s.cav c).Abides (s.env c) k) :
    State.Turns s (s.setCav c k) := by
  refine .cavities (s.setCav_sameButCavs c k) fun d => ?_
  by_cases hd : d = c
  · subst hd
    rwa [State.cav_setCav_same]
  · rw [State.cav_setCav_other _ _ _ hd]
    exact .refl _

theorem State.Turns.onCav (c : CavNo) {f : Env → Cavity → Cavity} (h : ∀ e k, Cavity.Abides e k (f e k)) :
    State.Turns s (s.onCav c f) := .setCav c (h _ _)

theorem State.Turns.onCavs {f : Env → Cavity → Cavity} (h : ∀ e k, Cavity.Abides e k (f e k)) :
    State.Turns s (s.onCavs f) :=
  ((State.Turns.onCav 0 h).trans (State.Turns.onCav 1 h)).trans (State.Turns.onCav 2 h)

theorem State.Turns.ifFitted (c : CavNo) {f : Env → Cavity → Cavity} (h : ∀ e k, Cavity.Event e k (f e k)) :
    State.Turns s (s.ifFitted c f) := by
  unfold State.ifFitted
  split
  · exact .onCav c fun e k => (h e k).abides
  · exact .refl s

theorem State.Turns.onFitted {f : Env → Cavity → Cavity} (h : ∀ e k, Cavity.Event e k (f e k)) :
    State.Turns s (s.onFitted f) :=
  ((State.Turns.ifFitted 0 h).trans (State.Turns.ifFitted 1 h)).trans (State.Turns.ifFitted 2 h)

theorem State.Turns.perCavityOrder (size : Nat) {order : List Byte → Env → Cavity → Cavity × Result}
    (h : ∀ g e k, Cavity.Order e k (order g e k).1) (r : Request) :
    State.Turns s (perCavityOrder size order r s).1 := by
  obtain ⟨hcfg, hbounds, hsegs, hsched, hmains, hreview, hlink, hstore, hpending⟩ :=
    perCavityOrder_frame size order r s
  refine .cavities ⟨hcfg, hbounds, hsegs, hsched, hmains, hreview, hlink, hstore, hpending⟩ fun c => ?_
  rw [perCavityOrder_cav]
  split
  · exact (h _ _ _).abides
  · exact .refl _

/-! ### Settings -/

theorem State.Turns.writeValue (page idx : Nat) (w : Word16) : State.Turns s (s.writeValue page idx w).1 := by
  unfold State.writeValue
  split
  · unfold writeSegValue
    split
    · exact .refl _
    split
    · exact .refl _
    split
    · exact .refl _
    split
    · exact .aside rfl rfl rfl rfl rfl rfl rfl
    · exact .refl _
  split
  · exact .refl _
  next id _ =>
    unfold State.writeSetting
    split
    · exact .refl _
    next hidle =>
      split
      · exact .refl _
      next v r hd =>
        refine .one (.stores id v w r hd fun hid => ?_)
        have hall : s.allCav (fun k => k.cc.state = .idle) = true := by simpa [hid] using hidle
        simp only [State.allCav, Bool.and_eq_true, decide_eq_true_eq] at hall
        obtain ⟨⟨h0, h1⟩, h2⟩ := hall
        exact State.cav_cases h0 h1 h2

theorem State.Turns.writeRun (page : Nat) (ws : List Word16) :
    ∀ (s : State) (idx : Nat) (worst : Result) (n : Nat),
      State.Turns s (State.writeRun page s idx ws worst n).1 := by
  induction ws with
  | nil => exact fun s _ _ _ => .refl s
  | cons w ws ih =>
    intro s idx worst n
    unfold State.writeRun
    dsimp only
    split
    · exact .writeValue page idx w
    · exact State.Turns.trans (.writeValue page idx w) (ih _ _ _ _)

/-! ### Mains -/

theorem State.Turns.crossing : State.Turns s s.crossing :=
  .one (.within ⟨rfl, rfl, rfl, rfl, rfl, rfl, .inl rfl, State.cav_cases (.refl _) (.refl _) (.refl _)⟩)

theorem State.Turns.takeReading (volts : Nat) : State.Turns s (s.takeReading volts) := by
  unfold State.takeReading
  dsimp only
  refine State.Turns.crossing.trans ?_
  split
  · exact .one (.within ⟨rfl, rfl, rfl, rfl, rfl, rfl, .inr ⟨volts, rfl⟩,
      State.cav_cases (.refl _) (.refl _) (.refl _)⟩)
  split
  · exact .one (.returns volts)
  · exact .refl _

theorem State.Turns.crossingExpired : State.Turns s s.crossingExpired := by
  by_cases h : s.mains.present = true
  · exact .one (.dropout h)
  · unfold State.crossingExpired
    rw [if_neg h]
    exact .one (.within ⟨rfl, rfl, rfl, rfl, rfl, rfl, .inl rfl, State.cav_cases (.refl _) (.refl _) (.refl _)⟩)

/-! ### Requests and the link -/

theorem State.Turns.serve (q : ReqKind) (r : Request) : State.Turns s (q.serve r s).1 := by
  have besideLink (l : Link) : State.Turns s { s with link := l } := .aside rfl rfl rfl rfl rfl rfl rfl
  have besideStore (t : Store) : State.Turns s { s with store := t } := .aside rfl rfl rfl rfl rfl rfl rfl
  cases q with
  | cleanStart => exact .perCavityOrder 1 (fun g e k => .start _) r
  | cleanHold => exact .perCavityOrder 0 (fun g e k => .hold) r
  | cleanResume => exact .perCavityOrder 0 (fun g e k => .resume) r
  | cleanAbandon => exact .perCavityOrder 0 (fun g e k => .abandon) r
  | cookSet => exact .perCavityOrder 3 (fun g e k => .cook _ _) r
  | cookOff => exact .perCavityOrder 0 (fun g e k => .cookOff) r
  | eventsAck => exact .perCavityOrder 1 (fun g e k => .events _) r
  | conditionsAck => exact .perCavityOrder 2 (fun g e k => .conditions _) r
  | faultClear => exact .perCavityOrder 0 (fun g e k => .clear) r
  | budgetLend => exact .one (.lends _)
  | partEventsAck =>
    simp only [ReqKind.serve, servePartEventsAck]
    split
    · exact besideLink _
    · exact .refl _
  | restart =>
    simp only [ReqKind.serve, serveRestart]
    split
    · exact besideLink _
    · exact .refl _
  | cavityStatus =>
    simp only [ReqKind.serve, serveCavityStatus]
    split
    · have hall (cs : List CavNo) : ∀ u : State, State.Turns u
          (cs.foldl (fun t c => t.onCav c fun _ k => k.clearEvents) u) := by
        induction cs with
        | nil => exact fun u => .refl u
        | cons c cs ih => exact fun u => State.Turns.trans (.onCav c fun e k => .clearEvents) (ih _)
      exact hall _ s
    · exact .refl _
  | partStatus =>
    simp only [ReqKind.serve, servePartStatus]
    split
    · exact besideLink _
    · exact .refl _
  | settingRead =>
    simp only [ReqKind.serve, serveSettingRead]
    split
    · split <;> exact .refl _
    · exact .refl _
  | settingWrite => exact .writeRun _ _ s _ _ _
  | storeStage => exact besideStore _
  | storeDiscard =>
    simp only [ReqKind.serve, serveStoreDiscard]
    split
    · exact .refl _
    · exact besideStore _
  | storeBurn =>
    simp only [ReqKind.serve, serveStoreBurn]
    split
    · exact besideStore _
    · exact .refl _
  | storeRead =>
    simp only [ReqKind.serve, serveStoreRead]
    split <;> exact .refl _
  | tripRecord | windowStatus => exact .refl _

theorem State.Turns.sendReply (cls : BitVec 2) (code sel : Byte) (tag : BitVec 3) (payload : List Byte) :
    State.Turns s (s.sendReply cls code sel tag payload) := .aside rfl rfl rfl rfl rfl rfl rfl

theorem State.Turns.accept (q : ReqKind) (r : Request) (n : Nat) : State.Turns s (s.accept q q.serve r n) := by
  unfold State.accept
  split
  · exact .sendReply ..
  · exact State.Turns.trans (.serve q r) (.sendReply ..)

theorem State.Turns.request (q : ReqKind) (r : Request) : State.Turns s (s.request q q.serve r) := by
  unfold State.request
  split
  · exact .refl _
  split
  · exact .partEvent _
  · exact .accept q r _

theorem State.Turns.judgeFrame : State.Turns s s.judgeFrame := by
  unfold State.judgeFrame
  dsimp only
  split
  · exact .partEvent _
  split
  · exact .refl _
  split
  · exact .refl _
  split
  · exact .partEvent _
  split
  · exact .sendReply ..
  · exact .accept _ _ _

theorem State.Turns.takeByte (b : Byte) : State.Turns s (s.takeByte b) := by
  have besideLink (l : Link) : State.Turns s { s with link := l } := .aside rfl rfl rfl rfl rfl rfl rfl
  unfold State.takeByte
  split
  · exact .refl _
  · split
    · exact besideLink _
    · exact .refl _
  · unfold State.assembleByte
    dsimp only
    split
    · exact State.Turns.trans (besideLink _) .judgeFrame
    · exact besideLink _

/-! ### Every command -/

/-- What a command other than a request does, before ATTN is decided. -/
theorem exec_turns {i : Instr} (h : exec i s = .next t) : State.Turns s t := by
  have key (u : State) (hu : exec i s = u.settled) (hs : State.Turns s u) : State.Turns s t := by
    obtain rfl : u.decideAttn = t := by
      have := hu.symm.trans h
      simpa [State.settled] using this
    exact hs.trans .attn
  cases i with
  | startUp inp => exact key _ rfl (.one (.starts inp))
  | linkOpen =>
    refine key _ rfl ?_
    unfold State.openLink
    split
    · exact .aside rfl rfl rfl rfl rfl rfl rfl
    · exact .refl _
  | receivedByte b => exact key _ rfl (.takeByte b)
  | frameCut =>
    refine key _ rfl ?_
    unfold State.cutFrame
    split
    · exact .aside rfl rfl rfl rfl rfl rfl rfl
    · exact .refl _
  | replyEnd inp =>
    refine key _ rfl ?_
    unfold State.replyEnds
    split
    · split
      · exact .one (.starts inp)
      · exact .aside rfl rfl rfl rfl rfl rfl rfl
    · exact .refl _
  | cleanStart r => exact key _ rfl (.request .cleanStart r)
  | cleanHold r => exact key _ rfl (.request .cleanHold r)
  | cleanResume r => exact key _ rfl (.request .cleanResume r)
  | cleanAbandon r => exact key _ rfl (.request .cleanAbandon r)
  | cookSet r => exact key _ rfl (.request .cookSet r)
  | cookOff r => exact key _ rfl (.request .cookOff r)
  | eventsAck r => exact key _ rfl (.request .eventsAck r)
  | conditionsAck r => exact key _ rfl (.request .conditionsAck r)
  | faultClear r => exact key _ rfl (.request .faultClear r)
  | budgetLend r => exact key _ rfl (.request .budgetLend r)
  | partEventsAck r => exact key _ rfl (.request .partEventsAck r)
  | restart r => exact key _ rfl (.request .restart r)
  | cavityStatus r => exact key _ rfl (.request .cavityStatus r)
  | tripRecord r => exact key _ rfl (.request .tripRecord r)
  | windowStatus r => exact key _ rfl (.request .windowStatus r)
  | partStatus r => exact key _ rfl (.request .partStatus r)
  | settingRead r => exact key _ rfl (.request .settingRead r)
  | settingWrite r => exact key _ rfl (.request .settingWrite r)
  | storeStage r => exact key _ rfl (.request .storeStage r)
  | storeDiscard r => exact key _ rfl (.request .storeDiscard r)
  | storeBurn r => exact key _ rfl (.request .storeBurn r)
  | storeRead r => exact key _ rfl (.request .storeRead r)
  | byteProgrammingComplete b =>
    refine key _ rfl ?_
    unfold State.byteProgrammed
    dsimp only
    split <;> exact .aside rfl rfl rfl rfl rfl rfl rfl
  | cavitySample c v => exact key _ rfl (.ifFitted c fun e k => .cavitySample v)
  | doorSample c v => exact key _ rfl (.ifFitted c fun e k => .doorSample v)
  | windowStart =>
    refine key _ rfl ?_
    split
    next hp => exact .one (.window hp)
    next => exact .refl _
  | slotBoundary =>
    refine key _ rfl ?_
    unfold State.nextSlot
    split
    next i hi =>
      split
      next h =>
        rw [Bool.and_eq_true, decide_eq_true_eq] at h
        exact .one (.slot hi h.1 h.2)
      next => exact .refl _
    next => exact .refl _
  | zeroCrossing => exact key _ rfl .crossing
  | cycleReading volts => exact key _ rfl (.takeReading volts)
  | dropout => exact key _ rfl .crossingExpired
  | lockSwitchChange c sw active =>
    refine key _ rfl ?_
    split
    · exact .setCav c (Cavity.Event.lockSwitch sw active).abides
    · exact .setCav c (.followSwitch sw active)
  | doorSwitchChange c closed =>
    refine key _ rfl ?_
    split
    · exact .setCav c (Cavity.Event.doorSwitch closed).abides
    · exact .setCav c (.followDoor closed)
  | travelTimeout c => exact key _ rfl (.ifFitted c fun e k => .timeout)
  | levelReview =>
    exact key _ rfl (State.Turns.trans (.onFitted fun e k => .review) (.aside rfl rfl rfl rfl rfl rfl rfl))
  | tachPulse c => exact key _ rfl (.ifFitted c fun e k => .pulse)
  | tachTimerExpiry c => exact key _ rfl (.ifFitted c fun e k => .expiry)

theorem Timer.pass_status (t : Timer) : t.pass.status = t.status := by
  unfold Timer.pass
  split <;> rfl

/-- A step is made of such turns. -/
theorem step_turns (h : step s = .next t) : State.Turns s t := by
  unfold step at h
  split at h
  · obtain rfl : s.tick = t := by simpa using h
    exact .one (.within ⟨rfl, rfl, rfl, Timer.pass_status _, rfl, rfl, .inl rfl,
      State.cav_cases .passTime .passTime .passTime⟩)
  next i rest _ =>
    refine State.Turns.trans (t := { s with pending := rest }) ?_ (exec_turns h)
    exact .aside rfl rfl rfl rfl rfl rfl rfl

/-- What every turn keeps, a step keeps. -/
theorem step_keeps_turns {P : State → Prop} (hP : ∀ s t, State.Turn s t → P s → P t) (h : step s = .next t)
    (hs : P s) : P t := by
  have hall : ∀ u, State.Turns s u → P u := by
    intro u hu
    induction hu with
    | refl => exact hs
    | tail _ hl ih => exact hP _ _ hl ih
  exact hall t (step_turns h)

end Turns

end Sys2Proof.Machine

namespace Sys2Proof.Machine

/-! ## What every turn makes of the cavities -/

/-- The lend stored, and nothing else yet. -/
def State.withLend (s : State) (v : Nat) : State := { s with sched := { s.sched with lend := v } }

section CavitiesTurn
variable {s t u : State}

/-! ### A lowered budget -/

theorem State.walkStep_abides (u : State) (n : Nat) (c : CavNo) : (u.cav c).Abides (u.env c) ((u.walkStep n).cav c) := by
  rw [State.walkStep_eq]
  split
  swap
  · exact .refl _
  unfold State.setChan
  by_cases hc : c = channelCav n
  · subst hc
    rw [State.cav_setCav_same]
    have hshed : (u.cav (channelCav n)).setChannel (channelPos n) ((u.chan n).shedFrom u.sched.slot) =
        (u.cav (channelCav n)).shedWhere u.sched.slot fun q => decide (q = channelPos n) := by
      unfold State.chan
      cases channelPos n <;> rfl
    rw [hshed]
    exact .sheds _
  · rw [State.cav_setCav_other _ _ _ hc]
    exact .refl _

theorem State.walkStep_sameButCavs (u : State) (n : Nat) : u.SameButCavs (u.walkStep n) := by
  rw [State.walkStep_eq]
  split
  · exact u.setCav_sameButCavs _ _
  · exact .refl u

theorem State.SameButCavs.env (h : s.SameButCavs t) (c : CavNo) : t.env c = s.env c := by
  unfold State.env
  rw [h.cfg, h.segs, h.sched]

theorem State.budgetWalk_abides (u : State) (c : CavNo) : (u.cav c).Abides (u.env c) (u.budgetWalk.cav c) := by
  have hall (ns : List Nat) : ∀ u : State, (u.cav c).Abides (u.env c) ((ns.foldl State.walkStep u).cav c) := by
    induction ns with
    | nil => exact fun u => .refl _
    | cons n ns ih =>
      intro u
      have hrest := ih (u.walkStep n)
      rw [(u.walkStep_sameButCavs n).env] at hrest
      exact (u.walkStep_abides n c).trans hrest
  exact hall _ u

/-- A lowered budget sheds channels, and leaves all but the budget. -/
theorem State.lowerBudget_frame (u : State) (v : Nat) :
    (u.lowerBudget v).cfg = u.cfg ∧ (u.lowerBudget v).bounds = u.bounds ∧ (u.lowerBudget v).mains = u.mains ∧
      (u.lowerBudget v).sched = { u.sched with budget := min v u.sched.budget } ∧
      ∀ c, (u.cav c).Abides (u.env c) ((u.lowerBudget v).cav c) := by
  unfold State.lowerBudget
  split
  next hv =>
    have hwalk := State.budgetWalk_sameButCavs { u with sched := { u.sched with budget := v } }
    refine ⟨hwalk.cfg, hwalk.bounds, hwalk.mains, by rw [hwalk.sched, min_eq_left hv.le], fun c => ?_⟩
    have habides := State.budgetWalk_abides { u with sched := { u.sched with budget := v } } c
    rwa [State.cav_withSched] at habides
  next hv => exact ⟨rfl, rfl, rfl, by rw [min_eq_right (not_lt.1 hv)], fun c => .refl _⟩

/-! ### A stored setting -/

theorem Cavity.Abides.clampClean {e : Env} {k : Cavity} : k.Abides e (k.clampClean e) := by
  refine ⟨⟨fun h => h, fun h => h, fun _ h => ?_⟩, rfl, fun p => .inl (by cases p <;> rfl)⟩
  have hsame : (k.clampClean e).cc.speff = k.cc.speff := min_eq_left h.1
  unfold Cavity.SetpointLawful
  rw [hsame]
  exact h

theorem Cavity.Abides.clampCook {e : Env} {k : Cavity} : k.Abides e (k.clampCook e) := by
  unfold Cavity.clampCook
  dsimp only
  split
  · exact .cooks _ _ le_rfl
  · exact .refl k

theorem Cavity.Abides.refit {e : Env} {k : Cavity} (fittedNow : Bool) : k.Abides e (k.refit fittedNow) := by
  refine ⟨⟨fun _ => Nat.zero_le _, fun _ => ⟨rfl, iff_of_true rfl rfl, nofun⟩,
    fun _ _ => ⟨Nat.zero_le _, nofun⟩⟩, ?_, fun p => .inl (by cases p <;> rfl)⟩
  simp only [Cavity.refit]
  split
  · rfl
  · exact Lock.fromSwitches_mains

theorem State.SameButCavs.onCav {s t : State} (h : s.SameButCavs t) (c : CavNo) (f : Env → Cavity → Cavity) :
    s.SameButCavs (t.onCav c f) := h.trans (t.setCav_sameButCavs c _)

/-- A stored value leaves all but the cavities, that of the budget ceiling apart. -/
theorem State.storeSetting_sameButCavs {id : SettingId} (hid : id ≠ .budgetCeiling) (v : Nat) :
    (s.stored id v).SameButCavs (s.storeSetting id v) := by
  have same : (s.stored id v).SameButCavs (s.stored id v) := .refl _
  unfold State.storeSetting
  cases id with
  | budgetCeiling => exact absurd rfl hid
  | fittedCount =>
    have one (t : State) (ht : (s.stored .fittedCount v).SameButCavs t) (c : CavNo) :
        (s.stored .fittedCount v).SameButCavs (if s.fitted c = (s.stored .fittedCount v).fitted c then t
          else t.onCav c fun _ k => k.refit ((s.stored .fittedCount v).fitted c)) := by
      split
      · exact ht
      · exact ht.onCav c _
    exact one _ (one _ (one _ same 0) 1) 2
  | cleanCeiling =>
    dsimp only
    split
    · exact State.onCavs_sameButCavs _ _
    · exact same
  | cookCeiling =>
    dsimp only
    split
    · exact State.onCavs_sameButCavs _ _
    · exact same
  | unlockLevel =>
    dsimp only
    split
    · exact State.onCavs_sameButCavs _ _
    · exact same
  | tripEnables c => exact State.setCav_sameButCavs _ c _
  | _ => exact same

/-- A value stored at the budget ceiling (R97). -/
theorem State.storeBudgetCeiling_eq (s : State) (v : Nat) : s.storeSetting .budgetCeiling v =
    if v < s.cfg.part.budgetCeiling then (s.stored .budgetCeiling v).ceilingLowered
    else s.stored .budgetCeiling v := rfl

theorem State.ceilingLowered_eq (s : State) : s.ceilingLowered =
    (s.withLend (min s.sched.lend s.cfg.part.budgetCeiling)).lowerBudget s.cfg.part.budgetCeiling := rfl

theorem State.takeLend_eq (s : State) (watts : Nat) : (s.takeLend watts).1 =
    (s.withLend (min watts s.cfg.part.budgetCeiling)).lowerBudget (min watts s.cfg.part.budgetCeiling) := rfl

@[simp] theorem State.withLend_cav (s : State) (v : Nat) (c : CavNo) : (s.withLend v).cav c = s.cav c :=
  State.cav_withSched _ c

/-- What a stored value leaves alone, whatever the setting. -/
theorem State.storeSetting_frame (id : SettingId) (v : Nat) :
    (s.storeSetting id v).cfg = s.cfg.set id v ∧ (s.storeSetting id v).bounds = s.bounds ∧
      (s.storeSetting id v).mains = s.mains ∧ (s.storeSetting id v).sched =
        { s.sched with lend := (s.storeSetting id v).sched.lend
                       budget := (s.storeSetting id v).sched.budget } := by
  by_cases hid : id = .budgetCeiling
  · subst hid
    rw [State.storeBudgetCeiling_eq]
    split
    · rw [State.ceilingLowered_eq]
      obtain ⟨hcfg, hbounds, hmains, hsched, -⟩ := ((s.stored .budgetCeiling v).withLend
        (min (s.stored .budgetCeiling v).sched.lend (s.stored .budgetCeiling v).cfg.part.budgetCeiling)).lowerBudget_frame
        (s.stored .budgetCeiling v).cfg.part.budgetCeiling
      exact ⟨hcfg, hbounds, hmains, by rw [hsched]; rfl⟩
    · exact ⟨rfl, rfl, rfl, rfl⟩
  · have h := s.storeSetting_sameButCavs hid v
    exact ⟨h.cfg, h.bounds, h.mains, by rw [h.sched]; rfl⟩

/-- Every cavity abides by its laws, under the settings with the value stored. -/
theorem State.storeSetting_abides (id : SettingId) (v : Nat) (c : CavNo) :
    (s.cav c).Abides ((s.stored id v).env c) ((s.storeSetting id v).cav c) := by
  have alone (id : SettingId) : (s.cav c).Abides ((s.stored id v).env c) ((s.stored id v).cav c) := by
    rw [State.stored_cav]
    exact .refl _
  have all (id : SettingId) {f : Env → Cavity → Cavity} (h : ∀ e k, Cavity.Abides e k (f e k)) :
      (s.cav c).Abides ((s.stored id v).env c) (((s.stored id v).onCavs f).cav c) := by
    rw [State.onCavs_cav, State.stored_cav]
    exact h _ _
  cases id with
  | fittedCount =>
    obtain ⟨-, -, -, -, hcav⟩ := s.storeFitted_eq v
    show (s.cav c).Abides _ ((s.storeFitted v).cav c)
    rw [hcav]
    split
    · exact .refl _
    · exact .refit _
  | budgetCeiling =>
    rw [State.storeBudgetCeiling_eq]
    split
    · rw [State.ceilingLowered_eq]
      obtain ⟨-, -, -, -, habides⟩ := ((s.stored .budgetCeiling v).withLend
        (min (s.stored .budgetCeiling v).sched.lend (s.stored .budgetCeiling v).cfg.part.budgetCeiling)).lowerBudget_frame
        (s.stored .budgetCeiling v).cfg.part.budgetCeiling
      have h := habides c
      rw [State.withLend_cav, State.stored_cav] at h
      exact h
    · exact alone _
  | cleanCeiling =>
    simp only [State.storeSetting]
    split
    · exact all .cleanCeiling fun e k => .clampClean
    · exact alone .cleanCeiling
  | cookCeiling =>
    simp only [State.storeSetting]
    split
    · exact all .cookCeiling fun e k => .clampCook
    · exact alone .cookCeiling
  | unlockLevel =>
    simp only [State.storeSetting]
    split
    · exact all .unlockLevel fun e k => .unlockLowered
    · exact alone .unlockLevel
  | tripEnables d =>
    show (s.cav c).Abides _ (((s.stored (.tripEnables d) v).onCav d
      (Cavity.enablesWritten (s.cfg.page d))).cav c)
    by_cases hc : c = d
    · subst hc
      rw [State.onCav_cav_same, State.stored_cav]
      exact .decideAmong _
    · rw [State.onCav, State.cav_setCav_other _ _ _ hc]
      exact alone _
  | _ => exact alone _

/-! ### The window -/

theorem Cavity.Upholds.mapChannels {x : LimitPage} {k : Cavity} (f : Position → Channel → Channel) :
    Cavity.Upholds x k (k.mapChannels f) := .same rfl

/-- The work of a window start is an abiding change of every cavity. -/
theorem State.windowWork_abides (s : State) (c : CavNo) :
    (s.cav c).Abides (s.env c) ((s.onFitted Cavity.windowWork).cav c) := by
  rw [(s.onFitted_eq _ c).2]
  split
  · exact .windowWork
  · exact .refl _

/-- A window start keeps every cavity's laws, and tells no lock drive of the mains. -/
theorem State.windowStart_upholds (s : State) (c : CavNo) :
    Cavity.Upholds s.cfg.limits (s.cav c) (s.windowStart.cav c) ∧
      (s.windowStart.cav c).lock.mains = (s.cav c).lock.mains := by
  have hwork := s.windowWork_abides c
  have hcfg := (s.onFitted_sameButCavs Cavity.windowWork).cfg
  unfold State.windowStart
  dsimp only
  rw [State.beginSlot_cav, State.onCavs_cav]
  generalize s.onFitted Cavity.windowWork = u at *
  obtain ⟨-, -, hwcfg, -, hsame, -⟩ := u.placeAll_scheduling
  generalize u.takeVoltage.newWindow.rank.placeAll = w at *
  have hplaced : Cavity.Upholds s.cfg.limits (u.cav c) (w.cav c) ∧ (w.cav c).lock = (u.cav c).lock := by
    rw [hsame]
    exact ⟨.same rfl, rfl⟩
  have hstarve : (w.cav c).Abides (w.env c) ((w.cav c).moveStarve (w.env c)) := .moveStarve
  have hup := hstarve.toUpholds
  rw [show (w.env c).cfg = s.cfg from hwcfg.trans hcfg] at hup
  refine ⟨hwork.toUpholds.trans (hplaced.1.trans (hup.trans (.mapChannels _))), ?_⟩
  exact hstarve.mains.trans ((congrArg Lock.mains hplaced.2).trans hwork.mains)

/-- The lock drives told that mains has returned. -/
theorem State.returned_cav (s : State) (volts : Nat) (c : CavNo) : ∃ e l, e.cfg = s.cfg ∧ l.mains = true ∧
    Cavity.Abides e { s.cav c with lock := l } ((s.returned volts).cav c) := by
  have told (t : State) (hcfg : t.cfg = s.cfg) (hcav : ∀ d, t.cav d = s.cav d) : ∃ e l, e.cfg = s.cfg ∧
      l.mains = true ∧ Cavity.Abides e { s.cav c with lock := l } ((t.onCavs Cavity.mainsBack).cav c) := by
    rw [State.onCavs_cav, hcav]
    exact ⟨_, _, hcfg, Lock.mainsBack_mains, Cavity.lockChanged_abides _⟩
  unfold State.returned
  dsimp only
  split <;> exact told _ rfl (State.cav_cases rfl rfl rfl)

end CavitiesTurn

end Sys2Proof.Machine

namespace Sys2Proof.Machine

/-! ## The fan and mains laws (R75, R85 to R88, R121, R122, R125, R128) -/

section Turn
variable {s t : State}

/-- Start-up builds every cavity anew. -/
theorem State.startUp_cav (inp : StartInputs) (s : State) (c : CavNo) :
    ∃ b sw, (s.startUp inp).cav c = cavityAtStart b sw := by
  revert c
  exact State.cav_cases ⟨_, _, rfl⟩ ⟨_, _, rfl⟩ ⟨_, _, rfl⟩

/-- A cavity at start-up obeys its laws, whatever stood before. -/
theorem Cavity.upholds_cavityAtStart (x : LimitPage) (k : Cavity) (b : Bool) (sw : SwitchPositions) :
    Cavity.Upholds x k (cavityAtStart b sw) :=
  ⟨fun _ => Nat.zero_le _, fun _ => ⟨rfl, iff_of_true rfl rfl, nofun⟩, fun _ _ => ⟨Nat.zero_le _, nofun⟩⟩

/-- The mains back, beside what the lock drives make of it. -/
theorem State.returned_frame (s : State) (volts : Nat) :
    (s.returned volts).cfg = s.cfg ∧ (s.returned volts).bounds = s.bounds ∧
      (s.returned volts).sched = s.sched ∧ (s.returned volts).mains =
        { s.mains with ring := [min volts 300], present := true, firstReturn := false } := by
  unfold State.returned
  dsimp only
  split
  · have h := State.onCavs_sameButCavs { s with mains := { s.mains with
      ring := [min volts 300], present := true, firstReturn := false } } Cavity.mainsBack
    exact ⟨h.cfg, h.bounds, h.sched, h.mains⟩
  · have h := State.onCavs_sameButCavs (State.setPartEvent { s with mains := { s.mains with
      ring := [min volts 300], present := true, firstReturn := false } } .mainsReturn) Cavity.mainsBack
    exact ⟨h.cfg, h.bounds, h.sched, h.mains⟩

/-- The window of a return. -/
theorem State.mainsReturn_frame (s : State) (volts : Nat) :
    (s.mainsReturn volts).cfg = s.cfg ∧ (s.mainsReturn volts).bounds = s.bounds := by
  obtain ⟨hcfg, hbounds, -⟩ := s.returned_frame volts
  obtain ⟨⟨hcfg', hbounds', -⟩, -⟩ := (s.returned volts).windowStart_frame
  exact ⟨hcfg'.trans hcfg, hbounds'.trans hbounds⟩

theorem State.mainsReturn_upholds (s : State) (volts : Nat) (c : CavNo) :
    Cavity.Upholds s.cfg.limits (s.cav c) ((s.mainsReturn volts).cav c) ∧
      ((s.mainsReturn volts).cav c).lock.mains = true := by
  obtain ⟨e, l, he, hl, habides⟩ := s.returned_cav volts c
  obtain ⟨hup, hmains⟩ := (s.returned volts).windowStart_upholds c
  have htold : Cavity.Upholds s.cfg.limits (s.cav c) ((s.returned volts).cav c) := by
    have h := habides.toUpholds
    rw [he] at h
    exact Cavity.Upholds.trans (m := { s.cav c with lock := l }) (.same rfl) h
  rw [(s.returned_frame volts).1] at hup
  exact ⟨htold.trans hup, hmains.trans (habides.mains.trans hl)⟩

theorem State.crossingExpired_upholds (h : s.mains.present = true) (x : LimitPage) (c : CavNo) :
    Cavity.Upholds x (s.cav c) (s.crossingExpired.cav c) := by
  rw [State.dropout_cav h]
  exact .same rfl

/-- Every turn keeps what the laws ask of a cavity's demand, fan and setpoint. -/
theorem State.Turn.upholds (h : State.Turn s t) (c : CavNo) :
    Cavity.Upholds t.cfg.limits (s.cav c) (t.cav c) := by
  cases h with
  | within h =>
    rw [h.cfg]
    exact (h.cavs c).toUpholds
  | stores id v w r hd hidle =>
    rw [(s.storeSetting_frame id v).1]
    exact (s.storeSetting_abides id v c).toUpholds
  | lends watts =>
    obtain ⟨hcfg, -, -, -, habides⟩ := (s.withLend (min watts s.cfg.part.budgetCeiling)).lowerBudget_frame
      (min watts s.cfg.part.budgetCeiling)
    have h := (habides c).toUpholds
    rw [State.withLend_cav] at h
    rw [State.takeLend_eq, hcfg]
    exact h
  | window hp =>
    rw [s.windowStart_frame.1.1]
    exact (s.windowStart_upholds c).1
  | returns volts =>
    rw [(s.mainsReturn_frame volts).1]
    exact (s.mainsReturn_upholds volts c).1
  | slot hs hp hi =>
    rw [State.beginSlot_cav]
    exact .mapChannels _
  | dropout hp => exact State.crossingExpired_upholds hp _ c
  | starts inp =>
    obtain ⟨b, sw, hcav⟩ := s.startUp_cav inp c
    rw [hcav]
    exact Cavity.upholds_cavityAtStart _ _ b sw

/-- Every turn keeps the fan law. -/
theorem State.Turn.fanLaw (h : State.Turn s t) (hs : s.FanLaw) : t.FanLaw := by
  rw [State.fanLaw_iff] at hs ⊢
  exact fun c => (h.upholds c).fan (hs c)

/-! ### The window and the mains -/

/-- The ring keeps at most eight readings of at most 300 volts (R86). -/
theorem ringJoin_lawful {ring : List Nat} (hlen : ring.length ≤ 8) (hle : ∀ v ∈ ring, v ≤ 300) (volts : Nat) :
    (ringJoin ring volts).length ≤ 8 ∧ (∀ v ∈ ringJoin ring volts, v ≤ 300) ∧ ringJoin ring volts ≠ [] := by
  unfold ringJoin
  rw [show Config.ringSize = 8 from rfl, show Config.maxVolts = 300 from rfl]
  refine ⟨?_, fun v hv => ?_, by simp⟩
  · split <;> simp <;> omega
  · rw [List.mem_append, List.mem_singleton] at hv
    obtain hv | rfl := hv
    · split at hv
      · exact hle v hv
      · exact hle v (List.mem_of_mem_drop hv)
    · exact Nat.min_le_right _ _

/-- What the mains law reads stands as it was. -/
theorem State.MainsLaw.of_same (hs : s.MainsLaw) (hmains : t.mains = s.mains) (hslot : t.sched.slot = s.sched.slot)
    (htimer : t.sched.timer.status = s.sched.timer.status)
    (hlock : ∀ c, (t.cav c).lock.mains = (s.cav c).lock.mains) : t.MainsLaw := by
  unfold State.MainsLaw
  rw [hmains, hslot, htimer]
  simp only [hlock]
  exact hs

/-- A window start leaves the mains law, whatever window stood before. -/
theorem State.mainsLaw_windowStart (hp : s.mains.present = true) (hfirst : s.mains.firstReturn = false)
    (hring : s.mains.ring.length ≤ 8 ∧ (∀ v ∈ s.mains.ring, v ≤ 300) ∧ s.mains.ring ≠ [])
    (hlock : ∀ c, (s.cav c).lock.mains = true) : s.windowStart.MainsLaw := by
  obtain ⟨hlen, hle, hne⟩ := hring
  obtain ⟨-, -, hsched, hmains⟩ := s.windowStart_frame
  have hkept (c : CavNo) : (s.windowStart.cav c).lock.mains = true := (s.windowStart_upholds c).2.trans (hlock c)
  generalize s.windowStart = t at *
  unfold State.MainsLaw
  rw [hmains, hsched]
  simp only [hp, hkept]
  refine ⟨by simp, nofun, by simp, hlen, hle, fun _ => ⟨hne, hfirst⟩, fun _ => trivial⟩

/-- Every turn keeps the mains law. -/
theorem State.Turn.mainsLaw (h : State.Turn s t) (hs : s.MainsLaw) : t.MainsLaw := by
  have hkept := hs
  obtain ⟨hslot, htimer, hlt, hlen, hle, hpresent, hlock⟩ := hs
  cases h with
  | within h =>
    have hring : t.mains.ring.length ≤ 8 ∧ (∀ v ∈ t.mains.ring, v ≤ 300) ∧
        (s.mains.ring ≠ [] → t.mains.ring ≠ []) := by
      obtain hring | ⟨volts, hring⟩ := h.ring <;> rw [hring]
      · exact ⟨hlen, hle, fun h => h⟩
      · obtain ⟨hlen', hle', hne⟩ := ringJoin_lawful hlen hle volts
        exact ⟨hlen', hle', fun _ => hne⟩
    obtain ⟨hlen', hle', hne⟩ := hring
    have hslot' : t.sched.slot = s.sched.slot := by rw [h.sched]
    refine ⟨?_, ?_, ?_, hlen', hle', ?_, fun c => ?_⟩
    · rw [h.present, hslot']
      exact hslot
    · rw [h.present, h.timer]
      exact htimer
    · rw [hslot']
      exact hlt
    · rw [h.present, h.firstReturn]
      exact fun hp => ⟨hne (hpresent hp).1, (hpresent hp).2⟩
    · rw [(h.cavs c).mains, h.present]
      exact hlock c
  | stores id v w r hd hidle =>
    obtain ⟨-, -, hmains, hsched⟩ := s.storeSetting_frame id v
    exact hkept.of_same hmains (by rw [hsched]) (by rw [hsched]) fun c => (s.storeSetting_abides id v c).mains
  | lends watts =>
    obtain ⟨-, -, hmains, hsched, habides⟩ := (s.withLend (min watts s.cfg.part.budgetCeiling)).lowerBudget_frame
      (min watts s.cfg.part.budgetCeiling)
    rw [State.takeLend_eq]
    refine hkept.of_same hmains (by rw [hsched]; rfl) (by rw [hsched]; rfl) fun c => ?_
    rw [(habides c).mains, State.withLend_cav]
  | window hp =>
    obtain ⟨hne, hfirst⟩ := hpresent hp
    exact State.mainsLaw_windowStart hp hfirst ⟨hlen, hle, hne⟩ fun c => (hlock c).trans hp
  | returns volts =>
    obtain ⟨-, -, -, hmains⟩ := s.returned_frame volts
    rw [State.mainsReturn_eq]
    refine State.mainsLaw_windowStart (by rw [hmains]) (by rw [hmains]) (by rw [hmains]; simp) fun c => ?_
    obtain ⟨e, l, -, hl, habides⟩ := s.returned_cav volts c
    exact habides.mains.trans hl
  | slot hs hp hi =>
    obtain ⟨-, -, hmains, hsched⟩ := s.beginSlot_rest (_ + 1)
    unfold State.MainsLaw
    rw [hmains, hsched]
    refine ⟨by simp [hp], by simp [hp], by simpa using hi, hlen, hle, hpresent, fun c => ?_⟩
    rw [State.beginSlot_cav]
    exact hlock c
  | dropout hp =>
    obtain ⟨-, hmains, hsched, -⟩ := State.dropout_frame hp
    unfold State.MainsLaw
    rw [hmains, hsched]
    refine ⟨by simp, fun _ => rfl, nofun, hlen, hle, nofun, fun c => ?_⟩
    rw [State.dropout_cav hp]
    exact Lock.mainsGone_mains
  | starts inp =>
    refine ⟨iff_of_false nofun (fun h => h rfl), fun _ => rfl, nofun, Nat.zero_le _, nofun, nofun, fun c => ?_⟩
    obtain ⟨b, sw, hcav⟩ := s.startUp_cav inp c
    rw [hcav]
    rfl

/-- Settles O12: every turn of a step keeps both laws. -/
theorem fanAndMainsLawsAreKept : Obligations.FanAndMainsLawsAreKept := by
  unfold Obligations.FanAndMainsLawsAreKept
  intro s t hstep
  exact ⟨step_keeps_turns (fun _ _ h => h.fanLaw) hstep, step_keeps_turns (fun _ _ h => h.mainsLaw) hstep⟩

end Turn

end Sys2Proof.Machine

namespace Sys2Proof.Machine

/-! ## The budget law (R74, R75, R77, R79, R91 to R97) -/

/-- What the budget law asks of the loads and the channels of a window, for its slot, ranking and budget. -/
structure State.Budgeted (s : State) : Prop where
  loads : ∀ j ∈ remainingSlots s.sched.slot, s.slotLoad j ≤ s.sched.budget
  slot : ∀ k ∈ s.sched.slot, k < 30
  granted : ∀ n < 12, (s.chan n).granted ≤ (s.chan n).demand
  demand : ∀ n < 12, (s.chan n).demand ≤ 30
  ranked : ∀ n < 12, (s.chan n).holdsFrom s.sched.slot = true → n ∈ s.sched.ranking
  relay : ∀ n < 12, (s.chan n).relay = true → ∃ k ∈ s.sched.slot, (s.chan n).placements.contains k = true

section Budget
variable {s t u : State}

theorem mem_remainingSlots {slot : Option Nat} {j : Nat} :
    j ∈ remainingSlots slot ↔ ∃ k ∈ slot, k ≤ j ∧ j < 30 := by
  cases slot <;> simp [remainingSlots, Config.slots, and_comm]

/-! ### The power drawn -/

/-- A closed relay is of a channel placed in the current slot, so the power drawn is within its load. -/
theorem State.Budgeted.drawn_le (h : s.Budgeted) : s.drawn ≤ s.sched.budget := by
  have hrelay (n : Nat) (hn : n ∈ List.range 12) (hr : (s.chan n).relay = true) :
      ∃ k ∈ s.sched.slot, (s.chan n).placements.contains k = true := h.relay n (List.mem_range.1 hn) hr
  unfold State.drawn
  cases hslot : s.sched.slot with
  | none =>
    refine (List.sum_eq_zero fun x hx => ?_).trans_le (Nat.zero_le _)
    obtain ⟨n, hn, rfl⟩ := List.mem_map.1 hx
    rw [if_neg]
    intro hr
    obtain ⟨k, hk, -⟩ := hrelay n hn hr
    simp [hslot] at hk
  | some k =>
    have hk : k < 30 := h.slot k hslot
    refine le_trans ?_ (h.loads k (mem_remainingSlots.2 ⟨k, hslot, le_rfl, hk⟩))
    rw [State.slotLoad_eq_sum]
    refine List.sum_le_sum fun n hn => ?_
    split
    next hr =>
      obtain ⟨i, hi, hplaced⟩ := hrelay n hn hr
      obtain rfl : k = i := by simpa [hslot] using hi
      unfold Channel.loadIn
      rw [if_pos hplaced]
    next => exact Nat.zero_le _

/-- The budget law, part by part. -/
theorem State.budgetLaw_iff (s : State) : s.BudgetLaw ↔ s.Budgeted ∧
    s.sched.lend ≤ s.cfg.part.budgetCeiling ∧ s.sched.budget ≤ s.cfg.part.budgetCeiling ∧
    s.sched.ranking.Nodup ∧ (∀ n ∈ s.sched.ranking, n < 12) ∧ ∀ c, (s.cav c).cc.demand ≤ 30 := by
  constructor
  · rintro ⟨hloads, -, hlend, hbudget, hslot, hnodup, hlt, hchan, hdemand⟩
    refine ⟨⟨hloads, hslot, fun n hn => ?_, fun n hn => ?_, fun n hn => ?_, fun n hn => ?_⟩, hlend, hbudget,
      hnodup, hlt, hdemand⟩ <;> obtain ⟨h1, h2, h3, h4⟩ := hchan ⟨n, hn⟩ <;> assumption
  · rintro ⟨hb, hlend, hbudget, hnodup, hlt, hdemand⟩
    exact ⟨hb.loads, hb.drawn_le, hlend, hbudget, hb.slot, hnodup, hlt, fun n =>
      ⟨hb.granted n n.isLt, hb.demand n n.isLt, hb.ranked n n.isLt, hb.relay n n.isLt⟩, hdemand⟩

/-! ### Channels shed -/

section Channel
variable {slot : Option Nat} {ch ch' : Channel}

/-- A channel shed keeps its demand and its granted count. -/
theorem Channel.Yields.counts (h : ch.Yields slot ch') : ch'.granted = ch.granted ∧ ch'.demand = ch.demand := by
  obtain rfl | rfl := h
  · exact ⟨rfl, rfl⟩
  · unfold Channel.shedFrom
    split
    · split <;> exact ⟨rfl, rfl⟩
    · exact ⟨rfl, rfl⟩

theorem Channel.Yields.loadIn_le (h : ch.Yields slot ch') (j : Nat) : ch'.loadIn j ≤ ch.loadIn j := by
  obtain rfl | rfl := h
  · exact le_rfl
  · exact Channel.loadIn_shedFrom_le slot ch j

theorem Channel.Yields.holdsFrom (h : ch.Yields slot ch') (hh : ch'.holdsFrom slot = true) :
    ch.holdsFrom slot = true := by
  obtain rfl | rfl := h
  · exact hh
  · simp at hh

/-- A channel whose relay is still closed was not shed. -/
theorem Channel.Yields.relay (h : ch.Yields slot ch') (hr : ch'.relay = true) : ch' = ch := by
  obtain rfl | rfl := h
  · rfl
  · unfold Channel.shedFrom at hr ⊢
    split
    next k =>
      split
      next hp => simp [hp] at hr
      next => rfl
    next => rfl

end Channel

/-- Channels shed leave the window within its budget, or within a lowered one that the loads obey. -/
theorem State.Budgeted.yields (h : s.Budgeted) (hslot : t.sched.slot = s.sched.slot)
    (hranking : t.sched.ranking = s.sched.ranking)
    (hchan : ∀ n, (s.chan n).Yields s.sched.slot (t.chan n))
    (hloads : ∀ j ∈ remainingSlots s.sched.slot, t.slotLoad j ≤ t.sched.budget) : t.Budgeted := by
  refine ⟨by rw [hslot]; exact hloads, by rw [hslot]; exact h.slot, fun n hn => ?_, fun n hn => ?_,
    fun n hn hh => ?_, fun n hn hr => ?_⟩
  · obtain ⟨hg, hd⟩ := (hchan n).counts
    rw [hg, hd]
    exact h.granted n hn
  · rw [(hchan n).counts.2]
    exact h.demand n hn
  · rw [hranking]
    rw [hslot] at hh
    exact h.ranked n hn ((hchan n).holdsFrom hh)
  · have hsame := (hchan n).relay hr
    rw [hslot, hsame]
    exact h.relay n hn (hsame ▸ hr)

/-- Sheds raise no load. -/
theorem State.slotLoad_le (hchan : ∀ n, (s.chan n).Yields s.sched.slot (t.chan n)) (j : Nat) :
    t.slotLoad j ≤ s.slotLoad j := by
  rw [State.slotLoad_eq_sum, State.slotLoad_eq_sum]
  exact List.sum_le_sum fun n _ => (hchan n).loadIn_le j

/-- What abiding changes of the cavities make of the channels. -/
theorem State.chan_yields {slot : Option Nat} {x : CavNo → Env} (hx : ∀ c, (x c).slot = slot)
    (h : ∀ c, (s.cav c).Abides (x c) (t.cav c)) (n : Nat) : (s.chan n).Yields slot (t.chan n) := by
  rw [← hx (channelCav n)]
  exact (h _).channels _

theorem State.Within.budgetLaw (h : s.Within t) (hs : s.BudgetLaw) : t.BudgetLaw := by
  rw [State.budgetLaw_iff] at hs ⊢
  obtain ⟨hb, hlend, hbudget, hnodup, hlt, hdemand⟩ := hs
  have hchan (n : Nat) : (s.chan n).Yields s.sched.slot (t.chan n) :=
    State.chan_yields (x := s.env) (fun _ => rfl) h.cavs n
  have hsched := h.sched
  have hslot : t.sched.slot = s.sched.slot := by rw [hsched]
  have hranking : t.sched.ranking = s.sched.ranking := by rw [hsched]
  have hB : t.sched.budget = s.sched.budget := by rw [hsched]
  have hlend' : t.sched.lend = s.sched.lend := by rw [hsched]
  refine ⟨hb.yields hslot hranking hchan fun j hj => ?_, ?_, ?_, ?_, ?_, fun c => (h.cavs c).demand (hdemand c)⟩
  · rw [hB]
    exact (State.slotLoad_le hchan j).trans (hb.loads j hj)
  · rw [hlend', h.cfg]
    exact hlend
  · rw [hB, h.cfg]
    exact hbudget
  · rw [hranking]
    exact hnodup
  · rw [hranking]
    exact hlt

/-! ### A lowered budget -/

/-- The window within a lowered budget, with a lend and a ceiling that hold it (R94, R97). -/
theorem State.budgetLaw_lowerBudget (hs : s.BudgetLaw) (v lend : Nat)
    (hsched : u.sched = { s.sched with lend := lend }) (hcav : ∀ c, u.cav c = s.cav c)
    (hlend : lend ≤ u.cfg.part.budgetCeiling) (hv : min v s.sched.budget ≤ u.cfg.part.budgetCeiling) :
    (u.lowerBudget v).BudgetLaw := by
  obtain ⟨⟨hbut, -, hfalls⟩, -, -⟩ := State.lowerBudget_falls v lend hs hsched hcav
  obtain ⟨hcfg, -, -, hsched', habides⟩ := u.lowerBudget_frame v
  generalize u.lowerBudget v = t at *
  rw [State.budgetLaw_iff] at hs ⊢
  obtain ⟨hb, -, hbudget, hnodup, hlt, hdemand⟩ := hs
  have hchan (n : Nat) : (s.chan n).Yields s.sched.slot (t.chan n) := by
    have h := State.chan_yields (slot := u.sched.slot) (fun _ => rfl) habides n
    rw [hsched, State.chan, hcav] at h
    exact h
  rw [hsched] at hsched'
  have hloads (j : Nat) (hj : j ∈ remainingSlots s.sched.slot) : t.slotLoad j ≤ min v s.sched.budget := by
    have hle := (State.slotLoad_le hchan j).trans (hb.loads j hj)
    split at hfalls
    · obtain ⟨-, hwithin⟩ := hfalls
      refine le_min (hwithin j ?_) hle
      rw [hsched']
      exact hj
    · omega
  have hranking : t.sched.ranking = s.sched.ranking := by rw [hsched']
  refine ⟨hb.yields (by rw [hsched']) hranking hchan fun j hj => ?_, ?_, ?_, ?_, ?_, fun c => ?_⟩
  · rw [hsched']
    exact hloads j hj
  · rw [hsched', hcfg]
    exact hlend
  · rw [hsched', hcfg]
    exact hv
  · rw [hranking]
    exact hnodup
  · rw [hranking]
    exact hlt
  · refine (habides c).demand ?_
    rw [hcav]
    exact hdemand c

/-! ### A stored setting -/

/-- No setting but its own moves the budget ceiling. -/
theorem Settings.set_budgetCeiling (f : Settings) {id : SettingId} (hid : id ≠ .budgetCeiling) (v : Nat) :
    (f.set id v).part.budgetCeiling = f.part.budgetCeiling := by
  cases id <;> simp_all [Settings.set]

theorem State.budgetLaw_storeSetting (hs : s.BudgetLaw) (id : SettingId) (v : Nat) :
    (s.storeSetting id v).BudgetLaw := by
  have hs' := hs
  rw [State.budgetLaw_iff] at hs'
  obtain ⟨hb, hlend, hbudget, hnodup, hlt, hdemand⟩ := hs'
  by_cases hid : id = .budgetCeiling
  · subst hid
    have hceiling : (s.cfg.set .budgetCeiling v).part.budgetCeiling = v := rfl
    rw [State.storeBudgetCeiling_eq]
    split
    · rw [State.ceilingLowered_eq]
      exact State.budgetLaw_lowerBudget hs v (min s.sched.lend v)
        (u := (s.stored .budgetCeiling v).withLend (min s.sched.lend v)) rfl
        (fun c => by rw [State.withLend_cav, State.stored_cav]) (Nat.min_le_right _ _) (Nat.min_le_left _ _)
    next hge =>
      rw [State.budgetLaw_iff]
      have hchan (n : Nat) : (s.stored .budgetCeiling v).chan n = s.chan n := by
        rw [State.chan, State.stored_cav, State.chan]
      refine ⟨hb.yields rfl rfl (fun n => .inl (hchan n)) fun j hj => ?_, ?_, ?_, hnodup, hlt, fun c => ?_⟩
      · exact (State.slotLoad_le (fun n => .inl (hchan n)) j).trans (hb.loads j hj)
      · exact hlend.trans (not_lt.1 hge)
      · exact hbudget.trans (not_lt.1 hge)
      · rw [State.stored_cav]
        exact hdemand c
  · have hsame := s.storeSetting_sameButCavs hid v
    have habides (c : CavNo) := s.storeSetting_abides id v c
    have hsched : (s.storeSetting id v).sched = s.sched := hsame.sched
    have hceiling : (s.storeSetting id v).cfg.part.budgetCeiling = s.cfg.part.budgetCeiling := by
      rw [hsame.cfg]
      exact s.cfg.set_budgetCeiling hid v
    generalize s.storeSetting id v = t at *
    have hchan (n : Nat) : (s.chan n).Yields s.sched.slot (t.chan n) :=
      State.chan_yields (x := (s.stored id v).env) (fun _ => rfl) habides n
    rw [State.budgetLaw_iff]
    refine ⟨hb.yields (by rw [hsched]) (by rw [hsched]) hchan fun j hj => ?_, ?_, ?_, ?_, ?_,
      fun c => (habides c).demand (hdemand c)⟩
    · rw [hsched]
      exact (State.slotLoad_le hchan j).trans (hb.loads j hj)
    · rw [hsched, hceiling]
      exact hlend
    · rw [hsched, hceiling]
      exact hbudget
    · rw [hsched]
      exact hnodup
    · rw [hsched]
      exact hlt

/-! ### Slots and dropouts -/

/-- A slot begins: the slots that remain remained before, and the relays follow the placements. -/
theorem State.budgetLaw_beginSlot {i j : Nat} (hs : s.BudgetLaw) (hi : s.sched.slot = some i) (hij : i ≤ j)
    (hj : j < 30) : (s.beginSlot j).BudgetLaw := by
  rw [State.budgetLaw_iff] at hs ⊢
  obtain ⟨hb, hlend, hbudget, hnodup, hlt, hdemand⟩ := hs
  obtain ⟨⟨hcfg, -⟩, -, -, hsched⟩ := s.beginSlot_rest j
  have hcav (c : CavNo) := s.beginSlot_cav j c
  have hchan (n : Nat) : (s.beginSlot j).chan n = (s.chan n).setRelay j := by
    rw [State.chan, hcav, Cavity.channel_mapChannels]
    rfl
  generalize s.beginSlot j = t at *
  have hload (k : Nat) : t.slotLoad k = s.slotLoad k := by
    rw [State.slotLoad_eq_sum, State.slotLoad_eq_sum]
    exact congrArg List.sum (List.map_congr_left fun n _ => by rw [hchan]; rfl)
  rw [hsched, hcfg]
  refine ⟨⟨fun k hk => ?_, ?_, fun n hn => ?_, fun n hn => ?_, fun n hn hh => ?_, fun n hn hr => ?_⟩, hlend,
    hbudget, hnodup, hlt, fun c => ?_⟩
  · rw [hsched] at hk ⊢
    rw [hload]
    obtain ⟨k', hk', hle, hk30⟩ := mem_remainingSlots.1 hk
    obtain rfl : j = k' := by simpa using hk'
    exact hb.loads k (mem_remainingSlots.2 ⟨i, hi, hij.trans hle, hk30⟩)
  · rw [hsched]
    simpa using hj
  · rw [hchan]
    exact hb.granted n hn
  · rw [hchan]
    exact hb.demand n hn
  · rw [hsched]
    refine hb.ranked n hn ?_
    rw [hsched, hchan] at hh
    rw [hi]
    obtain ⟨k, hk, hle⟩ := List.any_eq_true.1 hh
    exact List.any_eq_true.2 ⟨k, hk, by simp only [decide_eq_true_eq] at hle ⊢; omega⟩
  · rw [hchan] at hr ⊢
    rw [hsched]
    exact ⟨j, rfl, hr⟩
  · rw [hcav]
    exact hdemand c

/-- A dropout leaves no slot and no closed relay. -/
theorem State.budgetLaw_dropout (hs : s.BudgetLaw) (hp : s.mains.present = true) :
    s.crossingExpired.BudgetLaw := by
  rw [State.budgetLaw_iff] at hs ⊢
  obtain ⟨hb, hlend, hbudget, hnodup, hlt, hdemand⟩ := hs
  obtain ⟨⟨hcfg, -⟩, -, hsched, -⟩ := State.dropout_frame hp
  have hcav (c : CavNo) := State.dropout_cav hp c
  have hchan (n : Nat) : s.crossingExpired.chan n = { (s.chan n).shedFrom s.sched.slot with relay := false } := by
    rw [State.chan, hcav]
    exact Cavity.abandonWindow_channel ..
  have hcounts (n : Nat) := Channel.Yields.counts (ch := s.chan n) (slot := s.sched.slot) (.inr rfl)
  generalize s.crossingExpired = t at *
  rw [hsched, hcfg]
  refine ⟨⟨?_, ?_, fun n hn => ?_, fun n hn => ?_, fun n hn hh => ?_, fun n hn hr => ?_⟩, hlend, hbudget, hnodup,
    hlt, fun c => ?_⟩
  · rw [hsched]
    exact nofun
  · rw [hsched]
    exact nofun
  · rw [hchan]
    exact (hcounts n).1.trans_le ((hb.granted n hn).trans_eq (hcounts n).2.symm)
  · rw [hchan]
    exact (hcounts n).2.trans_le (hb.demand n hn)
  · rw [hsched] at hh
    cases hh
  · rw [hchan] at hr
    cases hr
  · rw [hcav]
    exact hdemand c

/-! ### A new window -/

/-- Values taken one after another within a bound stay within it together. -/
theorem sum_le_of_taken {f : Nat → Nat} {bound : Nat} {ns : List Nat} (hd : ns.Nodup)
    (h : ∀ n ∈ ns, f n = 0 ∨ ((ns.takeWhile (· ≠ n)).map f).sum + f n ≤ bound) : (ns.map f).sum ≤ bound := by
  induction ns using List.reverseRecOn with
  | nil => exact Nat.zero_le _
  | append_singleton ns n ih =>
    rw [List.nodup_append] at hd
    have hno : n ∉ ns := fun hm => hd.2.2 n hm n (by simp) rfl
    rw [List.map_append, List.sum_append]
    obtain hzero | hle := h n (by simp)
    · have hrest := ih hd.1 fun m hm => by
        have hm' := h m (by simp [hm])
        rwa [takeWhile_append_of_mem hm] at hm'
      simpa [hzero] using hrest
    · rw [takeWhile_append_self hno] at hle
      simpa using hle

/-- What a channel of a cavity wants is within the window (R83, R84). -/
theorem State.channelWants_le (h : ∀ c, (s.cav c).cc.demand ≤ 30) (n : Nat) : s.channelWants n ≤ 30 := by
  have := h (channelCav n)
  unfold State.channelWants
  dsimp only
  split_ifs <;> omega

theorem State.slotsFor_length_le (ns : List Nat) (n : Nat) : (s.slotsFor ns n).length ≤ (s.chan n).demand := by
  unfold State.slotsFor
  rw [List.length_take]
  exact Nat.min_le_left _ _

theorem State.le_of_mem_slotsFor {ns : List Nat} {n j : Nat} (h : j ∈ s.slotsFor ns n) :
    s.loadBefore ns n j + (s.chan n).power ≤ s.sched.budget := by
  unfold State.slotsFor at h
  simpa using (List.mem_filter.1 (List.mem_of_mem_take h)).2

/-- The schedule of a new window, with no relay closed yet, is within its budget. -/
theorem State.budgeted_placeAll (hdemand : ∀ c, (u.cav c).cc.demand ≤ 30) :
    u.takeVoltage.newWindow.rank.placeAll.Budgeted := by
  have hplaced (n : Nat) (hn : n < 12) := u.placeAll_chan hn
  dsimp only at hplaced
  have hsched : u.takeVoltage.newWindow.rank.placeAll.sched =
      { u.takeVoltage.newWindow.sched with ranking := u.takeVoltage.newWindow.rankingOf } := by
    rw [(State.placeAll_sameButCavs _).sched]
    simp only [State.rank, State.newRanking_eq]
  obtain ⟨-, -, hbsched, -⟩ := u.newWindow_frame
  have hbchan (n : Nat) := u.newWindow_chan n
  have hnodup := u.takeVoltage.newWindow.rankingOf_nodup
  have hlt (n : Nat) := u.takeVoltage.newWindow.rankingOf_lt (n := n)
  generalize u.takeVoltage.newWindow.rank.placeAll = w at *
  generalize u.takeVoltage.newWindow.rankingOf = ns at *
  generalize u.takeVoltage.newWindow = b at *
  have hslot : w.sched.slot = some 0 := by rw [hsched, hbsched]
  have hrelay (n : Nat) (hn : n < 12) : (w.chan n).relay = false := by
    rw [(hplaced n hn).1, hbchan]
  have hwants (n : Nat) (hn : n < 12) : (w.chan n).demand = u.channelWants n := by
    rw [(hplaced n hn).1, hbchan]
  have hempty (n : Nat) (hn : n < 12) (hno : n ∉ ns) : (w.chan n).placements = [] := by
    rw [(hplaced n hn).2, if_neg fun h => hno h.1]
  refine ⟨fun j _ => ?_, by rw [hslot]; simp, fun n hn => ?_, fun n hn => ?_, fun n hn hh => ?_,
    fun n hn hr => ?_⟩
  · rw [State.slotLoad_eq_sum, ← sum_of_others_zero hnodup hlt fun n hn hno => by
      simp [Channel.loadIn, hempty n hn hno]]
    refine sum_le_of_taken hnodup fun n hn => ?_
    by_cases hmem : (w.chan n).placements.contains j = true
    · right
      have hj : j ∈ w.slotsFor ns n := by
        have hmem' : j ∈ (w.chan n).placements := by simpa using hmem
        rw [(hplaced n (hlt n hn)).2] at hmem'
        split at hmem'
        · exact hmem'
        · cases hmem'
      have hle := State.le_of_mem_slotsFor hj
      rw [show (w.chan n).loadIn j = (w.chan n).power from if_pos hmem]
      exact hle
    · exact .inl (if_neg hmem)
  · have hgranted : (w.chan n).granted = (w.chan n).placements.length := by rw [(hplaced n hn).1]
    rw [hgranted, (hplaced n hn).2]
    split
    · exact State.slotsFor_length_le ns n
    · exact Nat.zero_le _
  · rw [hwants n hn]
    exact State.channelWants_le hdemand n
  · rw [hsched]
    by_contra hno
    rw [hslot, Channel.holdsFrom, hempty n hn hno] at hh
    cases hh
  · rw [hrelay n hn] at hr
    cases hr

/-- A window start builds a lawful window from any lend within the ceiling and any lawful demand. -/
theorem State.budgetLaw_windowStart (hlend : s.sched.lend ≤ s.cfg.part.budgetCeiling)
    (hdemand : ∀ c, (s.cav c).cc.demand ≤ 30) : s.windowStart.BudgetLaw := by
  have hdemand' (c : CavNo) : ((s.onFitted Cavity.windowWork).cav c).cc.demand ≤ 30 :=
    (s.windowWork_abides c).demand (hdemand c)
  have hwork := s.onFitted_sameButCavs Cavity.windowWork
  unfold State.windowStart
  dsimp only
  generalize s.onFitted Cavity.windowWork = u at *
  have hbudgeted := State.budgeted_placeAll hdemand'
  obtain ⟨-, -, hcfg, -, hsame, -⟩ := u.placeAll_scheduling
  have hsched : u.takeVoltage.newWindow.rank.placeAll.sched =
      { u.sched with vw := u.mains.voltage, budget := u.sched.lend, slot := some 0,
                     ranking := u.takeVoltage.newWindow.rankingOf } := by
    rw [(State.placeAll_sameButCavs _).sched]
    simp only [State.rank, State.newRanking_eq, u.newWindow_frame.2.2.1]
  have hnodup := u.takeVoltage.newWindow.rankingOf_nodup
  have hlt (n : Nat) := u.takeVoltage.newWindow.rankingOf_lt (n := n)
  generalize u.takeVoltage.newWindow.rank.placeAll = w at *
  have hw : w.BudgetLaw := by
    rw [State.budgetLaw_iff, hsched, hcfg, hwork.cfg, hwork.sched]
    refine ⟨hbudgeted, hlend, hlend, hnodup, hlt, fun c => ?_⟩
    rw [hsame]
    exact hdemand' c
  have hstarve := w.onCavs_sameButCavs Cavity.moveStarve
  have hwithin : w.Within (w.onCavs Cavity.moveStarve) := by
    refine ⟨hstarve.cfg, hstarve.bounds, by rw [hstarve.sched], by rw [hstarve.sched], by rw [hstarve.mains],
      by rw [hstarve.mains], .inl (by rw [hstarve.mains]), fun c => ?_⟩
    rw [State.onCavs_cav]
    exact .moveStarve
  refine State.budgetLaw_beginSlot (hwithin.budgetLaw hw) ?_ le_rfl (by decide)
  rw [hstarve.sched, hsched]

/-! ### Every turn -/

/-- Start-up leaves no window, no demand and no lend above the ceiling. -/
theorem State.budgetLaw_startUp (s : State) (inp : StartInputs) : (s.startUp inp).BudgetLaw := by
  have hchan (n : Nat) : (s.startUp inp).chan n = {} := by
    obtain ⟨b, sw, hcav⟩ := s.startUp_cav inp (channelCav n)
    rw [State.chan, hcav]
    cases channelPos n <;> rfl
  rw [State.budgetLaw_iff]
  refine ⟨⟨nofun, nofun, fun n _ => ?_, fun n _ => ?_, fun n _ hh => ?_, fun n _ hr => ?_⟩, le_rfl, le_rfl,
    List.nodup_nil, nofun, fun c => ?_⟩
  · rw [hchan]
  · rw [hchan]
    exact Nat.zero_le _
  · cases hh
  · rw [hchan] at hr
    cases hr
  · obtain ⟨b, sw, hcav⟩ := s.startUp_cav inp c
    rw [hcav]
    exact Nat.zero_le _

/-- Every turn keeps the budget law. -/
theorem State.Turn.budgetLaw (h : State.Turn s t) (hs : s.BudgetLaw) : t.BudgetLaw := by
  obtain ⟨-, hlend, -, -, -, hdemand⟩ := s.budgetLaw_iff.1 hs
  cases h with
  | within h => exact h.budgetLaw hs
  | stores id v w r hd hidle => exact State.budgetLaw_storeSetting hs id v
  | lends watts =>
    rw [State.takeLend_eq]
    exact State.budgetLaw_lowerBudget hs _ _ rfl (fun c => s.withLend_cav _ c) (Nat.min_le_right _ _)
      ((Nat.min_le_left _ _).trans (Nat.min_le_right _ _))
  | window hp => exact State.budgetLaw_windowStart hlend hdemand
  | returns volts =>
    obtain ⟨hcfg, -, hsched, -⟩ := s.returned_frame volts
    rw [State.mainsReturn_eq]
    refine State.budgetLaw_windowStart (by rw [hsched, hcfg]; exact hlend) fun c => ?_
    obtain ⟨e, l, -, -, habides⟩ := s.returned_cav volts c
    exact habides.demand (hdemand c)
  | slot hi hp hlt => exact State.budgetLaw_beginSlot hs hi (Nat.le_succ _) hlt
  | dropout hp => exact State.budgetLaw_dropout hs hp
  | starts inp => exact s.budgetLaw_startUp inp

/-- Settles O8: every turn of a step keeps the law. -/
theorem budgetLawIsKept : Obligations.BudgetLawIsKept := by
  unfold Obligations.BudgetLawIsKept
  exact fun s t hstep => step_keeps_turns (fun _ _ h => h.budgetLaw) hstep

end Budget

end Sys2Proof.Machine

namespace Sys2Proof.Machine

/-! ## The settings law (R160, R163, R164, R169) -/

/-- Every setting within its range, and the pairs of R163 in order. -/
structure Settings.Ranged (f : Settings) : Prop where
  admits : ∀ id : SettingId, id.admits (f.get id) = true
  mains : f.part.mainsLow < f.part.mainsHigh
  door : f.limits.doorWarn < f.limits.doorTrip
  fan : ∀ c, (f.page c).fanOff < (f.page c).fanOn

theorem State.settingsLaw_iff (s : State) : s.SettingsLaw ↔ s.cfg.Ranged ∧
    ∀ id : SettingId, ∀ d ∈ id.protection, d.onSafeSide (s.cfg.get id) (s.bounds.get id) = true ∧
      id.admits (s.bounds.get id) = true :=
  ⟨fun ⟨hall, hmains, hdoor, hfan⟩ => ⟨⟨fun id => (hall id).1, hmains, hdoor, hfan⟩, fun id => (hall id).2⟩,
    fun ⟨⟨hadmits, hmains, hdoor, hfan⟩, hbounds⟩ =>
      ⟨fun id => ⟨hadmits id, hbounds id⟩, hmains, hdoor, hfan⟩⟩

section Settings
variable {f : Settings} {id : SettingId} {v : Nat} {w : Word16}

/-! ### A value stored -/

theorem Settings.setRatings_page (f : Settings) (c d : CavNo) (r : Ratings) :
    (f.setRatings c r).page d = f.page d := by
  fin_cases c <;> fin_cases d <;> rfl

theorem Settings.page_withPart (f : Settings) (p : PartPage) (c : CavNo) : ({ f with part := p } : Settings).page c =
    f.page c := State.cav_cases (P := fun c => ({ f with part := p } : Settings).page c = f.page c) rfl rfl rfl c

theorem Settings.page_withLimits (f : Settings) (x : LimitPage) (c : CavNo) :
    ({ f with limits := x } : Settings).page c = f.page c :=
  State.cav_cases (P := fun c => ({ f with limits := x } : Settings).page c = f.page c) rfl rfl rfl c

/-- A stored value leaves every other setting as it was. -/
theorem Settings.get_set_ne (f : Settings) {id id' : SettingId} (hne : id ≠ id') (v : Nat) :
    (f.set id v).get id' = f.get id' := by
  cases id' with
  | rating c p => exact f.rating_set_other hne v
  | gain c | rampBand c | soakBand c | tripEnables c | attnMask c | fanOn c | fanOff c =>
    cases id with
    | rating d p =>
      simp only [Settings.set, Settings.get, Settings.setRatings_page]
    | gain d | rampBand d | soakBand d | tripEnables d | attnMask d | fanOn d | fanOff d =>
      simp only [Settings.set, Settings.get, Settings.page_setPage]
      by_cases hc : c = d <;> simp_all
    | _ => simp only [Settings.set, Settings.get, Settings.page_withPart, Settings.page_withLimits]
  | _ => cases id <;> simp_all [Settings.set, Settings.get]

/-- Two settings in order stay so where a value stored at one of them keeps to the other. -/
theorem Settings.set_lt {a b : SettingId} (hab : a ≠ b) (h : f.get a < f.get b) (ha : id = a → v < f.get b)
    (hb : id = b → f.get a < v) : (f.set id v).get a < (f.set id v).get b := by
  by_cases hida : id = a
  · subst hida
    rw [Settings.get_set_same, f.get_set_ne hab]
    exact ha rfl
  by_cases hidb : id = b
  · subst hidb
    rw [Settings.get_set_same, f.get_set_ne hida]
    exact hb rfl
  rw [f.get_set_ne hida, f.get_set_ne hidb]
  exact h

/-- A value that its setting takes, stored where the cross-field order holds. -/
theorem Settings.Ranged.set (hf : f.Ranged) (hv : id.admits v = true) (ho : f.orderHolds id v = true) :
    (f.set id v).Ranged where
  admits id' := by
    by_cases hid : id = id'
    · subst hid
      rwa [Settings.get_set_same]
    · rw [f.get_set_ne hid]
      exact hf.admits id'
  mains := Settings.set_lt (f := f) (a := .mainsLow) (b := .mainsHigh) nofun hf.mains
    (fun h => by subst h; exact of_decide_eq_true ho)
    (fun h => by subst h; exact of_decide_eq_true ho)
  door := Settings.set_lt (f := f) (a := .doorWarn) (b := .doorTrip) nofun hf.door
    (fun h => by subst h; exact of_decide_eq_true ho)
    (fun h => by subst h; exact of_decide_eq_true ho)
  fan c := Settings.set_lt (f := f) (a := .fanOff c) (b := .fanOn c) nofun (hf.fan c)
    (fun h => by subst h; exact of_decide_eq_true ho)
    (fun h => by subst h; exact of_decide_eq_true ho)

/-- The default settings. -/
theorem Settings.ranged_default : ({} : Settings).Ranged where
  admits id := by
    cases id with
    | rating c p => exact State.cav_cases (P := fun c => (SettingId.rating c p).admits
        ((({} : Settings).ratings c).at p) = true) (by cases p <;> rfl) (by cases p <;> rfl) (by cases p <;> rfl) c
    | gain c | rampBand c | soakBand c | tripEnables c | attnMask c | fanOn c | fanOff c =>
      have hpage : ({} : Settings).page c = {} :=
        State.cav_cases (P := fun c => ({} : Settings).page c = {}) rfl rfl rfl c
      simp only [Settings.get, hpage]
      rfl
    | _ => rfl
  mains := by decide
  door := by decide
  fan := by decide

/-! ### A value decided -/

/-- Only numbers are protected. -/
theorem SettingId.protection_eq_none (h : ∀ lo hi, id.shape ≠ .number lo hi) : id.protection = none := by
  cases id with
  | clearMode | partMask | tripEnables c | attnMask c => rfl
  | _ => exact absurd rfl (h _ _)

/-- Only numbers have a cross-field order. -/
theorem Settings.orderHolds_choice (f : Settings) (h : ∀ lo hi, id.shape ≠ .number lo hi) (v : Nat) :
    f.orderHolds id v = true := by
  rw [f.orderHolds_eq, (f.unsafer_choice h v).2]
  rfl

/-- A number as it is held is in its setting's range and on the safe side of a bound in range (R163). -/
theorem State.heldValue_lawful {s : State} {lo hi : Nat} (hs : id.shape = .number lo hi)
    (hb : ∀ d ∈ id.protection, id.admits (s.bounds.get id) = true) : id.admits (s.heldValue id w) = true ∧
      ∀ d ∈ id.protection, d.onSafeSide (s.heldValue id w) (s.bounds.get id) = true := by
  have hle := SettingId.shape_le hs
  simp only [SettingId.admits, hs, decide_eq_true_eq] at hb ⊢
  unfold State.heldValue
  rw [hs]
  dsimp only
  cases hp : id.protection with
  | none =>
    dsimp only
    exact ⟨by omega, nofun⟩
  | some d =>
    have hbound := hb d hp
    cases d with
    | lower =>
      dsimp only
      exact ⟨by omega, fun d hd => Option.some.inj hd ▸ decide_eq_true (Nat.min_le_right _ _)⟩
    | higher =>
      dsimp only
      exact ⟨by omega, fun d hd => Option.some.inj hd ▸ decide_eq_true (Nat.le_max_right _ _)⟩

/-- A value that a link write stores (R163): one that its setting takes, in order, and on the safe side of a
bound that its setting takes. -/
theorem State.decideValue_store {s : State} {r : Result}
    (hb : ∀ d ∈ id.protection, id.admits (s.bounds.get id) = true)
    (h : decideValue s.cfg s.bounds id w = .store v r) : id.admits v = true ∧ s.cfg.orderHolds id v = true ∧
      ∀ d ∈ id.protection, d.onSafeSide v (s.bounds.get id) = true := by
  have choice (hno : ∀ lo hi, id.shape ≠ .number lo hi) (hv : id.admits v = true) : id.admits v = true ∧
      s.cfg.orderHolds id v = true ∧ ∀ d ∈ id.protection, d.onSafeSide v (s.bounds.get id) = true := by
    rw [SettingId.protection_eq_none hno]
    exact ⟨hv, s.cfg.orderHolds_choice hno v, nofun⟩
  cases hs : id.shape with
  | mode =>
    refine choice (by simp [hs]) ?_
    unfold decideValue at h
    rw [hs] at h
    dsimp only at h
    split at h
    next hle =>
      obtain ⟨rfl, -⟩ := Decision.store.inj h
      simpa only [SettingId.admits, hs] using decide_eq_true hle
    next => cases h
  | bits allowed =>
    refine choice (by simp [hs]) ?_
    unfold decideValue at h
    rw [hs] at h
    dsimp only at h
    split at h
    next hin =>
      obtain ⟨rfl, -⟩ := Decision.store.inj h
      simpa only [SettingId.admits, hs] using hin
    next => cases h
  | number lo hi =>
    obtain ⟨hadmits, hsafe⟩ := State.heldValue_lawful (w := w) hs hb
    rw [State.decideValue_number hs] at h
    split at h
    next ho =>
      obtain ⟨rfl, -⟩ := Decision.store.inj h
      exact ⟨hadmits, ho, hsafe⟩
    next => cases h

/-! ### Replay -/

/-- A word held as replay holds it is one that its setting takes (R169). -/
theorem SettingId.admits_replayed (id : SettingId) (w : Word16) : id.admits (id.replayed w) = true := by
  unfold SettingId.admits SettingId.replayed
  cases hs : id.shape with
  | mode =>
    dsimp only
    split <;> rfl
  | bits allowed =>
    dsimp only
    unfold withinBits
    rw [beq_iff_eq, Nat.and_assoc, Nat.and_self]
  | number lo hi =>
    have hle := SettingId.shape_le hs
    dsimp only
    rw [decide_eq_true_eq]
    omega

variable {factory tighten : Bool} {out o : Replayed} {page idx : Nat} {cur : Option (Nat × Nat)} {bs : List Byte}
  {ok : Bool}

/-- One value of a patch. -/
theorem Replayed.wrote_ranged (hw : out.wrote factory tighten page idx w = some o) (h : out.cfg.Ranged) :
    o.cfg.Ranged := by
  cases hid : settingAddr page idx with
  | some id =>
    rw [Replayed.wrote_setting hid] at hw
    split at hw
    next =>
      cases hw
      exact h
    next =>
      split at hw
      next => cases hw
      next hbroken =>
        cases hw
        refine h.set (id.admits_replayed w) ?_
        rw [Settings.orderHolds_eq]
        simpa using hbroken
  | none =>
    by_cases hs : 8 ≤ page ∧ page ≤ 15 ∧ idx ≤ 63
    · rw [Replayed.wrote_segment hid hs] at hw
      cases hw
      exact h
    · rw [Replayed.wrote_undefined hid hs] at hw
      cases hw

theorem valuesWritten_ranged (page idx : Nat) (ws : List Word16) (out : Replayed) (h : out.cfg.Ranged) :
    (valuesWritten factory tighten page idx ws out).1.cfg.Ranged := by
  induction ws generalizing idx out with
  | nil => exact h
  | cons w ws ih =>
    unfold valuesWritten
    split
    next out' hw => exact ih (idx + 1) out' (Replayed.wrote_ranged hw h)
    next => exact h

/-- A whole patch. -/
theorem PatchRuns.ranged (hruns : PatchRuns factory cur tighten out bs o ok) (h : out.cfg.Ranged) : o.cfg.Ranged := by
  induction hruns with
  | toSet _ _ _ _ _ _ _ ih | toTighten _ _ _ _ _ _ _ ih | moves _ _ _ _ _ _ _ _ _ _ ih
  | skips _ _ _ _ _ _ _ _ _ _ _ ih => exact ih h
  | values p i m out out' ws bs o ok _ _ hw _ ih =>
    have hws := valuesWritten_ranged (factory := factory) (tighten := m) p i ws out h
    rw [hw] at hws
    exact ih hws
  | stopped p i m out out' ws bs _ _ hw =>
    have hws := valuesWritten_ranged (factory := factory) (tighten := m) p i ws out h
    rwa [hw] at hws
  | _ => exact h

/-- The whole replay, from the defaults. -/
theorem Memory.replay_ranged (m : Memory) (count : Nat) : (m.replay count).1.cfg.Ranged := by
  have hall (n : Nat) : (m.replayedTo count n).1.cfg.Ranged := by
    induction n with
    | zero => exact Settings.ranged_default
    | succ n ih =>
      rw [Memory.replayedTo_succ]
      by_cases hs : m.sound count n
      · obtain ⟨o, ok, hruns⟩ := m.exists_patchRuns n (m.replayedTo count n).1
        rw [Memory.replayEntry_sound hs hruns]
        exact hruns.ranged ih
      · rw [Memory.replayEntry_skipped hs]
        exact ih
  exact hall count

end Settings

/-! ## The setpoint law (R78, R165) -/

section Turn
variable {s t : State}

/-- The cook ceiling is within the clean ceiling (R160). -/
theorem Settings.Ranged.cook_le_clean {f : Settings} (h : f.Ranged) :
    f.limits.cookCeiling ≤ f.limits.cleanCeiling := by
  have hcook : f.limits.cookCeiling ≤ 3000 := by
    have := h.admits .cookCeiling
    simp only [SettingId.admits, SettingId.shape, decide_eq_true_eq] at this
    exact this.2
  have hclean : 3000 ≤ f.limits.cleanCeiling := by
    have := h.admits .cleanCeiling
    simp only [SettingId.admits, SettingId.shape, decide_eq_true_eq] at this
    exact this.1
  exact hcook.trans hclean

/-- Every turn keeps the settings law. -/
theorem State.Turn.settingsLaw (h : State.Turn s t) (hs : s.SettingsLaw) : t.SettingsLaw := by
  have hkept (hcfg : t.cfg = s.cfg) (hbounds : t.bounds = s.bounds) : t.SettingsLaw := by
    rw [State.settingsLaw_iff, hcfg, hbounds, ← State.settingsLaw_iff]
    exact hs
  cases h with
  | within h => exact hkept h.cfg h.bounds
  | stores id v w r hd hidle =>
    rw [State.settingsLaw_iff] at hs ⊢
    obtain ⟨hranged, hbounds⟩ := hs
    obtain ⟨hcfg, hsame, -⟩ := s.storeSetting_frame id v
    obtain ⟨hadmits, horder, hsafe⟩ := State.decideValue_store (fun d hp => (hbounds id d hp).2) hd
    rw [hcfg, hsame]
    refine ⟨hranged.set hadmits horder, fun id' d hp => ?_⟩
    by_cases hid : id = id'
    · subst hid
      rw [Settings.get_set_same]
      exact ⟨hsafe d hp, (hbounds id d hp).2⟩
    · rw [s.cfg.get_set_ne hid]
      exact hbounds id' d hp
  | lends watts =>
    obtain ⟨⟨hcfg, hbounds, -⟩, -⟩ := s.takeLend_frame watts
    exact hkept hcfg hbounds
  | window hp =>
    obtain ⟨⟨hcfg, hbounds, -⟩, -⟩ := s.windowStart_frame
    exact hkept hcfg hbounds
  | returns volts => exact hkept (s.mainsReturn_frame volts).1 (s.mainsReturn_frame volts).2
  | slot hi hp hlt =>
    obtain ⟨⟨hcfg, hbounds, -⟩, -⟩ := s.beginSlot_rest (_ + 1)
    exact hkept hcfg hbounds
  | dropout hp =>
    obtain ⟨⟨hcfg, hbounds, -⟩, -⟩ := State.dropout_frame hp
    exact hkept hcfg hbounds
  | starts inp =>
    have hranged : (s.startUp inp).cfg.Ranged := s.store.memory.replay_ranged s.store.memory.readIndex.count
    have hbounds : (s.startUp inp).bounds = (s.startUp inp).cfg.bounds := rfl
    rw [State.settingsLaw_iff, hbounds]
    refine ⟨hranged, fun id d hp => ?_⟩
    rw [Settings.bounds_get _ (by simp [Option.mem_def.1 hp])]
    exact ⟨d.onSafeSide_refl _, hranged.admits id⟩

/-- A setpoint within the ceilings is within higher ones. -/
theorem Cavity.SetpointLawful.mono {x y : LimitPage} {k : Cavity} (h : k.SetpointLawful x)
    (hclean : x.cleanCeiling ≤ y.cleanCeiling) (hcook : x.cookCeiling ≤ y.cookCeiling) : k.SetpointLawful y := by
  obtain ⟨hspeff, hcooking⟩ := h
  refine ⟨by omega, fun hs => ?_⟩
  obtain ⟨hle, heq⟩ := hcooking hs
  exact ⟨by omega, heq⟩

/-- SPeff clamped to a lowered clean ceiling, which the cook ceiling is within (R165). -/
theorem Cavity.setpointLawful_clampClean {x : LimitPage} {e : Env} {k : Cavity} (h : k.SetpointLawful x)
    (hcook : x.cookCeiling ≤ e.cfg.limits.cookCeiling)
    (hle : e.cfg.limits.cookCeiling ≤ e.cfg.limits.cleanCeiling) :
    (k.clampClean e).SetpointLawful e.cfg.limits := by
  obtain ⟨-, hcooking⟩ := h
  refine ⟨Nat.min_le_right _ _, fun hs => ?_⟩
  obtain ⟨hset, heq⟩ := hcooking hs
  refine ⟨hset.trans hcook, (min_eq_left ?_).trans heq⟩
  omega

/-- The setpoint clamped to a lowered cook ceiling (R165). -/
theorem Cavity.setpointLawful_clampCook {x : LimitPage} {e : Env} {k : Cavity} (h : k.SetpointLawful x)
    (hclean : x.cleanCeiling ≤ e.cfg.limits.cleanCeiling)
    (hle : e.cfg.limits.cookCeiling ≤ e.cfg.limits.cleanCeiling) :
    (k.clampCook e).SetpointLawful e.cfg.limits := by
  obtain ⟨hspeff, hcooking⟩ := h
  unfold Cavity.clampCook
  dsimp only
  split
  next =>
    refine ⟨?_, fun _ => ⟨le_rfl, rfl⟩⟩
    dsimp only
    omega
  next hno =>
    refine ⟨by omega, fun hs => ?_⟩
    obtain ⟨-, heq⟩ := hcooking hs
    refine ⟨?_, heq⟩
    simpa [hs] using hno

/-- A stored setting, the ceilings among them. -/
theorem State.setpointLaw_storeSetting (hs : s.SetpointLaw) (id : SettingId) (v : Nat)
    (hle : (s.cfg.set id v).limits.cookCeiling ≤ (s.cfg.set id v).limits.cleanCeiling) :
    (s.storeSetting id v).SetpointLaw := by
  have hcfg : (s.storeSetting id v).cfg = s.cfg.set id v := (s.storeSetting_frame id v).1
  have raised (hclean : s.cfg.limits.cleanCeiling ≤ (s.cfg.set id v).limits.cleanCeiling)
      (hcook : s.cfg.limits.cookCeiling ≤ (s.cfg.set id v).limits.cookCeiling) :
      (s.storeSetting id v).SetpointLaw := by
    rw [State.setpointLaw_iff, hcfg]
    exact fun c => (s.storeSetting_abides id v c).setpoint hle (Cavity.SetpointLawful.mono (hs c) hclean hcook)
  by_cases hid : id = .cleanCeiling
  · subst hid
    by_cases hlt : v < s.cfg.limits.cleanCeiling
    · have heq : s.storeSetting .cleanCeiling v = (s.stored .cleanCeiling v).onCavs Cavity.clampClean := if_pos hlt
      rw [State.setpointLaw_iff, hcfg]
      intro c
      rw [heq, State.onCavs_cav, State.stored_cav]
      exact Cavity.setpointLawful_clampClean (hs c) le_rfl hle
    · exact raised (not_lt.1 hlt) le_rfl
  by_cases hid' : id = .cookCeiling
  · subst hid'
    by_cases hlt : v < s.cfg.limits.cookCeiling
    · have heq : s.storeSetting .cookCeiling v = (s.stored .cookCeiling v).onCavs Cavity.clampCook := if_pos hlt
      rw [State.setpointLaw_iff, hcfg]
      intro c
      rw [heq, State.onCavs_cav, State.stored_cav]
      exact Cavity.setpointLawful_clampCook (hs c) le_rfl hle
    · exact raised le_rfl (not_lt.1 hlt)
  · exact raised (s.cfg.get_set_ne hid v).ge (s.cfg.get_set_ne hid' v).ge

/-- Every turn keeps the setpoint law, the settings law standing. -/
theorem State.Turn.setpointLaw (h : State.Turn s t) (hsettings : s.SettingsLaw) (hs : s.SetpointLaw) :
    t.SetpointLaw := by
  have hranged := (t.settingsLaw_iff.1 (h.settingsLaw hsettings)).1
  have hup := h.upholds
  have hkept (hcfg : t.cfg = s.cfg) : t.SetpointLaw := by
    rw [State.setpointLaw_iff]
    refine fun c => (hup c).setpoint hranged.cook_le_clean ?_
    rw [hcfg]
    exact hs c
  cases h with
  | within h => exact hkept h.cfg
  | stores id v w r hd hidle =>
    refine State.setpointLaw_storeSetting hs id v ?_
    rw [← (s.storeSetting_frame id v).1]
    exact hranged.cook_le_clean
  | lends watts => exact hkept (s.takeLend_frame watts).1.1
  | window hp => exact hkept s.windowStart_frame.1.1
  | returns volts => exact hkept (s.mainsReturn_frame volts).1
  | slot hi hp hlt => exact hkept (s.beginSlot_rest _).1.1
  | dropout hp => exact hkept (State.dropout_frame hp).1.1
  | starts inp =>
    rw [State.setpointLaw_iff]
    intro c
    obtain ⟨b, sw, hcav⟩ := s.startUp_cav inp c
    rw [hcav]
    exact ⟨Nat.zero_le _, nofun⟩

/-- Settles O10: every turn of a step keeps the settings law, and with it the setpoint law. -/
theorem settingsAndSetpointLawsAreKept : Obligations.SettingsAndSetpointLawsAreKept := by
  unfold Obligations.SettingsAndSetpointLawsAreKept
  intro s t hstep
  refine ⟨step_keeps_turns (fun _ _ h => h.settingsLaw) hstep, fun hsettings hs => ?_⟩
  have hboth : t.SettingsLaw ∧ t.SetpointLaw :=
    step_keeps_turns (P := fun u => u.SettingsLaw ∧ u.SetpointLaw)
      (fun _ _ h hu => ⟨h.settingsLaw hu.1, h.setpointLaw hu.1 hu.2⟩) hstep ⟨hsettings, hs⟩
  exact hboth.2

end Turn

end Sys2Proof.Machine

namespace Sys2Proof.Machine

/-! ## Starvation (R98, R99) -/

/-- A trip record as it was, or as a condition other than STARVED wrote it. -/
def TripRecord.NotStarved (before after : Option TripRecord) : Prop :=
  after = before ∨ ∃ x, after = some x ∧ x.first ≠ .starved

/-- What the starvation stage reads of a cavity besides its channels and conditions. -/
def Cavity.starveView (k : Cavity) : CavState × Nat × Option TripRecord × Bool :=
  (k.cc.state, k.starve, k.cond.trip, k.fan.catalyst)

/-- What the work of a window start makes of a cavity before the starvation stage: it stays where it is, its
counter and its record kept, or it ends its cycle, with no channel wanted any more. -/
inductive Cavity.Advances (k m : Cavity) : Prop
  | stays (state : m.cc.state = k.cc.state) (starve : m.starve = k.starve) (trip : m.cond.trip = k.cond.trip)
  | ends (state : m.cc.state = .cooldown ∨ m.cc.state = .faulted) (catalyst : m.fan.catalyst = false)
      (trip : TripRecord.NotStarved k.cond.trip m.cond.trip)

section Advances
variable {e : Env} {k m n : Cavity}

theorem Cavity.Advances.congr (h : k.Advances m) (hc : n.starveView = m.starveView) : k.Advances n := by
  have hstate : n.cc.state = m.cc.state := congrArg (·.1) hc
  have hstarve : n.starve = m.starve := congrArg (·.2.1) hc
  have htrip : n.cond.trip = m.cond.trip := congrArg (·.2.2.1) hc
  have hcat : n.fan.catalyst = m.fan.catalyst := congrArg (·.2.2.2) hc
  cases h with
  | stays state starve trip => exact .stays (hstate.trans state) (hstarve.trans starve) (htrip.trans trip)
  | ends state catalyst trip => exact .ends (hstate ▸ state) (hcat.trans catalyst) (htrip ▸ trip)

theorem Cavity.Advances.after (m : Cavity) (hm : m.starveView = k.starveView) (h : m.Advances n) : k.Advances n := by
  have hstate : m.cc.state = k.cc.state := congrArg (·.1) hm
  have hstarve : m.starve = k.starve := congrArg (·.2.1) hm
  have htrip : m.cond.trip = k.cond.trip := congrArg (·.2.2.1) hm
  cases h with
  | stays state starve trip => exact .stays (state.trans hstate) (starve.trans hstarve) (trip.trans htrip)
  | ends state catalyst trip => exact .ends state catalyst (htrip ▸ trip)

/-- What follows in CLEANING alone. -/
theorem Cavity.Advances.andThen (h : k.Advances m) (hclean : m.cc.state = .cleaning → m.Advances n)
    (hother : m.cc.state ≠ .cleaning → n = m) : k.Advances n := by
  by_cases hs : m.cc.state = .cleaning
  · cases h with
    | ends state => simp [hs] at state
    | stays state starve trip =>
      cases hclean hs with
      | stays state' starve' trip' => exact .stays (state'.trans state) (starve'.trans starve) (trip'.trans trip)
      | ends state' catalyst' trip' => exact .ends state' catalyst' (trip ▸ trip')
  · exact hother hs ▸ h

/-- A trip by any condition but STARVED. -/
theorem Cavity.Advances.trip {c : Condition} (hc : c ≠ .starved) (later : CondSet) :
    k.Advances (k.trip e c later) := by
  obtain ⟨x, hx, hfirst, -⟩ := Cavity.trip_record e k c later
  exact .ends (.inr (Cavity.trip_state ..)) (Cavity.trip_fan ..).2 (.inr ⟨x, hx, hfirst ▸ hc⟩)

/-- The end of a cycle: COOLDOWN, or a trip there, where STARVED trips nothing. -/
theorem Cavity.Advances.enterCooldown (why : LastEnd) : k.Advances (k.enterCooldown e why) := by
  unfold Cavity.enterCooldown
  let m : Cavity := ((k.writeEnd why).enterState e .cooldown).clearProgram
  obtain ⟨-, hk⟩ | ⟨c, rest, hc, hk⟩ := Cavity.decideEntry_cases e m
  · have hcat : m.fan.catalyst = false :=
      Bool.eq_false_iff.2 fun hon => nomatch Cavity.enterState_catalyst e .cooldown (k.writeEnd why) hon
    rw [hk]
    exact .ends (.inl rfl) hcat (.inl (Cavity.enterState_trip e .cooldown (k.writeEnd why)))
  · have htrips : tripsIn e.page .cooldown c = true := by
      have hmem : c ∈ causesIn e.page .cooldown m.cond.present := hc ▸ List.mem_cons_self
      simp only [causesIn, List.mem_filter, Bool.and_eq_true] at hmem
      exact hmem.2.2
    have hne : c ≠ .starved := by
      rintro rfl
      simp [tripsIn_starved_of_ne e.page (show CavState.cooldown ≠ .cleaning from nofun)] at htrips
    obtain ⟨x, hx, hfirst, -⟩ := Cavity.trip_record e m c (CondSet.ofList rest)
    rw [hk]
    exact .ends (.inr (Cavity.trip_state ..)) (Cavity.trip_fan ..).2 (.inr ⟨x, hx, hfirst ▸ hne⟩)

theorem Cavity.Advances.programFault (hs : k.cc.state = .cleaning) (sub : ProgramFault) (i : Option Nat)
    (stack : List Nat) : k.Advances (k.programFault e sub i stack) := by
  rw [Cavity.programFault_eq e k hs]
  dsimp only
  split
  · exact .after { k with cc := { k.cc with segIndex := i, stack := stack }
                          cond := { k.cond with seen := k.cond.seen.add .program } } rfl (.trip (c := .program) nofun _)
  · exact .after { k with cc := { k.cc with segIndex := i, stack := stack }
                          cond := { k.cond with seen := k.cond.seen.add .program } } rfl (.enterCooldown _)

theorem Cavity.Advances.moveTo (hs : k.cc.state = .cleaning) (i : Nat) : k.Advances (k.moveTo e i) := by
  unfold Cavity.moveTo
  split
  next j stack _ =>
    exact .stays rfl rfl (Cavity.decideFan_trip _)
  next j stack _ => exact .after { k with cc := { k.cc with segIndex := some j, stack := stack } } rfl (.enterCooldown _)
  next sub j stack _ => exact .programFault hs sub j stack

theorem Cavity.Advances.segmentEnds (hs : k.cc.state = .cleaning) : k.Advances (k.segmentEnds e) := by
  unfold Cavity.segmentEnds
  split
  · exact .moveTo hs _
  · exact .stays rfl rfl rfl

theorem Cavity.Advances.stage1 : k.Advances (k.stage1 e) := by
  unfold Cavity.stage1 Cavity.countCleaning Cavity.countHeld
  dsimp only
  split
  · split_ifs
    · exact .after { k with cc := { k.cc with cycle := k.cc.cycle + 1 } } rfl (.enterCooldown _)
    · split <;> exact .stays rfl rfl rfl
  · split_ifs
    · exact .after { k with cc := { k.cc with hold := k.cc.hold + 1 } } rfl (.enterCooldown _)
    · exact .stays rfl rfl rfl
  · exact .stays rfl rfl rfl

theorem Cavity.Advances.stage3 (h : k.Advances m) : k.Advances (m.stage3 e) := by
  refine h.andThen (fun hs => ?_) fun hs => ?_
  · unfold Cavity.stage3
    split
    next i _ _ =>
      have hstate : (m.decideArrived e (e.segs.at i)).cc.state = .cleaning :=
        (m.decideArrived_keeps e _).1.trans hs
      have harr : (m.decideArrived e (e.segs.at i)).starveView = m.starveView := by
        unfold Cavity.decideArrived
        split <;> rfl
      refine .after _ harr ?_
      dsimp only
      split_ifs
      · exact .segmentEnds hstate
      · exact .enterCooldown _
      · exact .segmentEnds hstate
      · exact .stays rfl rfl rfl
    next => exact .stays rfl rfl rfl
  · unfold Cavity.stage3
    split
    next h _ => exact absurd h hs
    next => rfl

theorem Cavity.Advances.windowWork : k.Advances (k.windowWork e) :=
  have h2 : k.Advances ((k.stage1 e).stage2 e) := .congr .stage1 rfl
  have h3 : k.Advances (((k.stage1 e).stage2 e).stage3 e) := h2.stage3
  h3.congr rfl

/-- A cavity whose cycle has ended demands nothing. -/
theorem Cavity.channelDemand_of_ends (hs : k.cc.state = .cooldown ∨ k.cc.state = .faulted)
    (hc : k.fan.catalyst = false) (p : Position) : k.channelDemand e p = 0 := by
  by_contra hne
  have hallows := Cavity.allows_of_channelDemand (by simp [hc]) hne
  obtain hs | hs := hs <;> simp [hs, CavState.allows] at hallows

end Advances

/-! ### The starvation stage of one cavity -/

section MoveStarve
variable {e : Env} {k m : Cavity}

theorem Cavity.short_iff (k : Cavity) : k.short = true ↔ k.isShort := by
  simp [Cavity.short, Cavity.isShort, allPositions, Cavity.channel, or_assoc]

/-- Two cavities whose channels have the same counts are short alike. -/
theorem Cavity.isShort_congr (h : ∀ p, (m.channel p).granted = (k.channel p).granted ∧
    (m.channel p).demand = (k.channel p).demand) : m.isShort ↔ k.isShort := by
  simp only [Cavity.isShort, h]

theorem Cavity.isShort_moveStarve : (k.moveStarve e).isShort ↔ k.isShort :=
  Cavity.isShort_congr fun p => ((Cavity.Abides.moveStarve (e := e)).channels p).counts

/-- The counter after a window that trips nothing. -/
def Cavity.nextStarve (k : Cavity) : Nat :=
  match k.cc.state with
  | .cleaning => if k.short then k.starve + 1 else 0
  | .held => k.starve
  | _ => 0

/-- When STARVED trips a cavity: the fortieth short window in CLEANING, the condition not present before. -/
structure Cavity.Starves (e : Env) (k : Cavity) : Prop where
  state : k.cc.state = .cleaning
  short : k.isShort
  count : 40 ≤ k.starve + 1
  present : k.cond.present.has .starved = false
  enabled : e.page.tripEnables.testBit 10 = true

/-- The cavity that STARVED trips. -/
def Cavity.starvedOut (k : Cavity) : Cavity := ({ k with starve := k.starve + 1 } : Cavity).withPresent .starved

/-- The starvation stage trips a cavity that starves. -/
theorem Cavity.moveStarve_of_starves (h : k.Starves e) : k.moveStarve e = k.starvedOut.trip e .starved 0 := by
  obtain ⟨hs, hshort, hcount, hpresent, henabled⟩ := h
  have htrips : tripsIn e.page k.cc.state .starved = true := by rw [hs]; exact henabled
  unfold Cavity.moveStarve
  rw [hs]
  dsimp only
  rw [if_pos (k.short_iff.2 hshort), if_pos (by simpa [hpresent, Config.starvedAt] using hcount)]
  exact Cavity.onset_of_trips (k := { k with starve := k.starve + 1 }) htrips

theorem Cavity.nextStarve_of_cleaning (h : k.cc.state = .cleaning) :
    k.nextStarve = if k.isShort then k.starve + 1 else 0 := by
  simp only [Cavity.nextStarve, h, k.short_iff]

theorem Cavity.nextStarve_of_held (h : k.cc.state = .held) : k.nextStarve = k.starve := by
  rw [Cavity.nextStarve, h]

theorem Cavity.nextStarve_of_other (hclean : k.cc.state ≠ .cleaning) (hheld : k.cc.state ≠ .held) :
    k.nextStarve = 0 := by
  unfold Cavity.nextStarve
  split
  next hs => exact absurd hs hclean
  next hs => exact absurd hs hheld
  next => rfl

/-- The starvation stage moves the counter and the conditions of any other cavity. -/
theorem Cavity.moveStarve_of_not_starves (h : ¬ k.Starves e) : (k.moveStarve e).cc = k.cc ∧
    (k.moveStarve e).starve = k.nextStarve ∧ (k.moveStarve e).cond.trip = k.cond.trip := by
  unfold Cavity.moveStarve
  split
  next hs =>
    rw [Cavity.nextStarve_of_cleaning hs]
    dsimp only
    split
    next hshort =>
      rw [if_pos (k.short_iff.1 hshort)]
      split
      next hlate =>
        simp only [Bool.and_eq_true, decide_eq_true_eq, Bool.not_eq_true'] at hlate
        have hno : tripsIn e.page k.cc.state .starved = false := by
          rw [hs]
          exact Bool.eq_false_iff.2 fun hon => h ⟨hs, k.short_iff.1 hshort, hlate.1, hlate.2, hon⟩
        rw [Cavity.onset_of_not_trips (k := { k with starve := k.starve + 1 }) (by simp [hs]) hno]
        exact ⟨rfl, rfl, rfl⟩
      next => exact ⟨rfl, rfl, rfl⟩
    next hshort =>
      rw [if_neg (mt k.short_iff.2 hshort)]
      exact ⟨rfl, rfl, rfl⟩
  next hs => exact ⟨rfl, (Cavity.nextStarve_of_held hs).symm, rfl⟩
  next hclean hheld => exact ⟨rfl, (Cavity.nextStarve_of_other hclean hheld).symm, rfl⟩

/-- A cavity in its program after the work was there before, with the same count. -/
theorem Cavity.Advances.inProgram (h : k.Advances m) (hs : m.cc.state.inProgram) :
    k.cc.state = m.cc.state ∧ m.starve = k.starve := by
  cases h with
  | stays state starve => exact ⟨state.symm, starve⟩
  | ends state => obtain hs | hs := hs <;> simp [hs] at state

/-- A cavity that starves is tripped, from a count of 39. -/
theorem Cavity.moveStarve_moved_of_starves (hadv : k.Advances m) (hm : m.Noted) (hslot : e.slot = some 0)
    (h : m.Starves e) : k.starvationMoved e (m.moveStarve e) := by
  obtain ⟨-, hsame⟩ := hadv.inProgram (.inl h.state)
  have hlast : k.starve = 39 := by
    have hpresent : m.cond.present.has .starved = decide (40 ≤ m.starve) := hm.follows .starved
    rw [h.present, Eq.comm, decide_eq_false_iff_not, hsame] at hpresent
    have hcount := h.count
    omega
  have hisShort : (m.moveStarve e).isShort := Cavity.isShort_moveStarve.2 h.short
  have hfollows : (m.moveStarve e).cond.present.has .starved = decide (40 ≤ (m.moveStarve e).starve) :=
    (Cavity.Handles.moveStarve (p := True).noted trivial hm).follows .starved
  rw [Cavity.moveStarve_of_starves h] at hisShort hfollows ⊢
  have hzero : (m.starvedOut.trip e .starved 0).starve = 0 := Cavity.trip_starve ..
  refine ⟨fun hs => ?_, fun _ _ _ _ => hslot ▸ Cavity.trip_trippedBy_one .., fun hs => ?_,
    fun _ _ => ⟨hzero, by rw [hfollows, hzero]; rfl⟩, fun x hx _ _ => ⟨hisShort, hlast, ?_, h.enabled⟩⟩
  · simp at hs
  · simp at hs
  · obtain ⟨y, hy, -, -, hbefore, -⟩ := Cavity.trip_record e m.starvedOut .starved 0
    rw [hy, Option.mem_some_iff] at hx
    exact hx ▸ hbefore.trans h.state

/-- The record of a trip by STARVED comes from the starvation stage alone. -/
theorem Cavity.Advances.first_ne_starved (h : k.Advances m) (hnone : k.cond.trip = none) {x : TripRecord}
    (hx : m.cond.trip = some x) : x.first ≠ .starved := by
  cases h with
  | stays _ _ trip => simp [hx, hnone] at trip
  | ends _ _ trip =>
    obtain hsame | ⟨y, hy, hother⟩ := trip
    · simp [hx, hnone] at hsame
    · obtain rfl : x = y := Option.some.inj (hx.symm.trans hy)
      exact hother

/-- Any other cavity counts, keeps its count or loses it. -/
theorem Cavity.moveStarve_moved_of_not_starves (hadv : k.Advances m)
    (hends : m.cc.state = .cooldown ∨ m.cc.state = .faulted → m.fan.catalyst = false → ¬ m.isShort)
    (hk : k.Noted) (hm : m.Noted) (h : ¬ m.Starves e) : k.starvationMoved e (m.moveStarve e) := by
  have hkstarved : k.cond.present.has .starved = decide (40 ≤ k.starve) := hk.follows .starved
  have hmstarved : m.cond.present.has .starved = decide (40 ≤ m.starve) := hm.follows .starved
  have hfollows : (m.moveStarve e).cond.present.has .starved = decide (40 ≤ (m.moveStarve e).starve) :=
    (Cavity.Handles.moveStarve (p := True).noted trivial hm).follows .starved
  have hshort : (m.moveStarve e).isShort ↔ m.isShort := Cavity.isShort_moveStarve
  obtain ⟨hcc, hnext, htrip⟩ := Cavity.moveStarve_of_not_starves h
  unfold Cavity.starvationMoved
  rw [hcc, hfollows, hnext]
  refine ⟨fun hs => ⟨?_, rfl, fun hon hlate => ?_⟩, fun hs hcount hisShort hon => ?_, fun hs => ?_,
    fun hclean hheld => ?_, fun x hx hnone hfirst => ?_⟩
  · obtain ⟨-, hsame⟩ := hadv.inProgram (.inl hs)
    simp only [Cavity.nextStarve_of_cleaning hs, hshort, hsame]
  · obtain ⟨-, hsame⟩ := hadv.inProgram (.inl hs)
    rw [Cavity.nextStarve_of_cleaning hs] at hlate
    rw [← hsame]
    by_contra hless
    have hpresent : m.cond.present.has .starved = false := hmstarved.trans (by simpa using hless)
    split at hlate
    next hisShort => exact h ⟨hs, hisShort, hlate, hpresent, hon⟩
    next => simp at hlate
  · have hms : m.cc.state = .cleaning := by
      cases hadv with
      | stays state => exact state.trans hs
      | ends state catalyst => exact absurd (hshort.1 hisShort) (hends state catalyst)
    obtain ⟨-, hsame⟩ := hadv.inProgram (.inl hms)
    have hpresent : m.cond.present.has .starved = false := hmstarved.trans (by simp [hsame, hcount])
    exact absurd ⟨hms, hshort.1 hisShort, by omega, hpresent, hon⟩ h
  · obtain ⟨-, hsame⟩ := hadv.inProgram (.inr hs)
    rw [Cavity.nextStarve_of_held hs, hsame, hkstarved]
    exact ⟨rfl, rfl⟩
  · rw [Cavity.nextStarve_of_other hclean hheld]
    exact ⟨rfl, rfl⟩
  · exact absurd hfirst (hadv.first_ne_starved hnone (htrip ▸ hx))

/-- The starvation stage does what the statement says, after the work of the window. -/
theorem Cavity.moveStarve_moved (hadv : k.Advances m)
    (hends : m.cc.state = .cooldown ∨ m.cc.state = .faulted → m.fan.catalyst = false → ¬ m.isShort)
    (hk : k.Noted) (hm : m.Noted) (hslot : e.slot = some 0) : k.starvationMoved e (m.moveStarve e) := by
  by_cases h : m.Starves e
  · exact Cavity.moveStarve_moved_of_starves hadv hm hslot h
  · exact Cavity.moveStarve_moved_of_not_starves hadv hends hk hm h

/-- What the statement says of a cavity reads the page's enables alone, and no relay. -/
theorem Cavity.starvationMoved.relays {e' : Env} (f : Position → Channel → Channel)
    (hf : ∀ p ch, (f p ch).granted = ch.granted ∧ (f p ch).demand = ch.demand ∧
      (f p ch).placements = ch.placements) (hpage : e'.page = e.page)
    (h : k.starvationMoved e m) : k.starvationMoved e' (m.mapChannels f) := by
  have hshort : (m.mapChannels f).isShort ↔ m.isShort := Cavity.isShort_congr fun p => by
    rw [Cavity.channel_mapChannels]
    exact ⟨(hf p _).1, (hf p _).2.1⟩
  have htripped (h : m.trippedBy (some 0) [.starved]) : (m.mapChannels f).trippedBy (some 0) [.starved] := by
    obtain ⟨hstate, hfirst, hlater, hevent, hdemand, hspeff, hholds, hcat, hcmd⟩ := h
    refine ⟨hstate, hfirst, hlater, hevent, hdemand, hspeff, fun p hp => ?_, hcat, hcmd⟩
    rw [Cavity.channel_mapChannels]
    unfold Channel.holdsFrom
    rw [(hf p _).2.2]
    exact hholds p hp
  obtain ⟨hclean, htrips, hheld, hother, hnew⟩ := h
  unfold Cavity.starvationMoved
  simp only [hshort, hpage]
  exact ⟨hclean, fun hs hc hsh hon => htripped (htrips hs hc hsh hon), hheld, hother, hnew⟩

end MoveStarve

/-! ### The starvation stage of a window start -/

section WindowStart
variable {s : State} {c : CavNo}

theorem State.windowStart_starvationMoved (hf : s.fitted c = true) (hk : (s.cav c).Noted) :
    (s.cav c).starvationMoved (s.env c) (s.windowStart.cav c) := by
  obtain ⟨hcfg, hcav⟩ := s.onFitted_eq Cavity.windowWork c
  rw [if_pos hf] at hcav
  have hadv : (s.cav c).Advances ((s.onFitted Cavity.windowWork).cav c) := hcav ▸ .windowWork
  have hnoted : ((s.onFitted Cavity.windowWork).cav c).Noted :=
    hcav ▸ (Cavity.Handles.windowWork (p := True)).noted trivial hk
  unfold State.windowStart
  dsimp only
  rw [State.beginSlot_cav, State.onCavs_cav]
  generalize s.onFitted Cavity.windowWork = u at *
  obtain ⟨-, hslot, hwcfg, -, hsame, hchan⟩ := u.placeAll_scheduling
  generalize u.takeVoltage.newWindow.rank.placeAll = w at *
  have hview : (w.cav c).starveView = (u.cav c).starveView := by rw [hsame]; rfl
  have hmonitored : (w.cav c).monitored = (u.cav c).monitored := by rw [hsame]; rfl
  have hpage : (s.env c).page = (w.env c).page := by
    unfold State.env
    rw [hwcfg, hcfg]
  have hends (hs : (w.cav c).cc.state = .cooldown ∨ (w.cav c).cc.state = .faulted)
      (hcat : (w.cav c).fan.catalyst = false) : ¬ (w.cav c).isShort := by
    have hstate : (w.cav c).cc.state = (u.cav c).cc.state := congrArg (·.1) hview
    have hcatalyst : (w.cav c).fan.catalyst = (u.cav c).fan.catalyst := congrArg (·.2.2.2) hview
    rw [hstate] at hs
    rw [hcatalyst] at hcat
    rintro ⟨p, -, hless⟩
    rw [(hchan c p).2.1, Cavity.channelDemand_of_ends hs hcat] at hless
    exact absurd hless (Nat.not_lt_zero _)
  have hwnoted : (w.cav c).Noted := (Cavity.Handles.same (p := True) hmonitored).noted trivial hnoted
  exact (Cavity.moveStarve_moved (hadv.congr hview) hends hk hwnoted hslot).relays
    (fun _ ch => ch.setRelay 0) (fun _ _ => ⟨rfl, rfl, rfl⟩) hpage

end WindowStart

/-- Settles O50: a cavity ends its work of the window where it was or with its cycle ended, and the starvation
stage counts, keeps or clears, or trips a cavity at its fortieth short window. -/
theorem starvationCountsShortWindows : Obligations.StarvationCountsShortWindows := by
  unfold Obligations.StarvationCountsShortWindows
  intro s c hmains hf hcond _
  have hk : (s.cav c).Noted := s.conditionLaw_iff.1 hcond c
  refine ⟨_, exec_windowStart hmains, ?_⟩
  rw [State.decideAttn_cav]
  exact State.windowStart_starvationMoved hf hk

end Sys2Proof.Machine

namespace Sys2Proof.Machine

/-! ## Level reviews, tach pulses and tach timer expiries (R126, R128, R129) -/

section FanEvents
variable {e : Env} {k : Cavity}

/-- Of the conditions a decision of the fan takes away FAN STALL alone, with a stall that ends (R129). -/
theorem Cavity.decideFan_cond_eq : k.decideFan.cond = { k.cond with present :=
    if k.fan.stall = true ∧ k.decideFan.fan.stall = false then k.cond.present.del .fanStall
    else k.cond.present } := by
  simp only [Cavity.decideFan, Bool.and_eq_true, Bool.not_eq_true']
  split <;> rfl

/-- The cavity's fan decided afresh with the idle speed given (R125, R126). -/
def Cavity.idlingAt (low : Bool) (k : Cavity) : Cavity :=
  ({ k with fan := { k.fan with idleLow := low } } : Cavity).decideFan

/-- The drive of the fan decided in IDLE with the idle speed given. -/
theorem Cavity.idlingAt_fan (low : Bool) (h : k.cc.state = .idle) :
    (k.idlingAt low).fan.idleLow = low ∧ k.fan.decided .idle (k.idlingAt low).fan ∧
      (k.idlingAt low).fan.segFlag = k.fan.segFlag ∧ (k.idlingAt low).fan.catalyst = k.fan.catalyst ∧
      (k.idlingAt low).fan.probeView = k.fan.probeView ∧ (k.idlingAt low).fan.warmView = k.fan.warmView := by
  obtain ⟨-, hlow, hprobe, hwarm, hseg, -, hcat⟩ :=
    Fan.take_keeps { k.fan with idleLow := low } (Fan.wanted { k.fan with idleLow := low } k.cc.state)
  exact ⟨hlow, h ▸ Fan.decided_take (f := k.fan) k.cc.state ⟨rfl, rfl, rfl, rfl, rfl⟩, hseg, hcat, hprobe, hwarm⟩

/-- The level review of a cavity is the one of the statements. -/
theorem Cavity.levelReview_reviewed : k.reviewed e (k.levelReview e) := by
  unfold Cavity.levelReview Cavity.reviewed
  by_cases h : k.cc.state = .idle ∧ k.fan.probeView = false
  · rw [if_pos (show (k.cc.state = .idle && !k.fan.probeView) = true by simpa using h), if_pos h]
    obtain ⟨hlow, hdecided, hseg, hcat, hprobe, hwarm⟩ := k.idlingAt_fan _ h.1
    exact ⟨rfl, rfl, rfl, rfl, fun p _ => (Cavity.decideFan_channel _ p).trans (by cases p <;> rfl), hseg, hcat,
      hprobe, hwarm, hlow, hdecided, Cavity.decideFan_cond_eq⟩
  · rw [if_neg (by simpa using h), if_neg h]
    exact ⟨rfl, rfl, rfl, rfl, fun _ _ => rfl, rfl, rfl, rfl, rfl, rfl, rfl⟩

/-- A tach pulse at a cavity is the one of the statements. -/
theorem Cavity.tachPulse_pulsed : k.pulsed (k.tachPulse e) := by
  unfold Cavity.pulsed Cavity.tachPulse
  by_cases hw : k.fan.tach = .watching
  · rw [if_pos hw, if_pos hw]
    cases k.fan.stall <;> rfl
  · rw [if_neg hw, if_neg hw]

/-- FAN STALL trips every state but FAULTED where its enable is on (R136). -/
theorem tripsIn_fanStall {p : CavityPage} {st : CavState} (h : st ≠ .faulted) :
    tripsIn p st .fanStall = p.tripEnables.testBit 8 := by
  cases st <;> first | rfl | exact absurd rfl h

/-- FAN STALL arises (R136, R142): with its enable on it is a later cause in FAULTED and a trip elsewhere, and
with its enable off it is present and seen alone. -/
theorem Cavity.onset_fanStall :
    if k.cc.state = .faulted then
      if e.page.tripEnables.testBit 8 then
        (k.withPresent .fanStall).laterCause .fanStall (k.onset e .fanStall)
      else k.onset e .fanStall = k.withPresent .fanStall
    else if e.page.tripEnables.testBit 8 then
      (k.onset e .fanStall).trippedBy e.slot [.fanStall] ∧
        (k.onset e .fanStall).cond.seen = k.cond.seen.add .fanStall
    else k.onset e .fanStall = k.withPresent .fanStall := by
  by_cases hf : k.cc.state = .faulted
  · rw [if_pos hf]
    split
    next hon => exact Cavity.onset_of_faulted hf hon
    next hoff =>
      have hadd : e.page.addsLater .fanStall = false := Bool.eq_false_iff.2 hoff
      simp [Cavity.onset, Cavity.judge, hf, hadd, Cavity.withPresent]
  · rw [if_neg hf]
    have htrips := tripsIn_fanStall (p := e.page) hf
    split
    next hon =>
      rw [Cavity.onset_of_trips (htrips.trans hon)]
      exact ⟨Cavity.trip_trippedBy_one .., (Cavity.trip_cond ..).2⟩
    next hoff => exact Cavity.onset_of_not_trips hf (htrips.trans (Bool.eq_false_iff.2 hoff))

/-- The tach timer's expiry at a cavity is the one of the statements, by the tach timer's state and whether the
interval was silent with no stall before. -/
theorem Cavity.tachExpiry_tachExpired : k.tachExpired e (k.tachExpiry e) := by
  unfold Cavity.tachExpired Cavity.tachExpiry
  cases htach : k.fan.tach with
  | stopped => rfl
  | settling => rfl
  | watching =>
    simp only [reduceCtorEq, if_false]
    by_cases hquiet : k.fan.pulseSeen = true ∨ k.fan.stall = true
    · have hstalls : (!k.fan.pulseSeen && !k.fan.stall) = false := by
        obtain h | h := hquiet <;> simp [h]
      simp only [if_pos hquiet, hstalls, Bool.or_false, Bool.false_eq_true, if_false]
      rfl
    · have hstalls : (!k.fan.pulseSeen && !k.fan.stall) = true := by simpa using hquiet
      simp only [if_neg hquiet, hstalls, Bool.or_true, if_true]
      exact Cavity.onset_fanStall (k := { k with fan := { k.fan with
        tachLeft := Config.tachMs, pulseSeen := false, stall := true } })

end FanEvents

/-- A command about a fitted cavity's own record moves that cavity alone, and comes to nothing at an unfitted
one. -/
theorem State.ifFitted_moves_alone (s : State) (c : CavNo) {f : Env → Cavity → Cavity} {P : Cavity → Prop}
    (hP : P (f (s.env c) (s.cav c))) : ∃ t, (s.ifFitted c f).settled = .next t ∧
      if s.fitted c then s.onlyCavity c t ∧ P (t.cav c) else s.nothingMoves t := by
  cases hf : s.fitted c with
  | true =>
    obtain ⟨t, ht, honly, hcav⟩ := s.ifFitted_settled c f hf
    exact ⟨t, ht, by rw [if_pos rfl, hcav]; exact ⟨honly, hP⟩⟩
  | false =>
    refine ⟨s.decideAttn, congrArg State.settled (s.ifFitted_of_not c f hf), ?_⟩
    rw [if_neg nofun]
    exact s.nothingMoves_self

/-- The level review leaves all of the part but the cavities and its own timer. -/
theorem State.reviewLevels_frame (s : State) :
    s.SameButCavs { s.reviewLevels with review := s.review } := by
  obtain ⟨hcfg, hbounds, hsegs, hsched, hmains, -, hlink, hstore, hpending⟩ :=
    s.onFitted_sameButCavs Cavity.levelReview
  exact ⟨hcfg, hbounds, hsegs, hsched, hmains, rfl, hlink, hstore, hpending⟩

theorem State.reviewLevels_cav (s : State) (c : CavNo) : s.reviewLevels.cav c =
    if s.fitted c then (s.cav c).levelReview (s.env c) else s.cav c :=
  (State.cav_congr (t := s.onFitted Cavity.levelReview) rfl rfl rfl c).trans (s.onFitted_eq _ c).2

/-- Settles O58: the review, the pulse and the expiry, each by what it does to one cavity. -/
theorem fanEventsFollowTheRules : Obligations.FanEventsFollowTheRules := by
  unfold Obligations.FanEventsFollowTheRules
  intro s
  constructor
  · obtain ⟨hcfg, hbounds, hsegs, hsched, hmains, -, hlink, hstore, hpending⟩ := s.reviewLevels_frame
    refine ⟨s.reviewLevels.decideAttn, rfl, hcfg, hbounds, hsegs, hsched, hmains, hstore, hpending, rfl,
      State.decideAttn_linkIs hlink, fun c => ?_⟩
    rw [State.decideAttn_cav, State.reviewLevels_cav]
    split
    · exact Cavity.levelReview_reviewed
    · rfl
  · exact fun c => ⟨s.ifFitted_moves_alone c Cavity.tachPulse_pulsed,
      s.ifFitted_moves_alone c Cavity.tachExpiry_tachExpired⟩

end Sys2Proof.Machine

namespace Sys2Proof.Machine

/-! ## CONDITIONS ACK (R146) -/

/-- A mask lies within the low `n` bits exactly where it is below the next power of 2. -/
theorem withinBits_iff_lt (n v : Nat) : withinBits (2 ^ n - 1) v = true ↔ v < 2 ^ n := by
  rw [withinBits, beq_iff_eq, Nat.and_two_pow_sub_one_eq_mod]
  exact Nat.mod_eq_iff_lt (Nat.two_pow_pos n).ne'

/-- CONDITIONS ACK answers by its mask, and takes the named conditions that are not present. -/
theorem Cavity.conditionsAck_eq (mask : Word16) (k : Cavity) : k.conditionsAck mask =
    (if conditionsAckResult mask = .done then
      { k with cond := { k.cond with
          seen := maskMinus k.cond.seen (maskMinus (BitVec.ofNat 11 mask.toNat) k.cond.present) } }
     else k, conditionsAckResult mask) := by
  have hwithin : withinBits conditionBits mask.toNat = true ↔ mask.toNat < 2048 := withinBits_iff_lt 11 mask.toNat
  unfold Cavity.conditionsAck conditionsAckResult
  by_cases h : 2048 ≤ mask.toNat
  · rw [if_neg (by rw [hwithin]; omega), if_pos h, if_neg nofun]
  · rw [if_pos (by rw [hwithin]; omega), if_neg h, if_pos rfl]

theorem Cavity.conditionsAck_effect {mask : Word16} (k : Cavity) (h : conditionsAckResult mask = .done) :
    conditionsAckEffect mask k (k.conditionsAck mask).1 := by
  rw [Cavity.conditionsAck_eq, if_pos h]
  refine ⟨rfl, fun c _ => ?_⟩
  have hnamed : maskHas (BitVec.ofNat 11 mask.toNat) c.bit = mask.getLsbD c.bit := by
    simp [maskHas, BitVec.getLsbD, Nat.testBit_mod_two_pow _ 11, c.bit_lt]
  simp only [CondSet.has, maskHas_maskMinus, hnamed, Bool.not_and, Bool.not_not]

/-- Settles O26: the mask checked, and the named conditions that are not present taken from those seen. -/
theorem conditionsAckKeepsThePresent : Obligations.ConditionsAckKeepsThePresent := by
  unfold Obligations.ConditionsAckKeepsThePresent
  intro s r h
  refine State.perCavityOrder_taken h (fun c => by rw [Cavity.conditionsAck_eq]) (fun c hc => ?_)
    fun c hc => Cavity.conditionsAck_effect _ ?_
  · rw [Cavity.conditionsAck_eq]
    exact if_neg fun hd => by simp [hd, Result.refusal] at hc
  · unfold conditionsAckResult at hc ⊢
    split_ifs at hc ⊢
    · cases hc
    · rfl

/-! ## FAULT CLEAR (R143, R144) -/

/-- A FAULTED cavity without its trip record, as a FAULT CLEAR that passes its checks finds it. -/
def Cavity.cleared (k : Cavity) : Cavity := { k with cond := { k.cond with trip := none } }

/-- What a FAULT CLEAR that passes its checks makes of a cavity. -/
def Cavity.released (e : Env) (k : Cavity) : Cavity :=
  if k.lock.state = .opened then k.cleared.endInIdle e
  else ((k.cleared.enterState e .unlocking).sendRelease e).decideEntry e

/-- FAULT CLEAR answers by the checks of R143, and releases the cavity where they pass. -/
theorem Cavity.faultClear_eq (e : Env) (k : Cavity) :
    k.faultClear e = (if clearResult e k = .done then k.released e else k, clearResult e k) := by
  have hstanding : k.standingTrip e = standing e k.cond.present := rfl
  unfold Cavity.faultClear clearResult
  rw [Cavity.releaseOk_eq, hstanding]
  by_cases hs : k.cc.state = .faulted
  swap
  · simp [hs]
  cases hc : k.checkPasses e
  · simp [hs]
  cases ht : standing e k.cond.present
  · simp only [hs, ne_eq, not_true_eq_false, if_false, Bool.not_true, Bool.false_eq_true, Bool.true_eq_false,
      if_true, Cavity.released]
    split <;> rfl
  · simp [hs]

/-- The checks of R143 that have passed. -/
theorem clearResult_done {e : Env} {k : Cavity} (h : clearResult e k = .done) : k.checkPasses e = true := by
  unfold clearResult at h
  split_ifs at h with _ hc
  simpa using hc

/-- An end in IDLE that no condition trips keeps the record and the conditions seen. -/
theorem Cavity.endInIdle_cond_of_nil {e : Env} {k : Cavity} (h : causesIn e.page .idle k.cond.present = []) :
    (k.endInIdle e).cond.trip = k.cond.trip ∧ (k.endInIdle e).cond.seen = k.cond.seen := by
  have hnil : causesIn e.page .idle (k.enterState e .idle).cond.present = [] :=
    (Cavity.causesIn_enterState e .idle k e.page).trans h
  have hend : k.endInIdle e = (k.enterState e .idle).setEvent .cycleEnded := Cavity.decideEntry_of_nil e _ hnil
  rw [hend]
  exact ⟨Cavity.enterState_trip .., Cavity.enterState_seen ..⟩

/-- The conditions present once a RELEASE has left JAMMED (R119). -/
def Cavity.unjammed (k : Cavity) : CondSet :=
  if k.lock.state = .jammed then k.cond.present.del .lockJam else k.cond.present

/-- The cavity with other conditions present. -/
def Cavity.presenting (present : CondSet) (k : Cavity) : Cavity :=
  { k with cond := { k.cond with present := present } }

/-- RELEASE sent in UNLOCKING with the lock at rest away from OPEN and the check passed: the bolt is at the open
end, which ends the cycle, or a fresh drive begins; either takes LOCK JAM away. -/
theorem Cavity.sendRelease_checked {e : Env} {k : Cavity} (hs : k.cc.state = .unlocking)
    (hc : k.checkPasses e = true) (hl : k.lock.halted ∨ k.lock.state = .jammed) : k.sendRelease e =
      if k.lock.standsOpen then
        ({ k.presenting k.unjammed with lock := k.lock.resting .opened } : Cavity).endInIdle e
      else { k.presenting k.unjammed with lock := k.lock.underway e .opening .opened 1 .towardOpen } := by
  obtain hl | hl := hl
  · have hjam : k.presenting k.unjammed = k := by
      rw [Cavity.unjammed, if_neg (by obtain h | h := hl <;> simp [h])]
      rfl
    rw [Cavity.sendRelease_halted e k hl, hjam, if_pos hs]
    split
    · rfl
    next ho => rw [Cavity.releasedLock, if_pos (.inr hc), Lock.released, if_neg ho]
  · have hjam : k.presenting k.unjammed = k.absent .lockJam := by
      rw [Cavity.unjammed, if_pos hl]
      rfl
    rw [Cavity.sendRelease_jammed e k hl, hjam, if_pos hs, if_pos hc]

/-- A cavity that a FAULT CLEAR releases: its record removed, and the LOCK JAM of a JAMMED lock taken away. -/
def Cavity.freed (k : Cavity) : Cavity :=
  { k with cond := { k.cond with present := k.unjammed, trip := none } }

/-- The LOCK JAM of a cleared cavity taken away after its entry to UNLOCKING, or before it. -/
theorem Cavity.presenting_unjammed_enterState (e : Env) (k : Cavity) :
    (k.cleared.enterState e .unlocking).presenting (k.cleared.enterState e .unlocking).unjammed =
      k.freed.enterState e .unlocking := by
  have hpresent : (k.cleared.enterState e .unlocking).cond.present = k.cond.present.del .starved :=
    Cavity.enterState_present e .unlocking k.cleared
  have hjam : (k.cleared.enterState e .unlocking).unjammed = k.unjammed.del .starved := by
    have hlock : (k.cleared.enterState e .unlocking).lock = k.lock := rfl
    unfold Cavity.unjammed
    rw [hlock, hpresent]
    split
    · exact CondSet.del_comm ..
    · rfl
  have hcond := Cavity.enterState_cond e .unlocking k.cleared
  refine Eq.trans ?_ (Cavity.enterState_withPresent e .unlocking k.cleared k.unjammed).symm
  rw [hjam, Cavity.presenting, hcond]
  rfl

theorem Cavity.released_effect {e : Env} {k : Cavity} (hc : k.checkPasses e = true) :
    clearEffect e k (k.released e) := by
  refine ⟨fun ho => ?_, fun hl => ?_⟩
  · rw [Cavity.released, if_pos ho]
    exact ⟨Cavity.endInIdle_endsIdle e rfl rfl rfl rfl rfl rfl, Cavity.endInIdle_lock e _ (by
      show k.lock.state.travelling = false
      rw [ho]; rfl), fun h => Cavity.endInIdle_cond_of_nil (k := k.cleared) h⟩
  · have hne : k.lock.state ≠ .opened := by obtain h | h | h := hl <;> simp [h]
    have hsend := Cavity.sendRelease_checked (k := k.cleared.enterState e .unlocking) rfl hc (or_assoc.2 hl)
    rw [Cavity.presenting_unjammed_enterState] at hsend
    rw [Cavity.released, if_neg hne, hsend]
    have hlock : (k.cleared.enterState e .unlocking).lock = k.lock := rfl
    rw [hlock]
    split
    next ho =>
      rw [Cavity.decideEntry_endInIdle]
      obtain ⟨hends, hrest⟩ := Cavity.endsIdle_of_unlocking (e := e) (k := k.freed) (why := k.cc.lastEnd)
        (l := k.lock.resting .opened) rfl
      refine ⟨hends, hrest, fun h => ?_⟩
      have hpresent : causesIn e.page .idle (k.freed.enterState e .unlocking).cond.present = [] := by
        rw [Cavity.enterState_present]
        exact (causesIn_del_starved e.page _ (by decide)).trans h
      obtain ⟨htrip, hseen⟩ := Cavity.endInIdle_cond_of_nil (e := e)
        (k := { k.freed.enterState e .unlocking with lock := k.lock.resting .opened }) hpresent
      exact ⟨htrip.trans (Cavity.enterState_trip ..), hseen.trans (Cavity.enterState_seen ..)⟩
    next ho => exact Cavity.intoUnlocking_of_quiet (k := k.freed) (why := k.cc.lastEnd)

/-- Settles O27: the checks in order, and each cavity that passes them released. -/
theorem faultClearChecksAndReleases : Obligations.FaultClearChecksAndReleases := by
  unfold Obligations.FaultClearChecksAndReleases
  intro s r h
  refine State.perCavityOrder_taken h (fun c => by rw [Cavity.faultClear_eq]) (fun c hc => ?_) fun c hc => ?_
  · rw [Cavity.faultClear_eq]
    exact if_neg fun hd => by simp [hd, Result.refusal] at hc
  · have hd : clearResult (s.env c) (s.cav c) = .done := by
      unfold clearResult at hc ⊢
      split_ifs at hc ⊢ <;> simp_all [Result.refusal]
    rw [Cavity.faultClear_eq, if_pos hd]
    exact Cavity.released_effect (clearResult_done hd)

end Sys2Proof.Machine

namespace Sys2Proof.Machine

/-! ## TRIP RECORD (R148) -/

section Answers
variable {α β : Type*}

/-- A member of a list in ascending order stands after the lesser members and before the greater. -/
theorem eq_filter_lt_append {l : List CavNo} (h : l.Pairwise (· < ·)) {c : CavNo} (hc : c ∈ l) :
    l = l.filter (· < c) ++ c :: l.filter (c < ·) := by
  induction l with
  | nil => cases hc
  | cons a as ih =>
    obtain ⟨hlt, has⟩ := List.pairwise_cons.1 h
    obtain rfl | hmem := List.mem_cons.1 hc
    · have hnone : as.filter (· < c) = [] := List.filter_eq_nil_iff.2 fun b hb => by simpa using (hlt b hb).le
      have hall : as.filter (c < ·) = as := List.filter_eq_self.2 fun b hb => by simpa using hlt b hb
      simp [hnone, hall]
    · have hac := hlt c hmem
      simp only [List.filter_cons, hac, decide_true, if_true, hac.le.not_gt, decide_false, Bool.false_eq_true,
        if_false, List.cons_append]
      exact congrArg (a :: ·) (ih has hmem)

theorem selected_pairwise (sel : Byte) : (selected sel).Pairwise (· < ·) :=
  List.Pairwise.filter _ (by decide)

/-- What gives nothing adds nothing. -/
theorem flatMap_filter_of_nil {l : List α} {p : α → Bool} {f : α → List β}
    (h : ∀ a ∈ l, p a = false → f a = []) : (l.filter p).flatMap f = l.flatMap f := by
  induction l with
  | nil => rfl
  | cons a as ih =>
    have ih := ih fun b hb => h b (List.mem_cons_of_mem a hb)
    cases hp : p a with
    | true => simp [hp, ih]
    | false => simp [hp, ih, h a List.mem_cons_self hp]

end Answers

section TripRecords
variable {s : State} {r : Request} {c : CavNo}

/-- The 12 bytes of a record's group. -/
theorem TripRecord.group_reportedIn (x : TripRecord) : x.reportedIn x.group := by
  have hseg : segIndexCode x.segIndex = BitVec.ofNat 8 (x.segIndex.getD 255) := by cases x.segIndex <;> rfl
  have htemp (v : Int) (hi lo : Byte) (h : [hi, lo] = bytesOfInt v) : word16 hi lo = BitVec.ofInt 16 v := by
    obtain ⟨rfl, rfl⟩ : hi = BitVec.ofNat 8 ((BitVec.ofInt 16 v).toNat / 256) ∧
        lo = BitVec.ofNat 8 (BitVec.ofInt 16 v).toNat := by simpa [bytesOfInt, bytesOfNat] using h
    rw [word16_bytes, BitVec.ofNat_toNat, BitVec.setWidth_eq]
  exact ⟨rfl, rfl, word16_bytes _, rfl, hseg, htemp _ _ _ rfl, htemp _ _ _ rfl, rfl, word16_bytes _⟩

/-- What TRIP RECORD answers for a cavity: its result, and a group where that is DONE. -/
theorem State.tripAnswer_eq (s : State) (c : CavNo) :
    (s.tripAnswer c).1 = s.tripRecordResult c ∧
      (s.tripRecordResult c = .done → ∃ x, (s.cav c).cond.trip = some x ∧ (s.tripAnswer c).2 = x.group) ∧
      (s.tripRecordResult c ≠ .done → (s.tripAnswer c).2 = []) := by
  unfold State.tripAnswer State.tripRecordResult State.fitted
  by_cases hf : c.val < s.cfg.part.fittedCount
  · cases ht : (s.cav c).cond.trip with
    | none => simp [hf]
    | some x => simp [hf]
  · simp [hf]

/-- The cavities whose record TRIP RECORD tells. -/
def State.told (s : State) (r : Request) : List CavNo :=
  (selected r.sel).filter fun c => s.tripRecordResult c = .done

/-- The results in cavity order, then the groups of the cavities told of. -/
theorem serveTripRecord_reply (r : Request) (s : State) : (serveTripRecord r s).2 =
    (selected r.sel).map (fun c => (s.tripRecordResult c).code) ++
      (s.told r).flatMap fun c => (s.tripAnswer c).2 := by
  have hgroups : (s.told r).flatMap (fun c => (s.tripAnswer c).2) =
      (selected r.sel).flatMap fun c => (s.tripAnswer c).2 :=
    flatMap_filter_of_nil fun c _ hc => (s.tripAnswer_eq c).2.2 (by simpa using hc)
  rw [hgroups]
  unfold serveTripRecord
  simp only [List.map_map, List.flatMap_map, (s.tripAnswer_eq _).1, Function.comp_def]

/-- The groups of cavities told of are 12 bytes each. -/
theorem State.length_groups {cs : List CavNo} (h : ∀ c ∈ cs, s.tripRecordResult c = .done) :
    (cs.flatMap fun c => (s.tripAnswer c).2).length = 12 * cs.length := by
  induction cs with
  | nil => rfl
  | cons c cs ih =>
    obtain ⟨x, -, hx⟩ := (s.tripAnswer_eq c).2.1 (h c List.mem_cons_self)
    rw [List.flatMap_cons, List.length_append, ih fun d hd => h d (List.mem_cons_of_mem c hd), hx,
      x.group_reportedIn.1, List.length_cons]
    omega

theorem State.tripRecordResult_of_told (h : c ∈ s.told r) : s.tripRecordResult c = .done := by
  simpa using (List.mem_filter.1 h).2

/-- The result of a selected cavity stands at its place among the selected. -/
theorem serveTripRecord_result (hc : c ∈ selected r.sel) :
    at8 (serveTripRecord r s).2 ((selected r.sel).filter (· < c)).length = (s.tripRecordResult c).code := by
  have hsplit := eq_filter_lt_append (selected_pairwise r.sel) hc
  rw [serveTripRecord_reply]
  generalize (selected r.sel).filter (· < c) = before at *
  rw [hsplit]
  simp [at8]

/-- The group of a cavity told of stands at its place among those told of. -/
theorem serveTripRecord_group (hc : c ∈ s.told r) : ∃ x, (s.cav c).cond.trip = some x ∧
    (((serveTripRecord r s).2.drop
      ((selected r.sel).length + 12 * ((s.told r).filter (· < c)).length)).take 12) = x.group := by
  obtain ⟨x, hx, hgroup⟩ := (s.tripAnswer_eq c).2.1 (State.tripRecordResult_of_told hc)
  have hbefore : ((((s.told r).filter (· < c)).flatMap fun c => (s.tripAnswer c).2)).length =
      12 * ((s.told r).filter (· < c)).length :=
    State.length_groups fun d hd => State.tripRecordResult_of_told (List.mem_filter.1 hd).1
  have hsplit : s.told r = (s.told r).filter (· < c) ++ c :: (s.told r).filter (c < ·) :=
    eq_filter_lt_append ((selected_pairwise r.sel).filter _) hc
  refine ⟨x, hx, ?_⟩
  rw [serveTripRecord_reply, ← hbefore, ← List.length_map (f := fun c => (s.tripRecordResult c).code),
    List.drop_length_add_append]
  generalize ((s.told r).filter (· < c)) = before at *
  rw [hsplit, List.flatMap_append, List.drop_left, List.flatMap_cons, hgroup]
  exact List.take_left' x.group_reportedIn.1

theorem State.tripRecord_taken (h : s.takes .tripRecord r) :
    s.tripRecordTaken r (s.request .tripRecord serveTripRecord r).decideAttn := by
  obtain ⟨hkeeps, hcavs, hlink⟩ := State.request_onlyLink (payload := (serveTripRecord r s).2) h
    (serve := serveTripRecord) rfl
  have hsent := State.payloadSent_of_linkIs hlink
  unfold State.tripRecordTaken State.repliedWith
  dsimp only
  rw [hsent]
  refine ⟨hkeeps, hcavs, ⟨hlink, ?_⟩, fun c hc => serveTripRecord_result hc, fun c hc x hx => ?_⟩
  · rw [serveTripRecord_reply, List.length_append, List.length_map,
      State.length_groups fun c hc => State.tripRecordResult_of_told hc]
    rfl
  · obtain ⟨y, hy, hgroup⟩ := serveTripRecord_group hc
    obtain rfl : y = x := Option.some.inj (hy.symm.trans hx)
    have hgroup : List.take 12 (List.drop ((selected r.sel).length + 12 * (((selected r.sel).filter fun c =>
      s.tripRecordResult c = .done).filter (· < c)).length) (serveTripRecord r s).2) = y.group := hgroup
    rw [hgroup]
    exact y.group_reportedIn

/-- Settles O30: each selected cavity's result and group in their places, the part left as it is. -/
theorem tripRecordIsReportedUnchanged : Obligations.TripRecordIsReportedUnchanged := by
  unfold Obligations.TripRecordIsReportedUnchanged
  exact fun s r h => ⟨_, rfl, State.tripRecord_taken h⟩

end TripRecords

end Sys2Proof.Machine

namespace Sys2Proof.Machine

/-! ## What a trip leaves, and what stands after it (R136, R139 to R142) -/

/-- The record `y` is `x`, but that causes may have joined its later causes. -/
def TripRecord.GrowsTo (x y : TripRecord) : Prop :=
  y = { x with later := y.later } ∧ ∀ c, x.later.has c = true → y.later.has c = true

/-- A trip record stands: its later causes alone may have grown (R142). -/
def Cavity.RecordStands (k m : Cavity) : Prop :=
  ∀ x ∈ k.cond.trip, ∃ y ∈ m.cond.trip, x.GrowsTo y

/-- The record and the fields of a tripped cavity agree with the trip and with each other; the conditions seen,
the events and the mark detector apart. -/
def Cavity.Recorded (p : CavityPage) (k : Cavity) (x : TripRecord) : Prop :=
  tripsIn p x.stateBefore x.first = true ∧ x.cavityReading = k.prb.cavity.reading ∧
    x.doorReading = k.prb.door.reading ∧ x.cycle = k.cc.cycle ∧ x.lockState = k.lock.state ∧
    k.lock.state.travelling = false ∧ k.cc.startSeg = none ∧ k.cc.speff = 0 ∧ k.cc.demand = 0 ∧
    k.cc.cookSetpoint = 0 ∧ k.cc.cookSet = 0 ∧ k.fan.command = .high ∧ k.starve = 0 ∧
    (x.stateBefore ≠ .idle ∧ x.stateBefore ≠ .cooking → k.cc.lastEnd = .tripped) ∧
    (x.stateBefore = .cleaning ∨ x.stateBefore = .held →
      k.cc.segIndex = none ∧ k.cc.stack = [] ∧ k.cc.elapsed = 0 ∧ k.cc.soak = 0) ∧
    (x.stateBefore ≠ .cleaning ∧ x.stateBefore ≠ .held → x.segIndex = none)

/-- What `Cavity.toldByTrip` says of a cavity, its channels and the catalyst command apart: those the heat law
says of every FAULTED cavity. -/
def Cavity.Told (p : CavityPage) (k : Cavity) : Prop :=
  ∃ x ∈ k.cond.trip, k.Recorded p x ∧ k.cond.seen.has x.first = true ∧ maskHas k.cc.events 5 = true ∧
    (x.stateBefore = .cleaning ∨ x.stateBefore = .held → k.prb.mark = none)

/-- What `Cavity.Recorded` reads of a cavity, the rest at start-up values. -/
def Cavity.recordView (k : Cavity) : Cavity :=
  { cc := { k.cc with events := 0, arrived := false, markHeld := false, recovering := false }
    prb := { cavity := { reading := k.prb.cavity.reading }, door := { reading := k.prb.door.reading } }
    lock := { state := k.lock.state }
    fan := { command := k.fan.command }, starve := k.starve }

/-- A change that leaves a FAULTED cavity with its trip record and with what the trip has written. -/
structure Cavity.Rests (k m : Cavity) : Prop where
  view : m.recordView = k.recordView
  stands : k.RecordStands m
  seen : ∀ c, k.cond.seen.has c = true → m.cond.seen.has c = true
  event : maskHas k.cc.events 5 = true → maskHas m.cc.events 5 = true
  mark : k.prb.mark = none → m.prb.mark = none

/-- The switches of a lock. -/
def Lock.switches (l : Lock) : Bool × Bool × Bool := (l.lockedSw, l.openSw, l.doorClosed)

/-- A change of a cavity by the controller and the condition monitor: nothing that a trip spares moves but by
them, a FAULTED cavity stays FAULTED with its record, and a cavity that is FAULTED after it is told by its trip,
where it was so before or was not FAULTED. -/
structure Cavity.Proceeds (p : CavityPage) (k m : Cavity) : Prop extends Cavity.Handles False k m where
  switches : m.lock.switches = k.lock.switches
  stands : k.cc.state = .faulted → m.cc.state = .faulted ∧ k.RecordStands m
  told : k.presentSeen → (k.cc.state = .faulted → k.Told p) → m.cc.state = .faulted → m.Told p

section Records
variable {p : CavityPage} {k m n : Cavity} {x y z : TripRecord}

theorem TripRecord.GrowsTo.refl (x : TripRecord) : x.GrowsTo x := ⟨rfl, fun _ h => h⟩

theorem TripRecord.GrowsTo.trans (h : x.GrowsTo y) (h' : y.GrowsTo z) : x.GrowsTo z := by
  obtain ⟨hy, hxy⟩ := h
  obtain ⟨hz, hyz⟩ := h'
  refine ⟨?_, fun c hc => hyz c (hxy c hc)⟩
  rw [hy] at hz
  exact hz

theorem Cavity.RecordStands.of_eq (h : m.cond.trip = k.cond.trip) : k.RecordStands m :=
  fun x hx => ⟨x, by rwa [h], .refl x⟩

theorem Cavity.RecordStands.trans (h : k.RecordStands m) (h' : m.RecordStands n) : k.RecordStands n := by
  intro x hx
  obtain ⟨y, hy, hxy⟩ := h x hx
  obtain ⟨z, hz, hyz⟩ := h' y hy
  exact ⟨z, hz, hxy.trans hyz⟩

/-- What a trip has told of a cavity is told of it after a change that rests. -/
theorem Cavity.Told.rests (h : k.Told p) (hr : k.Rests m) : m.Told p := by
  obtain ⟨x, hx, hrec, hseen, hevent, hmark⟩ := h
  obtain ⟨hview, hstands, hkeeps, hevents, hmarks⟩ := hr
  obtain ⟨y, hy, hgrown, -⟩ := hstands x hx
  have hrec : k.recordView.Recorded p x := hrec
  rw [← hview] at hrec
  have hrec : m.Recorded p y := by
    rw [hgrown]
    exact hrec
  rw [hgrown] at hy
  exact ⟨_, hy, by rwa [hgrown] at hrec, hkeeps _ hseen, hevents hevent, fun hb => hmarks (hmark hb)⟩

end Records

/-! ### The changes that proceed -/

section Proceeds
variable {p : CavityPage} {e : Env} {k m n : Cavity}

theorem Cavity.Proceeds.refl (k : Cavity) : k.Proceeds p k :=
  ⟨.refl k, rfl, fun h => ⟨h, .of_eq rfl⟩, fun _ h hs => h hs⟩

theorem Cavity.Proceeds.trans (h : k.Proceeds p m) (h' : m.Proceeds p n) : k.Proceeds p n where
  toHandles := h.toHandles.trans h'.toHandles
  switches := h'.switches.trans h.switches
  stands hk := by
    obtain ⟨hm, hkm⟩ := h.stands hk
    obtain ⟨hn, hmn⟩ := h'.stands hm
    exact ⟨hn, hkm.trans hmn⟩
  told hs hk := h'.told (h.presentSeen hs) (h.told hs hk)

/-- A change between states other than FAULTED. -/
theorem Cavity.Proceeds.free (h : Cavity.Handles False k m) (hl : m.lock.switches = k.lock.switches)
    (hk : k.cc.state ≠ .faulted) (hm : m.cc.state ≠ .faulted) : k.Proceeds p m :=
  ⟨h, hl, fun hf => absurd hf hk, fun _ _ hf => absurd hf hm⟩

/-- A change that leaves the state, and rests in FAULTED. -/
theorem Cavity.Proceeds.within (h : Cavity.Handles False k m) (hl : m.lock.switches = k.lock.switches)
    (hs : m.cc.state = k.cc.state) (hstands : k.cc.state = .faulted → k.RecordStands m)
    (hr : k.cc.state = .faulted → k.Told p → k.Rests m) : k.Proceeds p m where
  toHandles := h
  switches := hl
  stands hf := ⟨hs.trans hf, hstands hf⟩
  told _ hk hf := by
    have hf := hs.symm.trans hf
    exact (hk hf).rests (hr hf (hk hf))

/-- What the trip and condition laws and the trip record read of a cavity, the rest at start-up values. -/
def Cavity.tripView (k : Cavity) : Cavity :=
  { cc := { k.cc with arrived := false, markHeld := false, recovering := false }, prb := k.prb
    lock := { state := k.lock.state, lockedSw := k.lock.lockedSw, openSw := k.lock.openSw,
              doorClosed := k.lock.doorClosed }
    fan := { command := k.fan.command, probeView := k.fan.probeView, warmView := k.fan.warmView,
             stall := k.fan.stall }
    cond := k.cond, starve := k.starve }

/-- Nothing that the trip record reads. -/
theorem Cavity.Proceeds.same (h : m.tripView = k.tripView) : k.Proceeds p m := by
  have read {α : Type} (f : Cavity → α) : f m.tripView = f k.tripView := congrArg f h
  have hcond : m.cond = k.cond := read Cavity.cond
  refine .within (.same (read Cavity.monitored)) (read fun x => x.lock.switches)
    (read fun x => x.cc.state) (fun _ => .of_eq (by rw [hcond])) fun _ _ => ?_
  exact ⟨read Cavity.recordView, .of_eq (by rw [hcond]), fun c hc => by rwa [hcond],
    (congrArg (maskHas · 5 = true) (read fun x => x.cc.events)).mpr,
    (congrArg (· = none) (read fun x => x.prb.mark)).mpr⟩

/-- After a change that the trip record does not read. -/
theorem Cavity.Proceeds.after (m : Cavity) (h : m.tripView = k.tripView) (h' : m.Proceeds p n) :
    k.Proceeds p n := (Cavity.Proceeds.same h).trans h'

/-! ### The trip -/

theorem Lock.takeStop_switches (l : Lock) : l.takeStop.1.switches = l.switches := by
  unfold Lock.takeStop
  split <;> rfl

/-- The controller's fields that a trip leaves, and those that it clears with the program. -/
theorem Cavity.trip_program (c : Condition) (later : CondSet) (k : Cavity) :
    (k.trip e c later).cc.cycle = k.cc.cycle ∧
      (k.cc.state ≠ .idle ∧ k.cc.state ≠ .cooking → k.cc.state ≠ .faulted →
        (k.trip e c later).cc.lastEnd = .tripped) ∧
      (k.cc.state = .cleaning ∨ k.cc.state = .held → (k.trip e c later).cc.segIndex = none ∧
        (k.trip e c later).cc.stack = [] ∧ (k.trip e c later).cc.elapsed = 0 ∧
        (k.trip e c later).cc.soak = 0 ∧ (k.trip e c later).prb.mark = none) := by
  unfold Cavity.trip
  cases hs : k.cc.state <;> simp [CavState.inCycle, Cavity.clearProgram, Cavity.writeEnd, Cavity.setEvent] <;> rfl

/-- A trip by a cause that the table lets trip the state tells of itself. -/
theorem Cavity.trip_told {c : Condition} (later : CondSet) (hk : k.cc.state ≠ .faulted)
    (hc : tripsIn e.page k.cc.state c = true) (hseen : k.cond.seen.has c = true) :
    (k.trip e c later).Told e.page := by
  obtain ⟨hdemand, hspeff, hevents, hstart, hsetpoint, hset, -⟩ := Cavity.trip_cc e c later k
  obtain ⟨hcycle, hend, hprogram⟩ := Cavity.trip_program (e := e) c later k
  have hreadings : (k.trip e c later).prb.cavity = k.prb.cavity ∧ (k.trip e c later).prb.door = k.prb.door := by
    rw [Cavity.trip_prb]
    split <;> exact ⟨rfl, rfl⟩
  obtain ⟨hcav, hdoor⟩ := hreadings
  have hrests : (k.trip e c later).lock.state.travelling = false := by
    rw [Cavity.trip_lock]
    exact Lock.takeStop_rests _
  have hno : k.cc.state ≠ .cleaning ∧ k.cc.state ≠ .held →
      (k.trip e c later).cond.trip.bind (·.segIndex) = none := fun hne => by
    rw [Cavity.trip_record_segIndex, if_neg (by simp [hne])]
  refine ⟨_, rfl, ⟨hc, by rw [hcav]; rfl, by rw [hdoor]; rfl, hcycle.symm, rfl, hrests, hstart, hspeff, hdemand,
    hsetpoint, hset, (Cavity.trip_fan e c later k).1, Cavity.trip_starve .., fun h => hend h hk,
    fun h => ?_, hno⟩, ?_, ?_, fun h => ?_⟩
  · obtain ⟨hseg, hstack, helapsed, hsoak, -⟩ := hprogram h
    exact ⟨hseg, hstack, helapsed, hsoak⟩
  · rw [(Cavity.trip_cond e c later k).2]
    exact hseen
  · rw [hevents]
    simp [CavEvent.bit]
  · obtain ⟨-, -, -, -, hmark⟩ := hprogram h
    exact hmark

/-- A trip by a cause that the table lets trip the state, and that is seen. -/
theorem Cavity.Proceeds.tripBy {c : Condition} (later : CondSet) (hk : k.cc.state ≠ .faulted)
    (hc : tripsIn e.page k.cc.state c = true) (hseen : k.presentSeen → k.cond.seen.has c = true) :
    k.Proceeds e.page (k.trip e c later) where
  toHandles := .trip_of c later
  switches := by
    rw [Cavity.trip_lock]
    exact Lock.takeStop_switches _
  stands hf := absurd hf hk
  told hs _ _ := Cavity.trip_told later hk hc (hseen hs)

/-- One decision over the conditions present. -/
theorem Cavity.Proceeds.decideAmong (asked : Condition → Bool) : k.Proceeds e.page (k.decideAmong e asked) := by
  unfold Cavity.decideAmong
  split
  next => exact .refl k
  next c rest hcs =>
    have hmem := List.mem_filter.1 (hcs ▸ List.mem_cons_self : c ∈ allConditions.filter fun c =>
      asked c && k.cond.present.has c && k.cc.state.trips e.page c)
    obtain ⟨-, hmem⟩ := hmem
    simp only [Bool.and_eq_true, CavState.trips_eq] at hmem
    obtain ⟨⟨-, hpresent⟩, htrips⟩ := hmem
    refine .tripBy _ (fun hf => ?_) htrips fun hs => (Cavity.presentSeen_iff k).1 hs c hpresent
    rw [hf, tripsIn_faulted] at htrips
    cases htrips

theorem Cavity.Proceeds.decideEntry : k.Proceeds e.page (k.decideEntry e) := .decideAmong _

/-- A condition judged in FAULTED joins the later causes at most (R142). -/
theorem Cavity.judge_faulted (hk : k.cc.state = .faulted) (c : Condition) : ∃ t, k.judge e c =
    { k with cond := { k.cond with trip := t } } ∧ ∀ x ∈ k.cond.trip, ∃ y ∈ t, x.GrowsTo y := by
  unfold Cavity.judge
  rw [if_pos hk]
  split
  · refine ⟨_, rfl, fun x hx => ⟨{ x with later := x.later.add c }, Option.mem_map_of_mem _ hx, rfl, ?_⟩⟩
    intro d hd
    simp [hd]
  · exact ⟨_, rfl, fun x hx => ⟨x, hx, .refl x⟩⟩

/-- A condition that is seen is judged. -/
theorem Cavity.Proceeds.judge {c : Condition} (hseen : k.presentSeen → k.cond.seen.has c = true) :
    k.Proceeds e.page (k.judge e c) := by
  obtain ⟨hf, -⟩ | ⟨hk, hc, h⟩ | ⟨-, -, h⟩ := Cavity.judge_cases e k c
  · obtain ⟨t, h, hstands⟩ := Cavity.judge_faulted (e := e) hf c
    refine .within (.judge c) (by rw [h]) (by rw [h]) (fun _ => by rw [h]; exact hstands) fun _ _ => ?_
    rw [h]
    exact ⟨rfl, hstands, fun _ h => h, fun h => h, fun h => h⟩
  · rw [h]
    exact .tripBy 0 hk hc hseen
  · rw [h]
    exact .refl k

/-- A change of the conditions present and seen alone. -/
theorem Cavity.Proceeds.noted (h : Cavity.Handles False k m) (hm : m = { k with cond := m.cond })
    (ht : m.cond.trip = k.cond.trip) : k.Proceeds p m := by
  refine .within h (by rw [hm]) (by rw [hm]) (fun _ => .of_eq ht) fun _ _ => ?_
  exact ⟨by rw [hm]; rfl, .of_eq ht, h.seen, by rw [hm]; exact fun h => h, by rw [hm]; exact fun h => h⟩

/-- A momentary condition is seen, and judged. -/
theorem Cavity.Proceeds.momentary (c : Condition) : k.Proceeds e.page (k.momentary e c) := by
  let m : Cavity := { k with cond := { k.cond with seen := k.cond.seen.add c } }
  have hseen (d : Condition) (hd : k.cond.seen.has d = true) : m.cond.seen.has d = true := by simp [m, hd]
  have hm : Cavity.Handles False k m := by
    refine ⟨⟨rfl, rfl, rfl, fun _ _ => rfl, nofun, hseen, fun hs => ?_⟩, fun ht => ht⟩
    rw [Cavity.presentSeen_iff] at hs ⊢
    exact fun d hd => hseen d (hs d hd)
  exact Cavity.Proceeds.trans (.noted hm rfl rfl) (.judge fun _ => by simp [m])

/-- A condition of the lock, the fan or the scheduler arises. -/
theorem Cavity.Proceeds.onset {c : Condition} (hc : ¬ c.steady) : k.Proceeds e.page (k.onset e c) := by
  have hm : Cavity.Handles False k (k.withPresent c) := by
    refine ⟨⟨rfl, rfl, rfl, fun d hd => ?_, nofun, fun d hd => by simp [Cavity.withPresent, hd],
      Cavity.presentSeen_withPresent⟩, fun ht => ht⟩
    have hne : d ≠ c := fun h => hc (h ▸ hd)
    simp [Cavity.withPresent, hne]
  exact Cavity.Proceeds.trans (.noted hm rfl rfl) (.judge fun _ => by simp [Cavity.withPresent])

/-- A condition of the lock, the fan or the scheduler ends. -/
theorem Cavity.Proceeds.absent {c : Condition} (hc : ¬ c.steady) : k.Proceeds p (k.absent c) := by
  refine .noted ⟨⟨rfl, rfl, rfl, fun d hd => ?_, nofun, fun _ h => h, Cavity.presentSeen_absent⟩, fun h => h⟩
    rfl rfl
  have hne : d ≠ c := fun h => hc (h ▸ hd)
  simp [Cavity.absent, hne]

/-! ### The fan and the entry of a state -/

/-- A fan decided: in FAULTED its command is HIGH whatever it is told (R125). -/
theorem Cavity.Proceeds.decideFan : k.Proceeds p k.decideFan := by
  refine .within .decideFan rfl rfl (fun _ => .of_eq (Cavity.decideFan_trip k)) fun hf ht => ?_
  have hcommand : k.decideFan.fan.command = k.fan.command := by
    obtain ⟨x, -, ⟨-, -, -, -, -, -, -, -, -, -, -, hhigh, -⟩, -⟩ := ht
    rw [Cavity.decideFan_command, hhigh, hf]
    rfl
  refine ⟨?_, .of_eq (Cavity.decideFan_trip k), fun c hc => by rwa [Cavity.decideFan_seen], fun h => h, fun h => h⟩
  unfold Cavity.recordView
  rw [hcommand]
  rfl

/-- A change of the fan that the trip record does not read, and the fan decided. -/
theorem Cavity.Proceeds.fan (f : Fan) (hprobe : f.probeView = k.fan.probeView)
    (hwarm : f.warmView = k.fan.warmView) (hstall : f.stall = k.fan.stall) (hcommand : f.command = k.fan.command) :
    k.Proceeds p ({ k with fan := f } : Cavity).decideFan := by
  refine .after { k with fan := f } ?_ .decideFan
  unfold Cavity.tripView
  dsimp only
  rw [hprobe, hwarm, hstall, hcommand]

theorem Cavity.Proceeds.enterState {st : CavState} (hst : st ≠ .faulted) (hk : k.cc.state ≠ .faulted) :
    k.Proceeds p (k.enterState e st) := .free (.enterState hst hk) rfl hk hst

end Proceeds

end Sys2Proof.Machine

namespace Sys2Proof.Machine

/-! ## The controller proceeds -/

section Controller
variable {p : CavityPage} {e : Env} {k m n : Cavity} {send : Cavity → Cavity}

/-- A change that the trip and condition laws do not read, in a state other than FAULTED. -/
theorem Cavity.Proceeds.aside (m : Cavity) (h : m.monitored = k.monitored)
    (hl : m.lock.switches = k.lock.switches) (hk : k.cc.state ≠ .faulted) : k.Proceeds p m := by
  have read {α : Type} (f : Cavity → α) : f m.monitored = f k.monitored := congrArg f h
  have hs : m.cc.state = k.cc.state := read fun x => x.cc.state
  exact .free (.same h) hl hk (hs ▸ hk)

theorem Cavity.Proceeds.endInIdle (hk : k.cc.state ≠ .faulted) : k.Proceeds e.page (k.endInIdle e) :=
  Cavity.Proceeds.trans (.enterState (e := e) (st := .idle) nofun hk)
    (Cavity.Proceeds.trans (.aside ((k.enterState e .idle).setEvent .cycleEnded) rfl rfl nofun) .decideEntry)

theorem Cavity.Proceeds.enterCooldown (why : LastEnd) (hk : k.cc.state ≠ .faulted) :
    k.Proceeds e.page (k.enterCooldown e why) :=
  Cavity.Proceeds.trans (.aside (k.writeEnd why) rfl rfl hk)
    (Cavity.Proceeds.trans (.enterState (e := e) (st := .cooldown) nofun hk)
      (Cavity.Proceeds.trans (.aside ((k.writeEnd why).enterState e .cooldown).clearProgram rfl rfl nofun)
        .decideEntry))

theorem Cavity.Proceeds.programFault (sub : ProgramFault) (i : Option Nat) (stack : List Nat)
    (hk : k.cc.state ≠ .faulted) : k.Proceeds e.page (k.programFault e sub i stack) := by
  unfold Cavity.programFault
  dsimp only
  refine Cavity.Proceeds.trans (.aside { k with cc := { k.cc with segIndex := i, stack := stack } } rfl rfl hk)
    (Cavity.Proceeds.trans (.momentary .program) ?_)
  split
  next => exact .refl _
  next hs => exact .enterCooldown _ hs

theorem Cavity.Proceeds.moveTo (hk : k.cc.state ≠ .faulted) (i : Nat) : k.Proceeds e.page (k.moveTo e i) := by
  unfold Cavity.moveTo
  split
  next j stack _ => exact .free (.enterSegment j stack) rfl hk hk
  next j stack _ =>
    exact Cavity.Proceeds.trans
      (.aside { k with cc := { k.cc with segIndex := some j, stack := stack } } rfl rfl hk) (.enterCooldown _ hk)
  next sub j stack _ => exact .programFault sub j stack hk

theorem Cavity.Proceeds.segmentEnds (hk : k.cc.state ≠ .faulted) : k.Proceeds e.page (k.segmentEnds e) := by
  unfold Cavity.segmentEnds
  split
  · exact .moveTo hk _
  · exact .refl k

theorem Cavity.Proceeds.enterCleaning (hk : k.cc.state ≠ .faulted) : k.Proceeds e.page (k.enterCleaning e) := by
  cases hi : k.cc.startSeg with
  | none =>
    unfold Cavity.enterCleaning
    rw [hi]
    exact .refl k
  | some i =>
    rw [Cavity.enterCleaning_eq hi]
    have hbegun : (k.enterState e .cleaning).Proceeds e.page (k.begun e) := .aside _ rfl rfl nofun
    exact Cavity.Proceeds.trans (.enterState (e := e) (st := .cleaning) nofun hk) (hbegun.trans
      (Cavity.Proceeds.trans (.moveTo (k := k.begun e) nofun i) .decideEntry))

/-! ### The lock's reports -/

/-- A way of sending RELEASE that proceeds from every state but FAULTED. -/
def Cavity.SendsOn (p : CavityPage) (send : Cavity → Cavity) : Prop :=
  ∀ k : Cavity, k.cc.state ≠ .faulted → k.Proceeds p (send k)

theorem Cavity.sendsOn_id : Cavity.SendsOn p id := fun k _ => .refl k

theorem Cavity.Proceeds.failStart (hsend : Cavity.SendsOn e.page send) (why : StartFault)
    (hk : k.cc.state = .locking) : k.Proceeds e.page (k.failStart e why send) := by
  have hk : k.cc.state ≠ .faulted := by simp [hk]
  exact Cavity.Proceeds.trans (.aside (k.writeEnd (.startFailed why)) rfl rfl hk)
    (Cavity.Proceeds.trans (.enterState (e := e) (st := .unlocking) nofun hk)
      (Cavity.Proceeds.trans (hsend _ nofun) .decideEntry))

theorem Cavity.Proceeds.handOver (hsend : Cavity.SendsOn e.page send) (r : LockReport) :
    k.Proceeds e.page (k.handOver e send r) := by
  cases r with
  | jamPresent => exact .onset fun hs => hs.1 rfl
  | jamAbsent => exact .absent fun hs => hs.1 rfl
  | lockLost => exact .momentary _
  | doorForced => exact .momentary _
  | locked =>
    simp only [Cavity.handOver, Cavity.answer]
    split
    next h => exact .enterCleaning (by simp [h])
    next h => exact hsend k (by simp [h])
    next => exact .refl k
  | opened =>
    rw [Cavity.handOver_opened]
    split
    next h => exact .endInIdle (by simp [h])
    next => exact .refl k
  | unknown =>
    simp only [Cavity.handOver, Cavity.answer]
    split
    next h => exact .failStart hsend _ h
    next h => exact hsend k (by simp [h])
    next => exact .refl k
  | jammed =>
    simp only [Cavity.handOver, Cavity.answer]
    split
    next h =>
      simp only [Bool.and_eq_true, decide_eq_true_eq] at h
      exact .failStart hsend _ h.1
    next => exact .refl k
  | doorOpened =>
    simp only [Cavity.handOver, Cavity.answer]
    split
    next h => exact .failStart Cavity.sendsOn_id _ h
    next => exact .refl k
  | lockRefused =>
    simp only [Cavity.handOver, Cavity.answer]
    split
    next h =>
      have hk : k.cc.state ≠ .faulted := by simp [h]
      exact Cavity.Proceeds.trans (.aside (k.writeEnd (.startFailed .doorOpen)) rfl rfl hk) (.endInIdle hk)
    next h => exact .endInIdle (by simp [h])
    next => exact .refl k

/-- The reports of a lock drive, once its new record stands. -/
theorem Cavity.Proceeds.reports (hsend : Cavity.SendsOn e.page send) (rs : List LockReport) :
    ∀ k : Cavity, k.Proceeds e.page (rs.foldl (fun k r => k.handOver e send r) k) := by
  induction rs with
  | nil => exact fun k => .refl k
  | cons r rs ih => exact fun k => (Cavity.Proceeds.handOver hsend r).trans (ih _)

/-- A change at the lock drive that leaves its switches, in a state other than FAULTED. -/
theorem Cavity.Proceeds.afterLock (hsend : Cavity.SendsOn e.page send) {res : Lock × List LockReport}
    (hl : res.1.switches = k.lock.switches) (hk : k.cc.state ≠ .faulted) :
    k.Proceeds e.page (k.afterLock e send res) := by
  have hlock : Cavity.Handles False k { k with lock := res.1 } := (k.ownerMoves_lock res.1).still nofun
  exact Cavity.Proceeds.trans (.free hlock hl hk hk) (.reports hsend res.2 _)

end Controller

/-! ### The lock drive leaves its switches -/

section Switches
variable {v : LockEnv} {l : Lock}

theorem Lock.switches_finalLeg (st : LockState) (g : Goal) (n : Nat) :
    (l.finalLeg v st g n).1.switches = l.switches := by
  unfold Lock.finalLeg
  split
  · cases g <;> rfl
  · rfl

theorem Lock.switches_turnLock : (l.turnLock v).1.switches = l.switches := by
  unfold Lock.turnLock
  split
  · exact Lock.switches_finalLeg ..
  · rfl

theorem Lock.switches_turnRelease : (l.turnRelease v).1.switches = l.switches := by
  unfold Lock.turnRelease
  split
  · exact Lock.switches_finalLeg ..
  · rfl

theorem Lock.switches_takeLock : (l.takeLock v).1.switches = l.switches := by
  unfold Lock.takeLock
  split
  case h_4 => rfl
  case h_5 =>
    split_ifs
    · rfl
    · exact Lock.switches_finalLeg ..
    · rfl
  case h_6 => split <;> rfl
  all_goals
    split
    · exact Lock.switches_finalLeg ..
    · rfl

theorem Lock.switches_takeRelease : (l.takeRelease v).1.switches = l.switches := by
  unfold Lock.takeRelease
  split
  case h_1 => rfl
  case h_5 =>
    split_ifs
    · rfl
    · exact Lock.switches_finalLeg ..
    · rfl
  case h_6 => split <;> rfl
  all_goals
    split
    · exact Lock.switches_finalLeg ..
    · rfl

theorem Lock.switches_stopOpenDrive : l.stopOpenDrive.1.switches = l.switches := by
  unfold Lock.stopOpenDrive
  split <;> rfl

theorem Lock.switches_timeout : (l.timeout v).1.switches = l.switches := by
  unfold Lock.timeout
  split_ifs
  · unfold Lock.retryRelease
    split
    · exact Lock.switches_turnRelease
    · rfl
  · rfl
  · unfold Lock.retryLock
    split
    · exact Lock.switches_turnLock
    · rfl
  all_goals rfl

theorem Lock.switches_mainsBack : (l.mainsBack v).1.switches = l.switches := by
  unfold Lock.mainsBack
  dsimp only
  split
  · rfl
  · split <;> rfl
  · rfl

end Switches

section Sends
variable {e : Env} {k m n : Cavity}

theorem Cavity.Proceeds.sendRelease (hk : k.cc.state ≠ .faulted) : k.Proceeds e.page (k.sendRelease e) :=
  .afterLock Cavity.sendsOn_id Lock.switches_takeRelease hk

theorem Cavity.sendsOn_release : Cavity.SendsOn e.page fun k => k.sendRelease e := fun _ hk => .sendRelease hk

theorem Cavity.Proceeds.lockChanged {res : Lock × List LockReport} (hl : res.1.switches = k.lock.switches)
    (hk : k.cc.state ≠ .faulted) : k.Proceeds e.page (k.lockChanged e res) :=
  .afterLock Cavity.sendsOn_release hl hk

/-- UNLOCKING entered with a RELEASE. -/
theorem Cavity.Proceeds.unlock (hk : k.cc.state ≠ .faulted) :
    k.Proceeds e.page (((k.enterState e .unlocking).sendRelease e).decideEntry e) :=
  Cavity.Proceeds.trans (.enterState (e := e) (st := .unlocking) nofun hk)
    (Cavity.Proceeds.trans (.sendRelease nofun) .decideEntry)

/-! ### The orders -/

theorem Cavity.Proceeds.cleanStart (i : Nat) : k.Proceeds e.page (k.cleanStart e i).1 := by
  unfold Cavity.cleanStart
  split_ifs with hk
  case pos | pos | pos | pos | pos | pos => exact .refl k
  let k2 : Cavity := { k.enterState e .locking with
    cc := { (k.enterState e .locking).cc with startSeg := some i } }
  exact Cavity.Proceeds.trans (.enterState (e := e) (st := .locking) nofun (by simp_all))
    (Cavity.Proceeds.trans (.aside k2 rfl rfl nofun)
      (Cavity.Proceeds.trans (.lockChanged Lock.switches_takeLock nofun) .decideEntry))

theorem Cavity.Proceeds.cleanHold : k.Proceeds e.page (k.cleanHold e).1 := by
  unfold Cavity.cleanHold
  split
  next h => exact Cavity.Proceeds.trans (.enterState (e := e) (st := .held) nofun (by simp [h])) .decideEntry
  next => exact .refl k
  next => exact .refl k

theorem Cavity.Proceeds.cleanResume : k.Proceeds e.page (k.cleanResume e).1 := by
  unfold Cavity.cleanResume
  split
  next h =>
    refine Cavity.Proceeds.trans (.enterState (e := e) (st := .cleaning) nofun (by simp [h]))
      (Cavity.Proceeds.trans ?_ .decideEntry)
    exact .aside _ rfl rfl nofun
  next => exact .refl k

theorem Cavity.Proceeds.cleanAbandon : k.Proceeds e.page (k.cleanAbandon e).1 := by
  unfold Cavity.cleanAbandon
  split
  next h =>
    have hk : k.cc.state ≠ .faulted := by simp [h]
    exact Cavity.Proceeds.trans (.aside (k.writeEnd .abandoned) rfl rfl hk) (.unlock hk)
  next h => exact .enterCooldown _ (by simp [h])
  next h => exact .enterCooldown _ (by simp [h])
  all_goals exact .refl k

theorem Cavity.Proceeds.cookSet (v : Int) (elems : Byte) : k.Proceeds e.page (k.cookSet e v elems).1 := by
  rw [Cavity.cookSet]
  split_ifs with h1 h2 h3 h4
  · exact .refl k
  · exact .refl k
  · exact .refl k
  · refine Cavity.Proceeds.trans (.enterState (e := e) (st := .cooking) nofun (by simp [h4]))
      (Cavity.Proceeds.trans ?_ .decideEntry)
    exact .aside _ rfl rfl nofun
  · refine .aside _ rfl rfl fun hf => ?_
    simp [hf] at h1

theorem Cavity.Proceeds.cookOff : k.Proceeds e.page (k.cookOff e).1 := by
  unfold Cavity.cookOff
  split
  next => exact .refl k
  next h => exact Cavity.Proceeds.trans (.enterState (e := e) (st := .idle) nofun (by simp [h])) .decideEntry
  next => exact .refl k

/-! ### The stages of a cavity sample after its reports -/

/-- STOP of a motor that runs toward open finds none in a cavity that a trip has told of. -/
theorem Cavity.stopOpenDrive_of_told {p : CavityPage} (h : k.Told p) (hs : k.lock.shaped) :
    k.lock.stopOpenDrive = (k.lock, []) := by
  obtain ⟨x, -, ⟨-, -, -, -, -, hrest, -⟩, -⟩ := h
  obtain ⟨-, -, hmotor, -⟩ := hs.atRest hrest
  unfold Lock.stopOpenDrive
  rw [if_neg (by simp [hmotor])]

/-- A motor that runs toward open is stopped: in FAULTED none does. -/
theorem Cavity.Proceeds.stopOpenDrive (hs : k.lock.shaped) :
    k.Proceeds e.page (k.lockChanged e k.lock.stopOpenDrive) := by
  by_cases hk : k.cc.state = .faulted
  · have hstop : k.lockChanged e k.lock.stopOpenDrive = { k with lock := k.lock.stopOpenDrive.1 } := by
      unfold Lock.stopOpenDrive
      split
      · simp [Cavity.lockChanged, Cavity.handOver, Cavity.answer, hk]
      · rfl
    rw [hstop]
    have hlock : Cavity.Handles False k { k with lock := k.lock.stopOpenDrive.1 } :=
      (k.ownerMoves_lock _).still nofun
    refine .within hlock Lock.switches_stopOpenDrive rfl (fun _ => .of_eq rfl) fun _ ht => ?_
    rw [Cavity.stopOpenDrive_of_told ht hs]
    exact ⟨rfl, .of_eq rfl, fun _ h => h, fun h => h, fun h => h⟩
  · exact .lockChanged Lock.switches_stopOpenDrive hk

theorem Cavity.Proceeds.releaseLaw (hs : k.lock.shaped) (cls : SampleClass) :
    k.Proceeds e.page (k.releaseLaw e cls) := by
  unfold Cavity.releaseLaw
  split
  · exact .stopOpenDrive hs
  · exact .refl k

/-- A change of an armed detector and of the mark events: a trip out of the program has disarmed it before. -/
theorem Cavity.Proceeds.marks {d : Detector} (hd : k.prb.mark = some d) (hm : m.monitored = k.monitored)
    (hv : m.recordView = k.recordView) (hl : m.lock.switches = k.lock.switches)
    (hevent : maskHas k.cc.events 5 = true → maskHas m.cc.events 5 = true) : k.Proceeds e.page m := by
  have read {α : Type} (f : Cavity → α) : f m.monitored = f k.monitored := congrArg f hm
  have hcond : m.cond = k.cond := read Cavity.cond
  have hstate : m.cc.state = k.cc.state := read fun x => x.cc.state
  refine .within (.same hm) hl hstate (fun _ => .of_eq (by rw [hcond])) fun _ _ => ?_
  exact ⟨hv, .of_eq (by rw [hcond]), fun c hc => by rwa [hcond], hevent, fun hn => by simp [hd] at hn⟩

theorem Cavity.Proceeds.markStage (cls : SampleClass) : k.Proceeds e.page (k.markStage e cls) := by
  unfold Cavity.markStage
  split
  next => exact .refl k
  next d hd =>
    have hmarked : k.Proceeds e.page (k.marked d) := by
      refine .marks hd rfl rfl rfl fun h => ?_
      have hlt : (if d.dir = .rise then 2 else 3) < 6 := by split <;> decide
      simp [Cavity.marked, hlt, h]
    split_ifs
    · obtain ⟨i, -, hk, -, h⟩ | ⟨-, h⟩ := Cavity.confirmMark_cases e d k <;> rw [h]
      · exact hmarked.trans (.moveTo (k := k.marked d) (by simp [Cavity.marked, hk]) _)
      · exact hmarked
    · exact .marks hd rfl rfl rfl fun h => h
    · exact .marks hd rfl rfl rfl fun h => h

theorem Cavity.Proceeds.recoverStage (third : Bool) : k.Proceeds e.page (k.recoverStage e third) := by
  unfold Cavity.recoverStage Cavity.recover
  let k1 : Cavity := { k with cc := { k.cc with recovering := false } }
  have hk1 : k.Proceeds e.page k1 := .same rfl
  dsimp only
  split_ifs with h1 hf
  · exact hk1
  · exact hk1.trans (.fan _ rfl rfl rfl rfl)
  · exact hk1.trans (Cavity.Proceeds.trans (.aside (k1.writeEnd .recovered) rfl rfl hf) (.unlock hf))
  · exact hk1.trans (.enterCooldown _ hf)
  · exact .refl k

theorem Cavity.Proceeds.goodSample : k.Proceeds e.page (k.goodSample e) := by
  unfold Cavity.goodSample
  dsimp only
  split
  · exact .refl k
  split
  next h =>
    split_ifs
    · exact .endInIdle (by simp [h])
    · exact .unlock (by simp [h])
    · exact .refl k
  next h =>
    split
    · exact .sendRelease (by simp [h])
    · exact .refl k
  next h =>
    split
    · exact .sendRelease (by simp [h])
    · exact .refl k
  next => exact .refl k

theorem Cavity.Proceeds.sampleRest (hs : k.lock.shaped) (cls : SampleClass) (third : Bool) :
    k.Proceeds e.page (k.sampleRest e cls third) := by
  have last (m : Cavity) : m.Proceeds e.page (if cls.good then m.goodSample e else m) := by
    split
    · exact .goodSample
    · exact .refl m
  exact (Cavity.Proceeds.releaseLaw hs cls).trans
    (Cavity.Proceeds.trans (.markStage cls) (Cavity.Proceeds.trans (.recoverStage third) (last _)))

/-! ### The window, the fan, and what every cavity takes alike -/

/-- SPeff and the demand set to 0 in FAULTED, where the trip has left them so. -/
theorem Cavity.Proceeds.figures (speff demand : Nat)
    (h : k.cc.state = .faulted → speff ≤ k.cc.speff ∧ demand ≤ k.cc.demand) :
    k.Proceeds e.page { k with cc := { k.cc with speff := speff, demand := demand } } := by
  refine .within (.same rfl) rfl rfl (fun _ => .of_eq rfl) fun hf ht => ?_
  obtain ⟨x, -, ⟨-, -, -, -, -, -, -, hspeff, hdemand, -⟩, -⟩ := ht
  obtain ⟨h1, h2⟩ := h hf
  obtain rfl : speff = k.cc.speff := by omega
  obtain rfl : demand = k.cc.demand := by omega
  exact ⟨rfl, .of_eq rfl, fun _ h => h, fun h => h, fun h => h⟩

theorem Cavity.Proceeds.windowWork : k.Proceeds e.page (k.windowWork e) := by
  have stage1 : k.Proceeds e.page (k.stage1 e) := by
    unfold Cavity.stage1 Cavity.countCleaning Cavity.countHeld
    split
    next hs =>
      have hk : k.cc.state ≠ .faulted := by simp [hs]
      dsimp only
      split_ifs
      · exact Cavity.Proceeds.trans (.aside { k with cc := { k.cc with cycle := k.cc.cycle + 1 } } rfl rfl hk)
          (.enterCooldown _ hk)
      · split <;> exact .aside _ rfl rfl hk
    next hs =>
      have hk : k.cc.state ≠ .faulted := by simp [hs]
      dsimp only
      split_ifs
      · exact Cavity.Proceeds.trans (.aside { k with cc := { k.cc with hold := k.cc.hold + 1 } } rfl rfl hk)
          (.enterCooldown _ hk)
      · exact .aside _ rfl rfl hk
    next => exact .refl k
  have stage2 (m : Cavity) : m.Proceeds e.page (m.stage2 e) :=
    .figures _ m.cc.demand fun hf => ⟨by simp [hf], le_rfl⟩
  have stage3 (m : Cavity) : m.Proceeds e.page (m.stage3 e) := by
    unfold Cavity.stage3
    split
    next i hs hi =>
      have harr : m.Proceeds e.page (m.decideArrived e (e.segs.at i)) ∧
          (m.decideArrived e (e.segs.at i)).cc.state ≠ .faulted := by
        have hk : m.cc.state ≠ .faulted := by simp [hs]
        unfold Cavity.decideArrived
        split
        · exact ⟨.aside _ rfl rfl hk, hk⟩
        · exact ⟨.refl m, hk⟩
      obtain ⟨harr, hk⟩ := harr
      refine harr.trans ?_
      dsimp only
      split_ifs
      · exact .segmentEnds hk
      · exact .enterCooldown _ hk
      · exact .segmentEnds hk
      · exact .refl _
    next => exact .refl m
  have stage4 (m : Cavity) : m.Proceeds e.page (m.stage4 e) :=
    .figures m.cc.speff _ fun hf => ⟨le_rfl, by simp [Cavity.formulaApplies, hf]⟩
  exact ((stage1.trans (stage2 _)).trans (stage3 _)).trans (stage4 _)

theorem Cavity.Proceeds.levelReview : k.Proceeds e.page (k.levelReview e) := by
  unfold Cavity.levelReview
  split
  · exact .fan _ rfl rfl rfl rfl
  · exact .refl k

/-- The tach moves, and FAN STALL with it. -/
theorem Cavity.Proceeds.tach (f : Fan) (hprobe : f.probeView = k.fan.probeView)
    (hwarm : f.warmView = k.fan.warmView) (hcommand : f.command = k.fan.command) :
    k.Proceeds e.page { k with fan := f } := by
  refine .within ((k.ownerMoves_fan f hprobe hwarm).still nofun) rfl rfl (fun _ => .of_eq rfl) fun _ _ => ?_
  refine ⟨?_, .of_eq rfl, fun _ h => h, fun h => h, fun h => h⟩
  unfold Cavity.recordView
  dsimp only
  rw [hcommand]

theorem Cavity.Proceeds.tachPulse : k.Proceeds e.page (k.tachPulse e) := by
  have hmoved := Cavity.Proceeds.tach (e := e) (k := k) { k.fan with pulseSeen := true, stall := false } rfl rfl rfl
  unfold Cavity.tachPulse
  dsimp only
  split_ifs
  · exact hmoved.trans (.absent fun h => h.2.1 rfl)
  · exact hmoved
  · exact .refl k

theorem Cavity.Proceeds.tachExpiry : k.Proceeds e.page (k.tachExpiry e) := by
  unfold Cavity.tachExpiry
  split
  next => exact .refl k
  next => exact .tach _ rfl rfl rfl
  next =>
    dsimp only
    split
    · refine Cavity.Proceeds.trans ?_ (.onset fun h => h.2.1 rfl)
      exact .tach _ rfl rfl rfl
    · exact .tach _ rfl rfl rfl

/-- The starvation counter set to 0, with STARVED absent. -/
theorem Cavity.Proceeds.starve_zero :
    k.Proceeds e.page (({ k with starve := 0 } : Cavity).absent .starved) := by
  have hzero : k.Proceeds e.page { k with starve := 0 } := by
    refine .within ((k.ownerMoves_starve 0).still nofun) rfl rfl (fun _ => .of_eq rfl) fun _ ht => ?_
    obtain ⟨x, -, ⟨-, -, -, -, -, -, -, -, -, -, -, -, hstarve, -⟩, -⟩ := ht
    refine ⟨?_, .of_eq rfl, fun _ h => h, fun h => h, fun h => h⟩
    unfold Cavity.recordView
    rw [hstarve]
  exact hzero.trans (.absent fun h => h.2.2 rfl)

theorem Cavity.Proceeds.moveStarve : k.Proceeds e.page (k.moveStarve e) := by
  unfold Cavity.moveStarve
  split
  next hs =>
    split
    · have hk : k.cc.state ≠ .faulted := by simp [hs]
      have hcounted : k.Proceeds e.page { k with starve := k.starve + 1 } :=
        .free ((k.ownerMoves_starve _).still nofun) rfl hk hk
      dsimp only
      split
      · exact hcounted.trans (.onset fun h => h.2.2 rfl)
      · exact hcounted
    · exact .starve_zero
  next => exact .refl k
  next => exact .starve_zero

theorem Cavity.Proceeds.clampClean : k.Proceeds e.page (k.clampClean e) :=
  .figures _ k.cc.demand fun _ => ⟨min_le_left _ _, le_rfl⟩

theorem Cavity.Proceeds.clampCook : k.Proceeds e.page (k.clampCook e) := by
  unfold Cavity.clampCook
  dsimp only
  split
  next h =>
    refine .aside _ rfl rfl fun hf => ?_
    simp [hf] at h
  next => exact .refl k

theorem Cavity.Proceeds.unlockLowered (hs : k.lock.shaped) : k.Proceeds e.page (k.unlockLowered e) := by
  unfold Cavity.unlockLowered
  split
  · exact .refl k
  · exact .stopOpenDrive hs

end Sends

end Sys2Proof.Machine

namespace Sys2Proof.Machine

/-! ## The samples

A sample moves the probes and the levels, which a trip that nothing else brings would leave as they were. -/

/-- A change within a sample: a FAULTED cavity stays FAULTED with its record, and a cavity that is FAULTED after it
is told by its trip, where it was so before or was not FAULTED. -/
structure Cavity.Accounts (p : CavityPage) (k m : Cavity) : Prop where
  presentSeen : k.presentSeen → m.presentSeen
  stands : k.cc.state = .faulted → m.cc.state = .faulted ∧ k.RecordStands m
  told : k.presentSeen → (k.cc.state = .faulted → k.Told p) → m.cc.state = .faulted → m.Told p

section Samples
variable {p : CavityPage} {e : Env} {k m n : Cavity}

theorem Cavity.Proceeds.accounts (h : k.Proceeds p m) : k.Accounts p m := ⟨h.presentSeen, h.stands, h.told⟩

theorem Cavity.Accounts.refl (k : Cavity) : k.Accounts p k := (Cavity.Proceeds.refl k).accounts

theorem Cavity.Accounts.trans (h : k.Accounts p m) (h' : m.Accounts p n) : k.Accounts p n where
  presentSeen hs := h'.presentSeen (h.presentSeen hs)
  stands hk := by
    obtain ⟨hm, hkm⟩ := h.stands hk
    obtain ⟨hn, hmn⟩ := h'.stands hm
    exact ⟨hn, hkm.trans hmn⟩
  told hs hk := h'.told (h.presentSeen hs) (h.told hs hk)

/-- A change that leaves the state, and rests in FAULTED. -/
theorem Cavity.Accounts.of_rests (hs : m.cc.state = k.cc.state) (hseen : k.presentSeen → m.presentSeen)
    (hr : k.Rests m) : k.Accounts p m where
  presentSeen := hseen
  stands hf := ⟨hs.trans hf, hr.stands⟩
  told _ hk hf := (hk (hs.symm.trans hf)).rests hr

/-- A level or a view of the fan moves. -/
theorem Cavity.Accounts.beside (h : m.recordView = k.recordView) (hcond : m.cond = k.cond)
    (hevents : m.cc.events = k.cc.events) (hmark : m.prb.mark = k.prb.mark) : k.Accounts p m := by
  have read {α : Type} (f : Cavity → α) : f m.recordView = f k.recordView := congrArg f h
  have hs : m.cc.state = k.cc.state := read fun x => x.cc.state
  refine .of_rests hs (fun hs => by rwa [Cavity.presentSeen, hcond]) ⟨h, .of_eq (by rw [hcond]), ?_, ?_, ?_⟩
  · rw [hcond]
    exact fun _ h => h
  · rw [hevents]
    exact fun h => h
  · rw [hmark]
    exact fun h => h

theorem Cavity.Accounts.onset (c : Condition) : k.Accounts e.page (k.onset e c) := by
  have hnoted : k.Accounts e.page (k.withPresent c) :=
    .of_rests rfl Cavity.presentSeen_withPresent
      ⟨rfl, .of_eq rfl, fun d hd => by simp [Cavity.withPresent, hd], fun h => h, fun h => h⟩
  have hjudged : (k.withPresent c).Proceeds e.page (k.onset e c) := .judge fun _ => by simp [Cavity.withPresent]
  exact hnoted.trans hjudged.accounts

theorem Cavity.Accounts.absent (c : Condition) : k.Accounts p (k.absent c) :=
  .of_rests rfl Cavity.presentSeen_absent ⟨rfl, .of_eq rfl, fun _ h => h, fun h => h, fun h => h⟩

theorem Cavity.Accounts.levelReport (c : Condition) (was now : Bool) :
    k.Accounts e.page (k.levelReport e c was now) := by
  unfold Cavity.levelReport
  split_ifs
  · exact .refl k
  · exact .onset c
  · exact .absent c

/-- A view of the fan written, and the fan decided. -/
theorem Cavity.Accounts.fan (f : Fan) (hcommand : f.command = k.fan.command) :
    k.Accounts p ({ k with fan := f } : Cavity).decideFan := by
  have hview : k.Accounts p { k with fan := f } := by
    refine .beside ?_ rfl rfl rfl
    unfold Cavity.recordView
    dsimp only
    rw [hcommand]
  exact hview.trans Cavity.Proceeds.decideFan.accounts

theorem Cavity.Accounts.reportCavityFault (cls : SampleClass) :
    k.Accounts e.page (k.reportCavityFault e cls) := by
  unfold Cavity.reportCavityFault
  split_ifs
  · exact Cavity.Accounts.trans (.onset .sensor) (.fan _ rfl)
  · exact Cavity.Accounts.trans (.absent .sensor) (.fan _ rfl)
  · exact .refl k

theorem Cavity.Accounts.reportDoorFault (cls : SampleClass) : k.Accounts e.page (k.reportDoorFault e cls) := by
  unfold Cavity.reportDoorFault
  split_ifs
  · exact .onset _
  · exact .absent _
  · exact .refl k

theorem Cavity.Accounts.checkOvertemp : k.Accounts e.page (k.checkOvertemp e) := by
  let now : Bool := (e.cfg.limits.cleanCeiling : Int) + e.cfg.limits.overtempMargin < k.prb.cavity.reading
  exact Cavity.Accounts.trans (m := { k with prb := { k.prb with overtemp := now } }) (.beside rfl rfl rfl rfl)
    (.levelReport ..)

theorem Cavity.Accounts.decideDoorHot : k.Accounts e.page (k.decideDoorHot e) := by
  let now : Bool := (e.cfg.limits.doorTrip : Int) ≤ k.prb.door.reading
  exact Cavity.Accounts.trans (m := { k with prb := { k.prb with doorHot := now } }) (.beside rfl rfl rfl rfl)
    (.levelReport ..)

theorem Cavity.Accounts.decideDoorWarm : k.Accounts e.page (k.decideDoorWarm e) := by
  unfold Cavity.decideDoorWarm
  dsimp only
  split
  · exact .refl k
  · let now : Bool := k.prb.warmNow e.cfg.limits.doorWarn
    refine Cavity.Accounts.trans (m := { k with prb := { k.prb with doorWarm := now } }) (.beside rfl rfl rfl rfl) ?_
    exact Cavity.Accounts.trans (.levelReport (e := e) .doorWarm k.prb.doorWarm now) (.fan _ rfl)

theorem Cavity.Accounts.sampleHead (v : Int) : (k.probed v).Accounts e.page (k.sampleHead e v) := by
  unfold Cavity.sampleHead
  dsimp only
  split
  · exact Cavity.Accounts.trans (.reportCavityFault _) .checkOvertemp
  · exact .reportCavityFault _

/-- A cavity sample, once its probe has taken it. -/
theorem Cavity.Accounts.cavitySample (hs : k.lock.shaped) (v : Int) :
    (k.probed v).Accounts e.page (k.cavitySample e v) := by
  rw [Cavity.cavitySample_eq_rest]
  exact Cavity.Accounts.trans (.sampleHead v)
    (Cavity.Proceeds.sampleRest (Cavity.sampleHead_shaped v hs) _ _).accounts

/-- A door sample, once its probe has taken it. -/
theorem Cavity.Accounts.doorSample (v : Int) : (k.doorProbed v).Accounts e.page (k.doorSample e v) := by
  rw [Cavity.doorSample_eq]
  have hreport := Cavity.Accounts.reportDoorFault (e := e) (k := k.doorProbed v) (k.prb.door.doorClass v)
  split
  · exact hreport.trans (Cavity.Accounts.trans .decideDoorHot .decideDoorWarm)
  · exact hreport

end Samples

end Sys2Proof.Machine

namespace Sys2Proof.Machine

/-! ## What a command makes of a cavity -/

/-- What the statements on trips say of a cavity over one command: where the command carries no FAULT CLEAR and no
start-up (`stay`), a FAULTED cavity stays so with its record; one that the command takes to FAULTED is told by its
trip, and where the command is neither a sample nor a switch change (`spare`) the trip spares what it spares. -/
structure Cavity.Comes (stay spare : Prop) (p : CavityPage) (k m : Cavity) : Prop where
  stands : stay → k.cc.state = .faulted → m.cc.state = .faulted ∧ k.RecordStands m
  told : k.cc.state ≠ .faulted → k.presentSeen → k.lock.shaped → m.cc.state = .faulted → m.Told p
  spares : spare → k.cc.state ≠ .faulted → k.lock.shaped → m.cc.state = .faulted → k.tripSpares m

section Comes
variable {stay spare : Prop} {p : CavityPage} {e : Env} {k m n : Cavity}

theorem Cavity.Proceeds.tripSpares (h : k.Proceeds p m) : k.tripSpares m := by
  obtain ⟨hlocked, hopen, hdoor⟩ : m.lock.lockedSw = k.lock.lockedSw ∧ m.lock.openSw = k.lock.openSw ∧
      m.lock.doorClosed = k.lock.doorClosed := by simpa [Lock.switches] using h.switches
  exact ⟨h.probes, hlocked, hopen, hdoor, h.probeView, h.warmView, fun c _ => h.seen c⟩

/-- A change that proceeds from a cavity not FAULTED, and keeps the record of a FAULTED one. -/
theorem Cavity.Comes.of_cases
    (hf : k.cc.state = .faulted → m.cc.state = .faulted ∧ k.RecordStands m)
    (hp : k.cc.state ≠ .faulted → k.lock.shaped → k.Proceeds p m) : k.Comes stay spare p m where
  stands _ := hf
  told hk hs hl := (hp hk hl).told hs fun h => absurd h hk
  spares _ hk hl _ := (hp hk hl).tripSpares

theorem Cavity.Proceeds.comes (h : k.Proceeds p m) : k.Comes stay spare p m := .of_cases h.stands fun _ _ => h

/-- A change after which a cavity is FAULTED only where it was so. -/
theorem Cavity.Comes.of_unfaulted (hf : stay → k.cc.state = .faulted → m.cc.state = .faulted ∧ k.RecordStands m)
    (hm : k.cc.state ≠ .faulted → m.cc.state ≠ .faulted) : k.Comes stay spare p m :=
  ⟨hf, fun hk _ _ h => absurd h (hm hk), fun _ hk _ h => absurd h (hm hk)⟩

/-- Neither the state nor the record of a FAULTED cavity moves. -/
structure Cavity.Stays (k m : Cavity) : Prop where
  state : m.cc.state = k.cc.state
  stands : k.cc.state = .faulted → k.RecordStands m

theorem Cavity.Stays.of_eq (hs : m.cc.state = k.cc.state) (ht : m.cond.trip = k.cond.trip) : k.Stays m :=
  ⟨hs, fun _ => .of_eq ht⟩

theorem Cavity.Stays.refl (k : Cavity) : k.Stays k := .of_eq rfl rfl

theorem Cavity.Stays.trans (h : k.Stays m) (h' : m.Stays n) : k.Stays n :=
  ⟨h'.state.trans h.state, fun hk => (h.stands hk).trans (h'.stands (h.state.trans hk))⟩

theorem Cavity.Stays.comes (h : k.Stays m) : k.Comes stay spare p m :=
  .of_unfaulted (fun _ hf => ⟨h.state.trans hf, h.stands hf⟩) fun hk => h.state ▸ hk

/-- A sample or a switch change: a change beside the state and the record, which then accounts for itself. -/
theorem Cavity.Comes.after (hspare : ¬ spare) (hs : m.cc.state = k.cc.state) (hc : m.cond = k.cond)
    (hf : k.cc.state = .faulted → n.cc.state = .faulted ∧ k.RecordStands n)
    (h : k.lock.shaped → m.Accounts p n) : k.Comes stay spare p n where
  stands _ := hf
  told hk hseen hl := (h hl).told (by rwa [Cavity.presentSeen, hc]) fun hm => absurd (hs.symm.trans hm) hk
  spares h := absurd h hspare

/-- A change at the lock drive with its reports, in FAULTED. -/
theorem Cavity.lockChanged_stands (res : Lock × List LockReport) (hk : k.cc.state = .faulted) :
    (k.lockChanged e res).cc.state = .faulted ∧ k.RecordStands (k.lockChanged e res) :=
  (Cavity.Proceeds.reports Cavity.sendsOn_release res.2 { k with lock := res.1 }).stands hk

theorem Cavity.Comes.lockChanged {res : Lock × List LockReport} (hl : res.1.switches = k.lock.switches) :
    k.Comes stay spare e.page (k.lockChanged e res) :=
  .of_cases (Cavity.lockChanged_stands res) fun hk _ => .lockChanged hl hk

/-- A switch has changed. -/
theorem Cavity.Comes.switched (hspare : ¬ spare) (res : Lock × List LockReport) :
    k.Comes stay spare e.page (k.lockChanged e res) :=
  .after (m := { k with lock := res.1 }) hspare rfl rfl (Cavity.lockChanged_stands res) fun _ =>
    (Cavity.Proceeds.reports Cavity.sendsOn_release res.2 _).accounts

theorem Cavity.Comes.cavitySample (hspare : ¬ spare) (v : Int) :
    k.Comes stay spare e.page (k.cavitySample e v) := by
  refine .after (m := k.probed v) hspare rfl rfl (fun hk => ?_) fun hs => .cavitySample hs v
  obtain ⟨hhead, hstands⟩ := (Cavity.Accounts.sampleHead (e := e) (k := k) v).stands hk
  rw [Cavity.cavitySample_eq_rest]
  have hrest := Cavity.staysTripped_sampleRest (e := e) hhead (k.prb.cavity.sampleClass v)
    (decide ((k.prb.cavity.after (-400) 6000 v).taken = 3))
  exact ⟨hrest.state.trans hhead, Cavity.RecordStands.trans hstands (.of_eq hrest.trip)⟩

theorem Cavity.Comes.doorSample (hspare : ¬ spare) (v : Int) : k.Comes stay spare e.page (k.doorSample e v) :=
  .after (m := k.doorProbed v) hspare rfl rfl (Cavity.Accounts.doorSample (e := e) (k := k) v).stands
    fun _ => .doorSample v

/-- FAULT CLEAR does nothing to a cavity that is not FAULTED. -/
theorem Cavity.Comes.faultClear (hstay : ¬ stay) : k.Comes stay spare p (k.faultClear e).1 := by
  refine .of_unfaulted (fun h => absurd h hstay) fun hk => ?_
  unfold Cavity.faultClear
  rwa [if_pos hk]

theorem Cavity.Stays.eventsAck (b : Byte) : k.Stays (k.eventsAck b).1 := by
  unfold Cavity.eventsAck
  split <;> exact .of_eq rfl rfl

theorem Cavity.Stays.conditionsAck (w : Word16) : k.Stays (k.conditionsAck w).1 := by
  unfold Cavity.conditionsAck
  split <;> exact .of_eq rfl rfl

/-- The channels alone move. -/
theorem Cavity.butChannels.proceeds (h : k.butChannels m) : k.Proceeds p m := by
  refine .same ?_
  rw [h]
  rfl

end Comes

end Sys2Proof.Machine

namespace Sys2Proof.Machine

/-! ## A SETTING WRITE and the trips (R136, R138, R162)

The trip enables of a cavity are the one setting of their page that touches a cavity, and a run of values meets
them once: the enables that a trip of the run was decided by are those that stand after it. -/

/-- The page on which a setting stands. -/
def SettingId.pageOf : SettingId → Nat
  | .fittedCount | .budgetCeiling | .ratedVoltage | .mainsLow | .mainsHigh | .markCount | .clearMode | .partMask
  | .travelTimeout => 0
  | .rating _ _ => 1
  | .cleanCeiling | .cookCeiling | .overtempMargin | .unlockLevel | .doorWarn | .doorTrip | .cycleLimit
  | .holdLimit => 2
  | .gain c | .rampBand c | .soakBand c | .tripEnables c | .attnMask c | .fanOn c | .fanOff c => 3 + c.val

section Addresses
variable {page idx : Nat} {id : SettingId} {c : CavNo}

theorem partAddr_pageOf (h : partAddr idx = some id) : id.pageOf = 0 := by
  unfold partAddr at h
  split at h <;> cases h <;> rfl

theorem limitAddr_pageOf (h : limitAddr idx = some id) : id.pageOf = 2 := by
  unfold limitAddr at h
  split at h <;> cases h <;> rfl

theorem cavityAddr_pageOf (h : cavityAddr c idx = some id) : id.pageOf = 3 + c.val := by
  unfold cavityAddr at h
  split at h <;> cases h <;> rfl

/-- A setting is addressed on its own page. -/
theorem settingAddr_pageOf (h : settingAddr page idx = some id) : page = id.pageOf := by
  unfold settingAddr at h
  split at h
  · exact (partAddr_pageOf h).symm
  · split at h <;> cases h
    rfl
  · exact (limitAddr_pageOf h).symm
  · exact (cavityAddr_pageOf h).symm
  · exact (cavityAddr_pageOf h).symm
  · exact (cavityAddr_pageOf h).symm
  · cases h

theorem cavityAddr_tripEnables {d : CavNo} (h : cavityAddr c idx = some (.tripEnables d)) : idx = 3 := by
  unfold cavityAddr at h
  split at h <;> cases h
  rfl

/-- The trip enables stand at index 3 of their page. -/
theorem settingAddr_tripEnables (h : settingAddr page idx = some (.tripEnables c)) : idx = 3 := by
  have hpage := settingAddr_pageOf h
  subst hpage
  fin_cases c <;> exact cavityAddr_tripEnables h

end Addresses

section TripEnables
variable {p q : CavityPage} {k m n : Cavity}

theorem tripsIn_congr (h : p.tripEnables = q.tripEnables) (st : CavState) (c : Condition) :
    tripsIn p st c = tripsIn q st c := by
  unfold tripsIn
  rw [h]

theorem Cavity.Told.congr (h : p.tripEnables = q.tripEnables) (ht : k.Told p) : k.Told q := by
  obtain ⟨x, hx, ⟨htrips, hrec⟩, hrest⟩ := ht
  exact ⟨x, hx, ⟨tripsIn_congr h _ _ ▸ htrips, hrec⟩, hrest⟩

/-- Of a page, the trips read the enables alone. -/
theorem Cavity.Proceeds.congr (h : p.tripEnables = q.tripEnables) (hk : k.Proceeds p m) : k.Proceeds q m where
  toHandles := hk.toHandles
  switches := hk.switches
  stands := hk.stands
  told hs ht hm := (hk.told hs (fun hf => (ht hf).congr h.symm) hm).congr h

/-- What the values of a write make of a cavity. -/
structure Cavity.Writes (p : CavityPage) (k m : Cavity) : Prop where
  stands : k.cc.state = .faulted → m.cc.state = .faulted ∧ k.RecordStands m
  shaped : k.lock.shaped → m.lock.shaped
  proceeds : k.lock.shaped → k.Proceeds p m

theorem Cavity.Writes.of_proceeds (h : k.Proceeds p m) (hl : k.lock.shaped → m.lock.shaped) : k.Writes p m :=
  ⟨h.stands, hl, fun _ => h⟩

theorem Cavity.Writes.refl (k : Cavity) : k.Writes p k := .of_proceeds (.refl k) fun h => h

theorem Cavity.Writes.trans (h : k.Writes p m) (h' : m.Writes p n) : k.Writes p n where
  stands hk := by
    obtain ⟨hm, hkm⟩ := h.stands hk
    obtain ⟨hn, hmn⟩ := h'.stands hm
    exact ⟨hn, hkm.trans hmn⟩
  shaped hl := h'.shaped (h.shaped hl)
  proceeds hl := (h.proceeds hl).trans (h'.proceeds (h.shaped hl))

theorem Cavity.Writes.congr (h : p.tripEnables = q.tripEnables) (hk : k.Writes p m) : k.Writes q m :=
  ⟨hk.stands, hk.shaped, fun hl => (hk.proceeds hl).congr h⟩

theorem Cavity.Writes.comes {stay spare : Prop} (h : k.Writes p m) : k.Comes stay spare p m :=
  .of_cases h.stands fun _ => h.proceeds

theorem Cavity.Writes.clampCook {e : Env} : k.Writes e.page (k.clampCook e) := by
  refine .of_proceeds .clampCook fun hl => ?_
  obtain ⟨-, hshaped, -⟩ := (Cavity.Acts.clampCook (e := e)).lockShaped hl
  exact hshaped

theorem Cavity.Writes.unlockLowered {e : Env} : k.Writes e.page (k.unlockLowered e) where
  stands hk := by
    unfold Cavity.unlockLowered
    split
    · exact ⟨hk, .of_eq rfl⟩
    · exact Cavity.lockChanged_stands _ hk
  shaped hl := (Cavity.lockLawful_iff.1 (Cavity.lockLawful_unlockLowered (e := e) hl)).1
  proceeds hl := .unlockLowered hl

theorem Cavity.Writes.decideAmong {e : Env} (asked : Condition → Bool) :
    k.Writes e.page (k.decideAmong e asked) := by
  refine .of_proceeds (.decideAmong asked) fun hl => ?_
  obtain ⟨-, hshaped, -⟩ := (Cavity.Acts.decideAmong (e := e) asked).lockShaped hl
  exact hshaped

theorem Cavity.butChannels.writes (h : k.butChannels m) : k.Writes p m := by
  refine .of_proceeds h.proceeds fun hl => ?_
  rw [h]
  exact hl

end TripEnables

section Budget
variable {s t : State}

theorem Cavity.butChannels.trans {k m n : Cavity} (h : k.butChannels m) (h' : m.butChannels n) :
    k.butChannels n := by
  unfold Cavity.butChannels at *
  rw [h', h]

theorem State.walkStep_butChannels (s : State) (n : Nat) (c : CavNo) :
    (s.cav c).butChannels ((s.walkStep n).cav c) := by
  rw [State.walkStep_eq]
  split
  · unfold State.setChan
    by_cases hc : c = channelCav n
    · subst hc
      rw [State.cav_setCav_same]
      exact (Cavity.butChannels.refl _).setChannel _ _
    · rw [State.cav_setCav_other _ _ _ hc]
      exact .refl _
  · exact .refl _

/-- A lowered budget moves nothing of a cavity but its channels. -/
theorem State.lowerBudget_butChannels (s : State) (v : Nat) (c : CavNo) :
    (s.cav c).butChannels ((s.lowerBudget v).cav c) := by
  have hwalk (ns : List Nat) : ∀ u : State, (u.cav c).butChannels ((ns.foldl State.walkStep u).cav c) := by
    induction ns with
    | nil => exact fun u => .refl _
    | cons n ns ih => exact fun u => (u.walkStep_butChannels n c).trans (ih _)
  unfold State.lowerBudget
  split
  · have h := hwalk s.sched.ranking.reverse { s with sched := { s.sched with budget := v } }
    rwa [State.cav_withSched] at h
  · exact .refl _

theorem State.storeBudgetCeiling_butChannels (s : State) (v : Nat) (c : CavNo) :
    (s.cav c).butChannels ((s.storeSetting .budgetCeiling v).cav c) := by
  rw [State.storeBudgetCeiling_eq]
  split
  · rw [State.ceilingLowered_eq]
    have h := State.lowerBudget_butChannels ((s.stored .budgetCeiling v).withLend
      (min (s.stored .budgetCeiling v).sched.lend (s.stored .budgetCeiling v).cfg.part.budgetCeiling))
      (s.stored .budgetCeiling v).cfg.part.budgetCeiling c
    rwa [State.withLend_cav, State.stored_cav] at h
  · rw [State.stored_cav]
    exact .refl _

end Budget

section Stored
variable {s t : State}

/-- A value stored, the fitted count apart, to the cavities. -/
theorem State.storeSetting_writes {id : SettingId} (hid : id ≠ .fittedCount) (v : Nat) (c : CavNo) :
    (s.cav c).Writes ((s.cfg.set id v).page c) ((s.storeSetting id v).cav c) := by
  have alone (id : SettingId) : (s.cav c).Writes ((s.cfg.set id v).page c) ((s.stored id v).cav c) := by
    rw [State.stored_cav]
    exact .refl _
  have all (id : SettingId) {f : Env → Cavity → Cavity} (h : ∀ e k, Cavity.Writes e.page k (f e k)) :
      (s.cav c).Writes ((s.cfg.set id v).page c) (((s.stored id v).onCavs f).cav c) := by
    rw [State.onCavs_cav, State.stored_cav]
    exact h ((s.stored id v).env c) (s.cav c)
  cases id with
  | fittedCount => exact absurd rfl hid
  | budgetCeiling => exact (s.storeBudgetCeiling_butChannels v c).writes
  | cleanCeiling =>
    unfold State.storeSetting
    dsimp only
    split
    · exact all .cleanCeiling fun e k => .of_proceeds .clampClean fun h => h
    · exact alone .cleanCeiling
  | cookCeiling =>
    unfold State.storeSetting
    dsimp only
    split
    · exact all .cookCeiling fun e k => .clampCook
    · exact alone .cookCeiling
  | unlockLevel =>
    unfold State.storeSetting
    dsimp only
    split
    · exact all .unlockLevel fun e k => .unlockLowered
    · exact alone .unlockLevel
  | tripEnables d =>
    show (s.cav c).Writes _ (((s.stored (.tripEnables d) v).onCav d
      (Cavity.enablesWritten (s.cfg.page d))).cav c)
    unfold State.onCav
    by_cases hc : c = d
    · subst hc
      rw [State.cav_setCav_same, State.stored_cav]
      exact .decideAmong (e := (s.stored (.tripEnables c) v).env c) _
    · rw [State.cav_setCav_other _ _ _ hc]
      exact alone _
  | _ => exact alone _

/-- The settings that leave a cavity's record but for its channels when they are stored. -/
theorem State.storeSetting_cav_same {id : SettingId} {c : CavNo} (h2 : id.pageOf ≠ 2) (h0 : id.pageOf ≠ 0)
    (hc : id ≠ .tripEnables c) (v : Nat) : (s.storeSetting id v).cav c = s.cav c := by
  cases id with
  | fittedCount | budgetCeiling => exact absurd rfl h0
  | cleanCeiling | cookCeiling | unlockLevel => exact absurd rfl h2
  | tripEnables d =>
    have hd : c ≠ d := fun h => hc (h ▸ rfl)
    show ((s.stored (.tripEnables d) v).setCav d _).cav c = s.cav c
    rw [State.cav_setCav_other _ _ _ hd, State.stored_cav]
  | _ => exact State.stored_cav _ v c

theorem Settings.tripEnables_set (f : Settings) {id : SettingId} {c : CavNo} (hc : id ≠ .tripEnables c) (v : Nat) :
    ((f.set id v).page c).tripEnables = (f.page c).tripEnables := by
  cases id with
  | gain d | rampBand d | soakBand d | attnMask d | fanOn d | fanOff d =>
    simp only [Settings.set, Settings.page_setPage]
    split
    next h => rw [h]
    next => rfl
  | tripEnables d =>
    have hd : c ≠ d := fun h => hc (h ▸ rfl)
    simp only [Settings.set, Settings.page_setPage, if_neg hd]
  | rating d p => fin_cases d <;> fin_cases c <;> rfl
  | _ => rfl

/-- The trip enables of a cavity stand at the index, or at a later one, of the page. -/
def enablesFrom (page idx : Nat) (c : CavNo) : Prop := ∃ j, idx ≤ j ∧ settingAddr page j = some (.tripEnables c)

/-- One value of a write: a refusal, a segment's field, or a setting stored. -/
theorem State.writeValue_cases (s : State) (page idx : Nat) (w : Word16) :
    (∀ c, (s.writeValue page idx w).1.cav c = s.cav c) ∧ (s.writeValue page idx w).1.cfg = s.cfg ∨
      ∃ id v, settingAddr page idx = some id ∧ (s.writeValue page idx w).1 = s.storeSetting id v ∧
        (id = .fittedCount → ∀ c, (s.cav c).cc.state = .idle) := by
  unfold State.writeValue
  split
  · left
    unfold writeSegValue
    split
    · exact ⟨fun _ => rfl, rfl⟩
    split_ifs
    · exact ⟨fun _ => rfl, rfl⟩
    · exact ⟨fun _ => rfl, rfl⟩
    · exact ⟨State.cav_congr rfl rfl rfl, rfl⟩
    · exact ⟨fun _ => rfl, rfl⟩
  split
  · exact .inl ⟨fun _ => rfl, rfl⟩
  next id hid =>
    unfold State.writeSetting
    split
    · exact .inl ⟨fun _ => rfl, rfl⟩
    next hidle =>
      split
      · exact .inl ⟨fun _ => rfl, rfl⟩
      next v r _ =>
        refine .inr ⟨id, v, hid, rfl, fun hfitted => ?_⟩
        have hall : s.allCav (fun k => k.cc.state = .idle) = true := by simpa [hfitted] using hidle
        simp only [State.allCav, Bool.and_eq_true, decide_eq_true_eq] at hall
        obtain ⟨⟨h0, h1⟩, h2⟩ := hall
        exact State.cav_cases h0 h1 h2

/-- One value of a write on a page but the first: the cavity is left, or no trip enables of it come later. -/
theorem State.writeValue_writes {page : Nat} (hpage : page ≠ 0) (idx : Nat) (w : Word16) (c : CavNo) :
    let t := (s.writeValue page idx w).1
    (t.cav c = s.cav c ∨ (s.cav c).Writes (t.cfg.page c) (t.cav c) ∧ ¬ enablesFrom page (idx + 1) c) ∧
      (¬ enablesFrom page idx c → (t.cfg.page c).tripEnables = (s.cfg.page c).tripEnables) := by
  obtain ⟨hcav, hcfg⟩ | ⟨id, v, hid, ht, -⟩ := s.writeValue_cases page idx w
  · exact ⟨.inl (hcav c), fun _ => by rw [hcfg]⟩
  obtain rfl := settingAddr_pageOf hid
  dsimp only
  rw [ht]
  obtain ⟨hcfg, -⟩ := s.storeSetting_frame id v
  rw [hcfg]
  refine ⟨?_, fun hno => Settings.tripEnables_set _ (fun h => hno ⟨idx, le_rfl, h ▸ hid⟩) v⟩
  have hfitted : id ≠ .fittedCount := by
    rintro rfl
    exact hpage rfl
  by_cases hc : id = .tripEnables c
  · refine .inr ⟨State.storeSetting_writes hfitted v c, fun ⟨j, hj, hlater⟩ => ?_⟩
    have := settingAddr_tripEnables hlater
    have := settingAddr_tripEnables (hc ▸ hid)
    omega
  by_cases h2 : id.pageOf = 2
  · refine .inr ⟨State.storeSetting_writes hfitted v c, fun ⟨j, _, hlater⟩ => ?_⟩
    have hthree : id.pageOf = 3 + c.val := settingAddr_pageOf hlater
    omega
  · exact .inl (State.storeSetting_cav_same h2 hpage hc v)

/-- The values of a write on a page but the first. -/
theorem State.writeRun_writes {page : Nat} (hpage : page ≠ 0) (c : CavNo) (ws : List Word16) :
    ∀ (s : State) (idx : Nat) (worst : Result) (n : Nat),
      let t := (State.writeRun page s idx ws worst n).1
      (s.cav c).Writes (t.cfg.page c) (t.cav c) ∧
        (¬ enablesFrom page idx c → (t.cfg.page c).tripEnables = (s.cfg.page c).tripEnables) := by
  induction ws with
  | nil => exact fun s _ _ _ => ⟨.refl _, fun _ => rfl⟩
  | cons w ws ih =>
    intro s idx worst n
    obtain ⟨hone, hkept⟩ := s.writeValue_writes hpage idx w c
    unfold State.writeRun
    dsimp only at hone hkept ⊢
    split
    · refine ⟨?_, hkept⟩
      obtain hsame | ⟨hwrites, -⟩ := hone
      · rw [hsame]
        exact .refl _
      · exact hwrites
    · obtain ⟨hrest, hlater⟩ := ih (s.writeValue page idx w).1 (idx + 1)
        (worst.worse (s.writeValue page idx w).2) (n + 1)
      refine ⟨?_, fun hno => ?_⟩
      · obtain hsame | ⟨hwrites, hno⟩ := hone
        · rw [hsame] at hrest
          exact hrest
        · exact (hwrites.congr (hlater hno).symm).trans hrest
      · have hno' : ¬ enablesFrom page (idx + 1) c := fun ⟨j, hj, h⟩ => hno ⟨j, by omega, h⟩
        exact (hlater hno').trans (hkept hno)

/-- One value of a write on the first page: a cavity that is refitted is in IDLE before it and after it. -/
theorem State.writeValue_stays (idx : Nat) (w : Word16) (c : CavNo) :
    (s.cav c).Stays ((s.writeValue 0 idx w).1.cav c) := by
  obtain ⟨hcav, -⟩ | ⟨id, v, hid, ht, hidle⟩ := s.writeValue_cases 0 idx w
  · rw [hcav]
    exact .refl _
  rw [ht]
  have hpage : 0 = id.pageOf := settingAddr_pageOf hid
  cases id with
  | fittedCount =>
    obtain ⟨-, -, -, -, hcav⟩ := s.storeFitted_eq v
    show (s.cav c).Stays ((s.storeFitted v).cav c)
    rw [hcav]
    split
    · exact .refl _
    · exact ⟨(hidle rfl c).symm, fun hf => by simp [hidle rfl c] at hf⟩
  | budgetCeiling =>
    have h := s.storeBudgetCeiling_butChannels v c
    exact .of_eq (by rw [h]) (by rw [h])
  | cleanCeiling | cookCeiling | unlockLevel => cases hpage
  | tripEnables d =>
    have hpage : 0 = 3 + d.val := hpage
    omega
  | _ =>
    show (s.cav c).Stays ((s.stored _ v).cav c)
    rw [State.stored_cav]
    exact .refl _

theorem State.writeRun_stays (c : CavNo) (ws : List Word16) : ∀ (s : State) (idx : Nat) (worst : Result) (n : Nat),
    (s.cav c).Stays ((State.writeRun 0 s idx ws worst n).1.cav c) := by
  induction ws with
  | nil => exact fun s _ _ _ => .refl _
  | cons w ws ih =>
    intro s idx worst n
    unfold State.writeRun
    dsimp only
    split
    · exact s.writeValue_stays idx w c
    · exact (s.writeValue_stays idx w c).trans (ih _ _ _ _)

end Stored

end Sys2Proof.Machine

namespace Sys2Proof.Machine

/-! ## What every command makes of the cavities -/

/-- What a command makes of every cavity, by the page of its settings that stands after it. -/
def State.Comes (stay spare : Prop) (s t : State) : Prop :=
  ∀ c, (s.cav c).Comes stay spare (t.cfg.page c) (t.cav c)

section Window
variable {s t u : State}

/-- A window start, its settings being those before. -/
theorem State.windowStart_proceeds (s : State) (c : CavNo) :
    (s.cav c).Proceeds (s.cfg.page c) (s.windowStart.cav c) ∧ s.windowStart.cfg = s.cfg := by
  obtain ⟨⟨hcfg, -⟩, -⟩ := s.windowStart_frame
  refine ⟨?_, hcfg⟩
  unfold State.windowStart
  dsimp only
  obtain ⟨hworkcfg, hwork⟩ := s.onFitted_eq Cavity.windowWork c
  have hplaced := (s.onFitted Cavity.windowWork).placeAll_scheduling
  generalize (s.onFitted Cavity.windowWork).takeVoltage.newWindow.rank.placeAll = w at hplaced
  generalize s.onFitted Cavity.windowWork = u at hworkcfg hwork hplaced
  have hworked : (s.cav c).Proceeds (s.cfg.page c) (u.cav c) := by
    rw [hwork]
    split
    · exact .windowWork (e := s.env c)
    · exact .refl _
  have hchannels : (u.cav c).butChannels (w.cav c) := hplaced.same c
  have hpage : (w.env c).page = s.cfg.page c := by rw [State.env, hplaced.cfg, hworkcfg]
  have hstarved : (w.cav c).Proceeds (s.cfg.page c) ((w.cav c).moveStarve (w.env c)) := by
    rw [← hpage]
    exact .moveStarve
  rw [State.beginSlot_cav, State.onCavs_cav]
  exact (hworked.trans (hchannels.proceeds.trans hstarved)).trans (.same rfl)

end Window

section Comes
variable {stay spare : Prop} {s t u : State}

/-- No cavity moves. -/
theorem State.Comes.aside (h : ∀ c, t.cav c = s.cav c) : s.Comes stay spare t := fun c => by
  rw [h]
  exact (Cavity.Stays.refl _).comes

theorem State.Comes.beside (h0 : t.c0 = s.c0) (h1 : t.c1 = s.c1) (h2 : t.c2 = s.c2) : s.Comes stay spare t :=
  .aside (State.cav_congr h0 h1 h2)

theorem State.Comes.stays (h : ∀ c, (s.cav c).Stays (t.cav c)) : s.Comes stay spare t := fun c => (h c).comes

/-- Something beside the cavities and the settings moves after them. -/
theorem State.Comes.before (h : s.Comes stay spare t) (hcfg : u.cfg = t.cfg) (h0 : u.c0 = t.c0) (h1 : u.c1 = t.c1)
    (h2 : u.c2 = t.c2) : s.Comes stay spare u := fun c => by
  rw [hcfg, State.cav_congr h0 h1 h2 c]
  exact h c

/-- One cavity's blocks do their part where it is fitted. -/
theorem State.Comes.ifFitted (c : CavNo) {f : Env → Cavity → Cavity}
    (h : ∀ e k, Cavity.Comes stay spare e.page k (f e k)) : s.Comes stay spare (s.ifFitted c f) := by
  intro d
  obtain ⟨hcfg, -, hcav⟩ := s.ifFitted_eq c f
  rw [hcfg, hcav]
  split
  · exact h (s.env d) (s.cav d)
  · exact (Cavity.Stays.refl _).comes

theorem State.Comes.setCav (c : CavNo) {k : Cavity} (h : (s.cav c).Comes stay spare (s.cfg.page c) k) :
    s.Comes stay spare (s.setCav c k) := by
  intro d
  rw [State.setCav_cfg]
  by_cases hd : d = c
  · subst hd
    rwa [State.cav_setCav_same]
  · rw [State.cav_setCav_other _ _ _ hd]
    exact (Cavity.Stays.refl _).comes

theorem State.Comes.perCavityOrder (size : Nat) {order : List Byte → Env → Cavity → Cavity × Result}
    (h : ∀ g e k, Cavity.Comes stay spare e.page k (order g e k).1) (r : Request) :
    s.Comes stay spare (perCavityOrder size order r s).1 := by
  intro c
  obtain ⟨hcfg, -⟩ := perCavityOrder_frame size order r s
  rw [hcfg, perCavityOrder_cav]
  split
  · exact h _ (s.env c) (s.cav c)
  · exact (Cavity.Stays.refl _).comes

theorem State.Comes.windowStart : s.Comes stay spare s.windowStart := by
  intro c
  obtain ⟨hcav, hcfg⟩ := s.windowStart_proceeds c
  rw [hcfg]
  exact hcav.comes

/-- The return of mains: every lock is told, and a window starts (R88, R122). -/
theorem State.Comes.mainsReturn (volts : Nat) : s.Comes stay spare (s.mainsReturn volts) := by
  intro c
  rw [State.mainsReturn_eq]
  obtain ⟨hwindow, hcfg⟩ := (s.returned volts).windowStart_proceeds c
  obtain ⟨u, hback, hucfg, hucav⟩ : ∃ u : State, s.returned volts = u.onCavs Cavity.mainsBack ∧ u.cfg = s.cfg ∧
      ∀ c, u.cav c = s.cav c := by
    unfold State.returned
    dsimp only
    split <;> exact ⟨_, rfl, rfl, State.cav_congr rfl rfl rfl⟩
  have hcav : (s.returned volts).cav c = (s.cav c).mainsBack (u.env c) := by rw [hback, State.onCavs_cav, hucav]
  have hset : (s.returned volts).cfg.page c = (u.env c).page := by rw [hback, (u.onCavs_sameButCavs _).cfg]; rfl
  rw [hcfg, hset]
  rw [hset, hcav] at hwindow
  generalize u.env c = e at hwindow
  refine .of_cases (fun hk => ?_) fun hk _ => ?_
  · obtain ⟨hback, hstands⟩ := Cavity.lockChanged_stands (e := e) ((s.cav c).lock.mainsBack ((s.cav c).lockEnv e)) hk
    obtain ⟨hf, hstill⟩ := hwindow.stands hback
    exact ⟨hf, hstands.trans hstill⟩
  · exact Cavity.Proceeds.trans (.lockChanged Lock.switches_mainsBack hk) hwindow

theorem State.Comes.takeReading (volts : Nat) : s.Comes stay spare (s.takeReading volts) := by
  obtain ⟨-, h⟩ | ⟨-, -, h⟩ | ⟨-, -, h⟩ := s.takeReading_cases volts <;> rw [h]
  · exact .beside rfl rfl rfl
  · intro c
    have hcrossing := State.Comes.mainsReturn (stay := stay) (spare := spare) (s := s.crossing) volts c
    rwa [State.cav_congr (s := s) (t := s.crossing) rfl rfl rfl c] at hcrossing
  · exact .beside rfl rfl rfl

theorem State.Comes.crossingExpired : s.Comes stay spare s.crossingExpired := by
  by_cases h : s.mains.present = true
  · refine .stays fun c => ?_
    rw [State.dropout_cav h]
    exact .of_eq rfl rfl
  · unfold State.crossingExpired
    rw [if_neg h]
    exact .beside rfl rfl rfl

theorem State.Comes.beginSlot (j : Nat) : s.Comes stay spare (s.beginSlot j) := by
  refine .stays fun c => ?_
  rw [State.beginSlot_cav]
  exact .of_eq rfl rfl

/-- Start-up leaves no cavity FAULTED. -/
theorem State.Comes.startUp (hstay : ¬ stay) (inp : StartInputs) : s.Comes stay spare (s.startUp inp) := by
  intro c
  obtain ⟨b, sw, h⟩ := s.startUp_cav inp c
  rw [h]
  exact .of_unfaulted (fun h => absurd h hstay) fun _ => nofun

/-! ### Requests and the link -/

theorem State.Comes.takeLend (watts : Nat) : s.Comes stay spare (s.takeLend watts).1 := by
  refine .stays fun c => ?_
  rw [State.takeLend_eq]
  have h := State.lowerBudget_butChannels (s.withLend (min watts s.cfg.part.budgetCeiling))
    (min watts s.cfg.part.budgetCeiling) c
  rw [State.withLend_cav] at h
  exact .of_eq (by rw [h]) (by rw [h])

theorem State.Comes.clearEvents (cs : List CavNo) :
    s.Comes stay spare (cs.foldl (fun t c => t.onCav c fun _ k => k.clearEvents) s) := by
  refine .stays fun c => ?_
  have hall : ∀ u : State,
      (u.cav c).Stays ((cs.foldl (fun t c => t.onCav c fun _ k => k.clearEvents) u).cav c) := by
    induction cs with
    | nil => exact fun u => .refl _
    | cons d ds ih =>
      intro u
      refine Cavity.Stays.trans ?_ (ih _)
      unfold State.onCav
      by_cases hd : c = d
      · subst hd
        rw [State.cav_setCav_same]
        exact .of_eq rfl rfl
      · rw [State.cav_setCav_other _ _ _ hd]
        exact .refl _
  exact hall s

theorem State.Comes.writeRun (page idx : Nat) (ws : List Word16) (worst : Result) (n : Nat) :
    s.Comes stay spare (State.writeRun page s idx ws worst n).1 := by
  intro c
  by_cases hpage : page = 0
  · subst hpage
    exact (State.writeRun_stays c ws s idx worst n).comes
  · exact (State.writeRun_writes hpage c ws s idx worst n).1.comes

/-- What the owning block makes of a request. -/
theorem State.Comes.serve {q : ReqKind} (hq : q = .faultClear → ¬ stay) (r : Request) :
    s.Comes stay spare (q.serve r s).1 := by
  cases q with
  | cleanStart => exact .perCavityOrder 1 (fun g e k => Cavity.Proceeds.comes (.cleanStart _)) r
  | cleanHold => exact .perCavityOrder 0 (fun g e k => Cavity.Proceeds.comes .cleanHold) r
  | cleanResume => exact .perCavityOrder 0 (fun g e k => Cavity.Proceeds.comes .cleanResume) r
  | cleanAbandon => exact .perCavityOrder 0 (fun g e k => Cavity.Proceeds.comes .cleanAbandon) r
  | cookSet => exact .perCavityOrder 3 (fun g e k => Cavity.Proceeds.comes (.cookSet _ _)) r
  | cookOff => exact .perCavityOrder 0 (fun g e k => Cavity.Proceeds.comes .cookOff) r
  | eventsAck => exact .perCavityOrder 1 (fun g e k => Cavity.Stays.comes (.eventsAck _)) r
  | conditionsAck => exact .perCavityOrder 2 (fun g e k => Cavity.Stays.comes (.conditionsAck _)) r
  | faultClear =>
    exact .perCavityOrder 0 (order := fun _ e k => k.faultClear e) (fun g e k => .faultClear (hq rfl)) r
  | budgetLend => exact .takeLend _
  | partEventsAck =>
    simp only [ReqKind.serve, servePartEventsAck]
    split <;> exact .beside rfl rfl rfl
  | restart =>
    simp only [ReqKind.serve, serveRestart]
    split <;> exact .beside rfl rfl rfl
  | cavityStatus =>
    simp only [ReqKind.serve, serveCavityStatus]
    split
    · exact .clearEvents _
    · exact .beside rfl rfl rfl
  | partStatus =>
    simp only [ReqKind.serve, servePartStatus]
    split <;> exact .beside rfl rfl rfl
  | settingRead =>
    simp only [ReqKind.serve, serveSettingRead]
    split
    · split <;> exact .beside rfl rfl rfl
    · exact .beside rfl rfl rfl
  | settingWrite => exact .writeRun _ _ _ _ _
  | storeStage => exact .beside rfl rfl rfl
  | storeDiscard =>
    simp only [ReqKind.serve, serveStoreDiscard]
    split <;> exact .beside rfl rfl rfl
  | storeBurn =>
    simp only [ReqKind.serve, serveStoreBurn]
    split <;> exact .beside rfl rfl rfl
  | storeRead =>
    simp only [ReqKind.serve, serveStoreRead]
    split <;> exact .beside rfl rfl rfl
  | tripRecord | windowStatus => exact .beside rfl rfl rfl

theorem State.Comes.accept {q : ReqKind} (hq : q = .faultClear → ¬ stay) (r : Request) (n : Nat) :
    s.Comes stay spare (s.accept q q.serve r n) := by
  unfold State.accept
  split
  · exact .beside rfl rfl rfl
  · exact State.Comes.before (.serve hq r) rfl rfl rfl rfl

theorem State.Comes.request {q : ReqKind} (hq : q = .faultClear → ¬ stay) (r : Request) :
    s.Comes stay spare (s.request q q.serve r) := by
  unfold State.request
  split_ifs
  · exact .beside rfl rfl rfl
  · exact .beside rfl rfl rfl
  · exact .accept hq r _

theorem State.Comes.judgeFrame (hstay : ¬ stay) : s.Comes stay spare s.judgeFrame := by
  unfold State.judgeFrame
  dsimp only
  split_ifs
  · exact .beside rfl rfl rfl
  · exact .beside rfl rfl rfl
  · exact .beside rfl rfl rfl
  · exact .beside rfl rfl rfl
  · split
    · exact .beside rfl rfl rfl
    · exact .accept (fun _ => hstay) _ _

theorem State.Comes.takeByte (hstay : ¬ stay) (b : Byte) : s.Comes stay spare (s.takeByte b) := by
  unfold State.takeByte
  split
  · exact .beside rfl rfl rfl
  · split <;> exact .beside rfl rfl rfl
  · unfold State.assembleByte
    dsimp only
    split
    · intro c
      have h (l : Link) : s.Comes stay spare ({ s with link := l } : State).judgeFrame := fun c => by
        have hjudged := State.Comes.judgeFrame (stay := stay) (spare := spare) (s := { s with link := l }) hstay c
        rwa [State.cav_congr (s := s) (t := { s with link := l }) rfl rfl rfl c] at hjudged
      exact h _ c
    · exact .beside rfl rfl rfl

theorem State.Comes.replyEnds (hstay : ¬ stay) (inp : StartInputs) : s.Comes stay spare (s.replyEnds inp) := by
  unfold State.replyEnds
  split_ifs
  · exact .startUp hstay inp
  · exact .beside rfl rfl rfl
  · exact .beside rfl rfl rfl

/-! ### Every command -/

/-- A command that can carry neither a FAULT CLEAR nor a start-up. -/
def staysTripped (i : Instr) : Prop :=
  (∀ r : Request, i ≠ .faultClear r) ∧ (∀ inp : StartInputs, i ≠ .startUp inp ∧ i ≠ .replyEnd inp) ∧
    ∀ b : Byte, i ≠ .receivedByte b

/-- A command that is neither a sample nor a switch change. -/
def sparesProbes (i : Instr) : Prop :=
  (∀ (d : CavNo) (v : Int), i ≠ .cavitySample d v ∧ i ≠ .doorSample d v) ∧
    ∀ (d : CavNo) (sw : EndSwitch) (b : Bool), i ≠ .lockSwitchChange d sw b ∧ i ≠ .doorSwitchChange d b

theorem exec_comes {i : Instr} (h : exec i s = .next t) : s.Comes (staysTripped i) (sparesProbes i) t := by
  have key (u : State) (hu : exec i s = u.settled) (hs : s.Comes (staysTripped i) (sparesProbes i) u) :
      s.Comes (staysTripped i) (sparesProbes i) t := by
    obtain rfl : u.decideAttn = t := by
      have := hu.symm.trans h
      simpa [State.settled] using this
    exact hs.before rfl rfl rfl rfl
  cases i with
  | startUp inp => exact key _ rfl (.startUp (fun ⟨_, hno, _⟩ => (hno inp).1 rfl) inp)
  | linkOpen =>
    refine key _ rfl ?_
    unfold State.openLink
    split <;> exact .beside rfl rfl rfl
  | receivedByte b => exact key _ rfl (.takeByte (fun ⟨_, _, hno⟩ => hno b rfl) b)
  | frameCut =>
    refine key _ rfl ?_
    unfold State.cutFrame
    split <;> exact .beside rfl rfl rfl
  | replyEnd inp => exact key _ rfl (.replyEnds (fun ⟨_, hno, _⟩ => (hno inp).2 rfl) inp)
  | cleanStart r => exact key _ rfl (.request (q := .cleanStart) nofun r)
  | cleanHold r => exact key _ rfl (.request (q := .cleanHold) nofun r)
  | cleanResume r => exact key _ rfl (.request (q := .cleanResume) nofun r)
  | cleanAbandon r => exact key _ rfl (.request (q := .cleanAbandon) nofun r)
  | cookSet r => exact key _ rfl (.request (q := .cookSet) nofun r)
  | cookOff r => exact key _ rfl (.request (q := .cookOff) nofun r)
  | eventsAck r => exact key _ rfl (.request (q := .eventsAck) nofun r)
  | conditionsAck r => exact key _ rfl (.request (q := .conditionsAck) nofun r)
  | faultClear r => exact key _ rfl (.request (q := .faultClear) (fun _ ⟨hno, _⟩ => hno r rfl) r)
  | budgetLend r => exact key _ rfl (.request (q := .budgetLend) nofun r)
  | partEventsAck r => exact key _ rfl (.request (q := .partEventsAck) nofun r)
  | restart r => exact key _ rfl (.request (q := .restart) nofun r)
  | cavityStatus r => exact key _ rfl (.request (q := .cavityStatus) nofun r)
  | tripRecord r => exact key _ rfl (.request (q := .tripRecord) nofun r)
  | windowStatus r => exact key _ rfl (.request (q := .windowStatus) nofun r)
  | partStatus r => exact key _ rfl (.request (q := .partStatus) nofun r)
  | settingRead r => exact key _ rfl (.request (q := .settingRead) nofun r)
  | settingWrite r => exact key _ rfl (.request (q := .settingWrite) nofun r)
  | storeStage r => exact key _ rfl (.request (q := .storeStage) nofun r)
  | storeDiscard r => exact key _ rfl (.request (q := .storeDiscard) nofun r)
  | storeBurn r => exact key _ rfl (.request (q := .storeBurn) nofun r)
  | storeRead r => exact key _ rfl (.request (q := .storeRead) nofun r)
  | byteProgrammingComplete b =>
    refine key _ rfl ?_
    unfold State.byteProgrammed
    dsimp only
    split <;> exact .beside rfl rfl rfl
  | cavitySample c v =>
    exact key _ rfl (.ifFitted c fun e k => .cavitySample (fun ⟨hno, _⟩ => (hno c v).1 rfl) v)
  | doorSample c v =>
    exact key _ rfl (.ifFitted c fun e k => .doorSample (fun ⟨hno, _⟩ => (hno c v).2 rfl) v)
  | windowStart =>
    refine key _ rfl ?_
    split
    · exact .windowStart
    · exact .beside rfl rfl rfl
  | slotBoundary =>
    refine key _ rfl ?_
    unfold State.nextSlot
    split
    · split
      · exact .beginSlot _
      · exact .beside rfl rfl rfl
    · exact .beside rfl rfl rfl
  | zeroCrossing => exact key _ rfl (.beside rfl rfl rfl)
  | cycleReading volts => exact key _ rfl (.takeReading volts)
  | dropout => exact key _ rfl .crossingExpired
  | lockSwitchChange c sw active =>
    refine key _ rfl ?_
    split
    · exact .setCav c (.switched (e := s.env c) (fun ⟨_, hno⟩ => (hno c sw active).1 rfl) _)
    · exact .setCav c (Cavity.Stays.comes (.of_eq rfl rfl))
  | doorSwitchChange c closed =>
    refine key _ rfl ?_
    split
    · exact .setCav c (.switched (e := s.env c) (fun ⟨_, hno⟩ => (hno c .locked closed).2 rfl) _)
    · exact .setCav c (Cavity.Stays.comes (.of_eq rfl rfl))
  | travelTimeout c => exact key _ rfl (.ifFitted c fun e k => .lockChanged Lock.switches_timeout)
  | levelReview =>
    refine key _ rfl fun c => ?_
    rw [s.reviewLevels_frame.cfg, State.reviewLevels_cav]
    split
    · exact (Cavity.Proceeds.levelReview (e := s.env c)).comes
    · exact (Cavity.Stays.refl _).comes
  | tachPulse c => exact key _ rfl (.ifFitted c fun e k => Cavity.Proceeds.comes .tachPulse)
  | tachTimerExpiry c => exact key _ rfl (.ifFitted c fun e k => Cavity.Proceeds.comes .tachExpiry)

end Comes

/-! ## The statements -/

/-- Every command keeps the heat law. -/
theorem exec_heatLaw {i : Instr} {s t : State} (h : exec i s = .next t) (hs : s.HeatLaw) : t.HeatLaw := by
  have hall : ∀ u, State.Shifts s u → u.HeatLaw := by
    intro u hu
    induction hu with
    | refl => exact hs
    | tail _ hl ih => exact hl.heatLaw ih
  exact hall t (exec_shifts h)

/-- What a trip tells of a cavity, with what the heat law says of a FAULTED one. -/
theorem Cavity.Told.toldByTrip {p : CavityPage} {slot : Option Nat} {k : Cavity} (h : k.Told p)
    (hheat : k.heatLawful slot) (hk : k.cc.state = .faulted) : k.toldByTrip p slot := by
  obtain ⟨hchannels, hcat⟩ := hheat
  obtain ⟨x, hx, ⟨htrips, hcavity, hdoor, hcycle, hlock, hrest, hstart, hspeff, hdemand, hsetpoint, hset, hfan,
    hstarve, hend, hprogram, hindex⟩, hseen, hevent, hmark⟩ := h
  refine ⟨x, hx, htrips, hcavity, hdoor, hcycle, hlock, hseen, hstart, hspeff, hdemand, hsetpoint, hset,
    fun p _ => ?_, ?_, hfan, hstarve, ?_, ?_, hevent, hend, fun hb => ?_, hindex⟩
  · rw [Bool.eq_false_iff]
    intro hholds
    have hallowed := (hchannels p).1.2 hholds
    rw [hk] at hallowed
    cases p <;> cases hallowed
  · rw [Bool.eq_false_iff]
    intro hon
    rw [hk] at hcat
    cases hcat hon
  · intro hc
    rw [hc] at hrest
    cases hrest
  · intro ho
    rw [ho] at hrest
    cases hrest
  · obtain ⟨hseg, hstack, helapsed, hsoak⟩ := hprogram hb
    exact ⟨hseg, hstack, helapsed, hsoak, hmark hb⟩

/-- Settles O59: every operation of a cavity proceeds or accounts for itself, so that one that is FAULTED after a
command, and was not before it, is told by its trip. -/
theorem tripsDoTheirActions : Obligations.TripsDoTheirActions := by
  unfold Obligations.TripsDoTheirActions
  intro i s t c h hlock hheat hseen hk hm
  obtain ⟨-, htold, hspares⟩ := exec_comes h c
  obtain ⟨hshaped, -⟩ := hlock c
  exact ⟨(htold hk (hseen c) hshaped hm).toldByTrip (exec_heatLaw h hheat c) hm,
    fun hsample hswitch => hspares ⟨hsample, hswitch⟩ hk hshaped hm⟩

/-- Settles O60: every operation of a cavity but FAULT CLEAR and start-up leaves a FAULTED one with its record. -/
theorem tripRecordStandsUntilCleared : Obligations.TripRecordStandsUntilCleared := by
  unfold Obligations.TripRecordStandsUntilCleared
  intro i s t c h htrip hk hclear hstart hbyte
  obtain ⟨hstands, -, -⟩ := exec_comes h c
  obtain ⟨hm, hrecord⟩ := hstands ⟨hclear, hstart, hbyte⟩ hk
  obtain ⟨x, hx⟩ := Option.isSome_iff_exists.1 ((htrip c).2 hk)
  obtain ⟨y, hy, hgrown, hlater⟩ := hrecord x hx
  exact ⟨hm, x, hx, y, hy, hgrown, fun d _ => hlater d⟩

end Sys2Proof.Machine
